-- ==== Sys2Proof/Word.lean ====
section
/-! DEFINITION. The word types of the UB8612: bytes of frames, two-byte fields, and the index types of its numbered things. -/

namespace Sys2Proof

/-- A byte is eight bits (00_scope.md 0.9, convention 3). -/
abbrev Byte := BitVec 8

/-- A two-byte field or a 16-bit counter. -/
abbrev Half := BitVec 16

/-- A device port 0-11 (00_scope.md 0.7, "device line, port"). -/
abbrev PortId := Fin 12

/-- A unit 1-24; index `u` stands for the unit address `u + 1` (R1). -/
abbrev UnitId := Fin 24

/-- A group entry; index `g` stands for the group address `g + 25` (R87). -/
abbrev GroupId := Fin 7

/-- A customer position 1-8; index `k` stands for position `k + 1` (R116). -/
abbrev PosId := Fin 8

/-- A record of the exchange pool (R50). -/
abbrev RecId := Fin 24

end Sys2Proof
end

