-- ==== Sys2Proof/Syntax.lean ====
section
/-! DEFINITION. The commands of the UB8612: one constructor of `Instr` for each row of spec/opcode_table.json, with the row's operands. -/

namespace Sys2Proof

/-- Expected class of a route entry (Table 1.2). -/
inductive ExpectedClass
  | any | reader | keypad
  deriving DecidableEq, Repr

/-- The contents of one section of a route entry (Table 1.2), as a storage upset leaves them (R4, log 21). -/
inductive RouteSection
  | ports (primary : PortId) (standby : Option PortId)
  | cls (expected : ExpectedClass)
  deriving DecidableEq, Repr

/-- The contents of one section of a group entry (Table 5.1), as a storage upset leaves them (R88, log 21). -/
inductive GroupSection
  | members (units : List UnitId)
  | count (expected : Byte)
  deriving DecidableEq, Repr

/-- What brings a cold reset about: power-up or the RESETn pin (R168). -/
inductive ColdCause
  | power | pin
  deriving DecidableEq, Repr

/-- One character as it arrives on a device line: its data, the level of its parity bit, and the level at which its stop
bit is sampled, high being the right one (R21). The parity bit has a meaning only when the port's C is 11. -/
structure RxChar where
  data : Byte
  parity : Bool
  stop : Bool
  deriving DecidableEq, Repr

/-- The commands. A request row stands for the good frame of that request, dispatched and taken by its owner (log 3);
`tag` is the frame's tag and `params` the bytes after the management code (Table 12.7). -/
inductive Instr
  | coldReset (cause : ColdCause) (rate1 rate0 : Bool)
  | wreadyAsserted
  | presenceAsserted (port : PortId)
  | presenceLost (port : PortId)
  | overCurrent (port : PortId)
  | routeStorageUpset (unit : UnitId) (held : RouteSection)
  | groupStorageUpset (group : GroupId) (held : GroupSection)
  | lineFrameReceived (port : PortId) (char : RxChar)
  | deviceReceiveGapExpiry (port : PortId)
  | counterFrameReceived (data : Byte) (stop : Bool)
  | workstationGapExpiry
  | unitRequest (unit tag : Byte) (payload : List Byte)
  | groupRequest (unit tag : Byte) (payload : List Byte)
  | dispatchRefusal (kind unit tag : Byte) (payload : List Byte)
  | setRoute (tag : Byte) (params : List Byte)
  | clearRoute (tag : Byte) (params : List Byte)
  | readRoute (tag : Byte) (params : List Byte)
  | setGroup (tag : Byte) (params : List Byte)
  | readGroup (tag : Byte) (params : List Byte)
  | setPort (tag : Byte) (params : List Byte)
  | readPort (tag : Byte) (params : List Byte)
  | resetPort (tag : Byte) (params : List Byte)
  | abortPort (tag : Byte) (params : List Byte)
  | setPass (tag : Byte) (params : List Byte)
  | setPosition (tag : Byte) (params : List Byte)
  | openPosition (tag : Byte) (params : List Byte)
  | closePosition (tag : Byte) (params : List Byte)
  | openSession (tag : Byte) (params : List Byte)
  | closeSession (tag : Byte) (params : List Byte)
  | setSessionLimit (tag : Byte) (params : List Byte)
  | readPosition (tag : Byte) (params : List Byte)
  | openEntry (tag : Byte) (params : List Byte)
  | cancelEntry (tag : Byte) (params : List Byte)
  | setLine (tag : Byte) (params : List Byte)
  | readStatus (tag : Byte) (params : List Byte)
  | readCounters (tag : Byte) (params : List Byte)
  | takeNotice (tag : Byte) (params : List Byte)
  | restartTraffic (tag : Byte) (params : List Byte)
  | restartAll (tag : Byte)
  | settleTimerExpiry (port : PortId)
  | identifyDeadlineExpiry (port : PortId)
  | resetPulseEnd (port : PortId)
  | deadlineExpiry (port : PortId)
  | holdTimerExpiry (record : RecId)
  | silenceTimerExpiry
  | entryTimerExpiry (position : PosId)
  | lampFlashToggle (position : PosId)
  | exchangeStart (port : PortId)
  | deviceFrameStart (port : PortId) (quietMs : Nat)
  | deviceFrameEnd (port : PortId)
  | grant
  | workstationFrameEnd
  | deviceCharacterReceived (port : PortId) (char : RxChar)
  | workstationCharacterReceived (data : Byte) (stop : Bool)
  | wreadyNegated
  deriving DecidableEq, Repr

end Sys2Proof
end

