-- ==== Sys2Proof/Config.lean ====
section
/-! DEFINITION. What the spec fixes as sizes of the part, and the free values: constants without a body for what the spec leaves open. -/

namespace Sys2Proof.Config

/-- The control queue holds 16 frames and reservations at most (R157). -/
abbrev controlSlots : Nat := 16

/-- The GU holds four group records (R91). -/
abbrev groupRecordCount : Nat := 4

/-- At most four WORKSTATION exchanges are QUEUED on a port (R53). -/
abbrev queueLimit : Nat := 4

/-- The outbound list of a port holds at most eight events (R109). -/
abbrev eventLimit : Nat := 8

/-- FREE VALUE. The rank by which READ GROUP orders the member addresses it lists: R90 and Table 12.8 give the set and
no order. It takes the set as SET GROUP gave it and one member (log 9). -/
opaque memberListingRank : List Nat → Nat → Nat

/-- FREE VALUE. Bytes the spec leaves open, one for each number drawn: the digit count byte that READ POSITION gives at a
position without an entry (Table 12.8, log 10). -/
opaque freeByte : Nat → Byte

end Sys2Proof.Config
end

