-- ==== Sys2Proof/Machine/Types.lean ====
section
/-! DEFINITION. The records, states and modes of the nine blocks, as plain data. -/

namespace Sys2Proof.Machine

/-- A timer that is stopped, or that runs with the length in milliseconds it was started with (R78, log 2). -/
abbrev Timer := Option Nat

/-- A receive assembler (R24, R154): hunting for a start mark, where `counted` says that the present run of discarded
bytes has been counted already; or collecting, with the bytes of the frame so far, the start mark first. -/
inductive Assembler
  | hunting (counted : Bool)
  | collecting (bytes : List Byte)
  deriving DecidableEq, Repr

/-! ### Route Table (Table 1.2) and group entries (Table 5.1) -/

/-- Check state of a section (R4, R88). -/
inductive CheckState
  | good | forced | upset
  deriving DecidableEq, Repr

structure RouteEntry where
  valid : Bool
  primary : PortId
  standby : Option PortId
  portsCheck : CheckState
  expected : ExpectedClass
  classCheck : CheckState
  deriving DecidableEq, Repr

/-- `members` keeps the addresses in the order the request gave them, without repeats (R87, log 9). -/
structure GroupEntry where
  valid : Bool
  members : List UnitId
  membersCheck : CheckState
  expected : Byte
  countCheck : CheckState
  deriving DecidableEq, Repr

/-- An open group record (Table 5.2). Its reserved slot is counted in the control queue's reservations until `endQueued`. -/
structure GroupRecord where
  tag : Byte
  group : GroupId
  expected : Nat
  issued : Nat
  skipped : Nat
  answered : Nat
  endQueued : Bool
  deriving DecidableEq, Repr

/-- GROUP END outcome (R96). -/
inductive GroupOutcome
  | complete | short
  deriving DecidableEq, Repr

/-- Outcome of the usable-unit test (R11), with the active port where there is one. -/
inductive Usable
  | usable (port : PortId)
  | notValid
  | faulted
  | noPort
  | mismatch (port : PortId)
  deriving DecidableEq, Repr

/-- The role of a unit at a position (R116). -/
inductive Role
  | reader | keypad
  deriving DecidableEq, Repr

/-! ### Device Port Controllers (Tables 2.1 and 2.6) -/

/-- Rate of a device line (R21). -/
inductive Rate
  | b1200 | b2400 | b4800 | b9600 | b19200 | b38400 | b57600 | b115200
  deriving DecidableEq, Repr

/-- Character length C: 10 without parity, 11 with even parity (R21). -/
inductive CharLen
  | c10 | c11
  deriving DecidableEq, Repr

inductive Duplex
  | full | half
  deriving DecidableEq, Repr

/-- Priority group of a port (R162). -/
inductive Priority
  | low | high
  deriving DecidableEq, Repr

/-- Port configuration (Table 2.6). -/
structure PortConfig where
  rate : Rate
  charLen : CharLen
  duplex : Duplex
  allowance : Byte
  replyLimit : Byte
  retryLimit : Byte
  group : Priority
  power : Bool
  deriving DecidableEq, Repr

/-- Port states (Table 2.2). -/
inductive PortState
  | off | empty | settling | identifying | ready | fault
  deriving DecidableEq, Repr

/-- Fault cause (Table 2.1). -/
inductive FaultCause
  | none | overcurrent | silentDevice | noIdentity
  deriving DecidableEq, Repr

/-- Class of a device in its IDENTIFY reply (R37). -/
inductive DeviceClass
  | reader | keypad | other
  deriving DecidableEq, Repr

structure Identity where
  cls : DeviceClass
  model : Half
  firmware : Half
  deriving DecidableEq, Repr

/-- The identify record (R36). `handPending` says that the frame of the present attempt still waits for the DPC to hold
no frame (R37). -/
structure Identify where
  attempt : Nat
  seq : Byte
  deadline : Timer
  handPending : Bool
  deriving DecidableEq, Repr

/-- Whom the DPC reports the start and the end of a frame to (R22): the exchange it serves, the port's identify, or no
one, when its exchange has ended while the frame was on the line (R66). -/
inductive TxOwner
  | exchange (record : RecId)
  | identify
  | nobody
  deriving DecidableEq, Repr

/-- One bit of a character on a serial line, by its place in the character (R21, R153). -/
inductive LineBit
  | start
  | data (value : Bool)
  | parity (value : Bool)
  | stop
  deriving DecidableEq, Repr

/-- A character on a serial line: its bits in the order they are sent (R21, R153). -/
abbrev LineChar := List LineBit

/-- A frame put on DTXn: the rate and the characters it began with, which it keeps to its end (R21, R46). -/
structure SentFrame where
  rate : Rate
  chars : List LineChar
  deriving DecidableEq, Repr

/-- The frame a DPC holds (R22): none, one handed over and not started, or one on the line. DTXn is at the idle level but
for `sending` (R21). `half` is the duplex the frame started under (R46) and `talkedOver` says that TALK_OVER has been
counted for it (R30). -/
inductive DeviceTx
  | idle
  | holding (owner : TxOwner) (bytes : List Byte)
  | sending (owner : TxOwner) (frame : SentFrame) (half : Bool) (talkedOver : Bool)
  deriving DecidableEq, Repr

/-! ### Exchanges (Table 3.1) -/

/-- States of an exchange record (Table 3.2). -/
inductive RecState
  | free | reserved | queued | sending | awaiting | held | orphaned
  deriving DecidableEq, Repr

inductive Origin
  | workstation | delivery
  deriving DecidableEq, Repr

/-- End statuses (Table 3.3). -/
inductive EndStatus
  | done | timeout | detached | faulted | aborted | reset
  deriving DecidableEq, Repr

/-- An exchange record. A cleared field is `none`, 0 or the empty list (R51); `seq` and `attempt` are 0 before the first
attempt. `group` names the open group record by its tag (R92, log 11). -/
structure Exchange where
  state : RecState
  origin : Option Origin
  tag : Option Byte
  unit : Option UnitId
  port : Option PortId
  group : Option Byte
  position : Option PosId
  command : Byte
  data : List Byte
  seq : Byte
  attempt : Nat
  endStatus : Option EndStatus
  deviceStatus : Byte
  replyData : List Byte
  deadline : Timer
  hold : Timer
  deriving DecidableEq, Repr

/-! ### Counters and notices (Tables 10.3 and 10.4) -/

/-- The ten counters of a port, in the order of Table 10.3. -/
structure PortCounters where
  forwardedEvents : Half
  filtered : Half
  gated : Half
  noUnit : Half
  overrunLost : Half
  lineErrors : Half
  strayReplies : Half
  timeouts : Half
  talkOver : Half
  repliesDiscarded : Half
  deriving DecidableEq, Repr

/-- The five link counters, in the order of Table 10.3. -/
structure LinkCounters where
  rxFramesGood : Half
  rxCheckErrors : Half
  rxFormatErrors : Half
  controlOverflow : Half
  progressSkipped : Half
  deriving DecidableEq, Repr

/-- The names of the port counters. -/
inductive PortCounter
  | forwardedEvents | filtered | gated | noUnit | overrunLost | lineErrors | strayReplies | timeouts | talkOver
  | repliesDiscarded
  deriving DecidableEq, Repr

/-- The names of the link counters. -/
inductive LinkCounter
  | rxFramesGood | rxCheckErrors | rxFormatErrors | controlOverflow | progressSkipped
  deriving DecidableEq, Repr

/-- Notice kinds, in priority order (Table 10.4). -/
inductive NoticeKind
  | tableFault | portFault | portDetached | classMismatch | portReady | replyDiscarded | standDown | call | cardWaiting
  | eventOverrun | linkError
  deriving DecidableEq, Repr

/-- A notice: a kind with a subject in that kind's range (R175). -/
inductive Notice
  | unitFault (unit : UnitId)
  | groupFault (group : GroupId)
  | portFault (port : PortId)
  | portDetached (port : PortId)
  | classMismatch (port : PortId)
  | portReady (port : PortId)
  | replyDiscarded (port : PortId)
  | standDown
  | call (position : PosId)
  | cardWaiting (position : PosId)
  | eventOverrun (port : PortId)
  | linkError
  deriving DecidableEq, Repr

/-! ### Positions and entries (Tables 7.1 and 8.1) -/

inductive PositionState
  | closed | open | session
  deriving DecidableEq, Repr

inductive CardState
  | noCard | cardIn
  deriving DecidableEq, Repr

inductive LampMode
  | off | steady | flash
  deriving DecidableEq, Repr

inductive EntryState
  | collecting | delivering
  deriving DecidableEq, Repr

/-- The timer that runs while an entry is COLLECTING (R142). -/
inductive EntryTiming
  | firstKey | interKey
  deriving DecidableEq, Repr

/-- The entry record of a position. `count` is the length of the digit list while COLLECTING and the number of digits
delivered while DELIVERING; `record` is the RESERVED record, and from ENTER the delivery record (R144). -/
structure Entry where
  state : EntryState
  digits : List Byte
  count : Nat
  min : Nat
  max : Nat
  firstKeyLimit : Nat
  interKeyLimit : Nat
  timing : EntryTiming
  timer : Timer
  command : Byte
  record : RecId
  tag : Byte
  deriving DecidableEq, Repr

/-- A position record, with the level of its lamp driver (R131). -/
structure Position where
  state : PositionState
  reader : Option UnitId
  keypad : Option UnitId
  session : Byte
  card : CardState
  entry : Option Entry
  lamp : LampMode
  lampLit : Bool
  deriving DecidableEq, Repr

/-- ENTRY END outcomes (Table 8.2). -/
inductive EntryOutcome
  | delivered | notDelivered | cancelled | timedOut | abandoned
  deriving DecidableEq, Repr

/-- ENTRY END causes (Table 8.2). -/
inductive EntryCause
  | none | timeout | detached | faulted | reset | noCard | readerUnavailable | key | request | firstKey | interKey
  | cardRemoved | keypadLost | readerLost | sessionClosed
  deriving DecidableEq, Repr

/-! ### Frames on the workstation line (Sections 9 and 12) -/

/-- CONTROL REPLY statuses (Table 10.1). -/
inductive Status
  | ok | badRequest | badLength | badParameter | noRoute | tableFault | unitUnavailable | wrongClass | noExchange
  | queueFull | duplicateTag | limit | busy | conflict | notInSession | outputFull
  deriving DecidableEq, Repr

/-- STARTED causes (R168). -/
inductive StartCause
  | power | pin | requested
  deriving DecidableEq, Repr

/-- A frame of the control queue (R157). -/
inductive ControlFrame
  | reply (tag : Byte) (status : Status) (result : List Byte)
  | groupEnd (group : GroupId) (tag : Byte) (outcome : GroupOutcome) (expected issued skipped answered : Nat)
  | progress (position : PosId) (session : Byte) (count : Nat) (short full : Bool)
  | entryEnd (position : PosId) (session : Byte) (outcome : EntryOutcome) (cause : EntryCause) (readerStatus : Byte)
      (readerData : List Byte)
  | started (cause : StartCause)
  deriving DecidableEq, Repr

/-- A frame of an outbound list: a held UNIT REPLY with the record it belongs to (R68), or a UNIT EVENT (R110). -/
inductive OutFrame
  | reply (record : RecId) (unit : UnitId) (tag : Byte) (member afterEnd : Bool) (status : EndStatus)
      (deviceStatus : Byte) (data : List Byte)
  | event (unit : UnitId) (session code lostBefore : Byte) (data : List Byte)
  deriving DecidableEq, Repr

/-- A counter frame by its fields (Table 12.1). -/
structure CounterFrame where
  kind : Byte
  attention : Bool
  member : Bool
  afterEnd : Bool
  unit : Byte
  tag : Byte
  payload : List Byte
  deriving DecidableEq, Repr

/-- Where a frame in transmission came from: the head of the control queue, the head of a port's outbound list, or the
transmitter's own copy of a frame whose source a RESTART ALL has cleared (R168). -/
inductive TxSource
  | control
  | port (port : PortId)
  | copy
  deriving DecidableEq, Repr

/-- The transmitter of the workstation line (Table 9.1), with the characters it shifts out on WTXD, which is at the idle
level without a frame (R153). -/
inductive Transmitter
  | idle
  | sending (source : TxSource) (frame : CounterFrame) (chars : List LineChar)
  deriving DecidableEq, Repr

/-- Rate of the workstation line (R153). -/
inductive LineRate
  | b19200 | b57600 | b115200 | b230400
  deriving DecidableEq, Repr

/-- Hold limit (R68): 500 ms, 2 s, 8 s or 32 s. -/
inductive HoldLimit
  | ms500 | s2 | s8 | s32
  deriving DecidableEq, Repr

/-- Line settings (R165). `silenceLimit` is in seconds, 0 being off. -/
structure LineSettings where
  hold : HoldLimit
  silenceLimit : Byte
  k : Byte
  enable : BitVec 11
  deriving DecidableEq, Repr

/-- Everything that is held for one port: its DPC's state with its three companion signals, the XE's request queue, the
EF's pass set and lost count, and the MU's counters. -/
structure Port where
  config : PortConfig
  present : Bool
  supply : Bool
  resetLine : Bool
  state : PortState
  pulse : Timer
  settle : Timer
  cause : FaultCause
  identity : Option Identity
  seq : Byte
  failures : Nat
  identify : Option Identify
  asm : Assembler
  gap : Timer
  tx : DeviceTx
  outbound : List OutFrame
  queue : List RecId
  passSet : BitVec 9
  lost : Byte
  counters : PortCounters
  deriving DecidableEq, Repr

end Sys2Proof.Machine
end

