-- ==== Sys2Proof/Machine/Codes.lean ====
section
/-! DEFINITION. Code values of kinds, statuses and fields (Tables 12.3, 12.4, 12.5), and their decoding. -/

namespace Sys2Proof.Machine

/-! ### Kinds and marks (Tables 12.1 to 12.3) -/

def counterMark : Byte := 0xC3
def lineMark : Byte := 0x3C
def kindUnitRequest : Byte := 0x01
def kindGroupRequest : Byte := 0x02
def kindManagement : Byte := 0x03
def kindUnitReply : Byte := 0x81
def kindUnitEvent : Byte := 0x82
def kindGroupEnd : Byte := 0x83
def kindProgress : Byte := 0x84
def kindEntryEnd : Byte := 0x85
def kindControlReply : Byte := 0x86
def kindStarted : Byte := 0x87
def lineRequest : Byte := 0x01
def lineReply : Byte := 0x02
def lineEvent : Byte := 0x03

/-! ### Addresses -/

/-- A number as one byte of a frame. -/
def byteOf (n : Nat) : Byte := BitVec.ofNat 8 n

/-- Unit address 1-24 of a unit (R1). -/
def unitAddr (u : UnitId) : Byte := byteOf (u.val + 1)

/-- Group address 25-31 (R87). -/
def groupAddr (g : GroupId) : Byte := byteOf (g.val + 25)

/-- Position number 1-8 (R116). -/
def posAddr (k : PosId) : Byte := byteOf (k.val + 1)

/-- The unit a byte addresses, or none outside 1-24 (R1). -/
def unitOf (b : Byte) : Option UnitId :=
  if h : 1 ≤ b.toNat ∧ b.toNat ≤ 24 then some ⟨b.toNat - 1, by omega⟩ else none

/-- The group a byte addresses, or none outside 25-31 (R93). -/
def groupOf (b : Byte) : Option GroupId :=
  if h : 25 ≤ b.toNat ∧ b.toNat ≤ 31 then some ⟨b.toNat - 25, by omega⟩ else none

/-- The position a byte names, or none outside 1-8 (R117). -/
def posOf (b : Byte) : Option PosId :=
  if h : 1 ≤ b.toNat ∧ b.toNat ≤ 8 then some ⟨b.toNat - 1, by omega⟩ else none

/-- The port a byte names, or none above 11. -/
def portOf (b : Byte) : Option PortId :=
  if h : b.toNat < 12 then some ⟨b.toNat, h⟩ else none

def portCode (p : PortId) : Byte := byteOf p.val

/-- "00-0B; FF none" (Table 12.5). -/
def optPortCode : Option PortId → Byte
  | some p => portCode p
  | none => 0xFF

/-- A standby port field: a port, FF for none, or out of range (Table 12.5). -/
def standbyOf (b : Byte) : Option (Option PortId) :=
  if b = 0xFF then some none else (portOf b).map some

/-- "unit in a position parameter: 01-18 hex; 00 none" (Table 12.5). -/
def optUnitCode : Option UnitId → Byte
  | some u => unitAddr u
  | none => 0

/-- A unit in a position parameter: a unit, 00 for none, or out of range. -/
def optUnitOf (b : Byte) : Option (Option UnitId) :=
  if b = 0 then some none else (unitOf b).map some

def boolCode (b : Bool) : Byte := if b then 1 else 0

def boolOf (b : Byte) : Option Bool :=
  if b = 0 then some false else if b = 1 then some true else none

/-! ### Statuses and outcomes (Table 12.4) -/

def statusCode : Status → Byte
  | .ok => 0x00 | .badRequest => 0x01 | .badLength => 0x02 | .badParameter => 0x03 | .noRoute => 0x04
  | .tableFault => 0x05 | .unitUnavailable => 0x06 | .wrongClass => 0x07 | .noExchange => 0x08 | .queueFull => 0x09
  | .duplicateTag => 0x0A | .limit => 0x0B | .busy => 0x0C | .conflict => 0x0D | .notInSession => 0x0E
  | .outputFull => 0x0F

def endStatusCode : EndStatus → Byte
  | .done => 0x00 | .timeout => 0x01 | .detached => 0x02 | .faulted => 0x03 | .aborted => 0x04 | .reset => 0x05

def groupOutcomeCode : GroupOutcome → Byte
  | .complete => 0x00 | .short => 0x01

def entryOutcomeCode : EntryOutcome → Byte
  | .delivered => 0x00 | .notDelivered => 0x01 | .cancelled => 0x02 | .timedOut => 0x03 | .abandoned => 0x04

def entryCauseCode : EntryCause → Byte
  | .none => 0x00 | .timeout => 0x01 | .detached => 0x02 | .faulted => 0x03 | .reset => 0x04 | .noCard => 0x05
  | .readerUnavailable => 0x06 | .key => 0x07 | .request => 0x08 | .firstKey => 0x09 | .interKey => 0x0A
  | .cardRemoved => 0x0B | .keypadLost => 0x0C | .readerLost => 0x0D | .sessionClosed => 0x0E

def startCauseCode : StartCause → Byte
  | .power => 0x01 | .pin => 0x02 | .requested => 0x03

/-- Code of a notice kind, equal to its priority (Tables 10.4 and 12.4). -/
def kindPriority : NoticeKind → Nat
  | .tableFault => 0 | .portFault => 1 | .portDetached => 2 | .classMismatch => 3 | .portReady => 4
  | .replyDiscarded => 5 | .standDown => 6 | .call => 7 | .cardWaiting => 8 | .eventOverrun => 9 | .linkError => 10

/-- The kind of a notice. -/
def noticeKind : Notice → NoticeKind
  | .unitFault _ => .tableFault
  | .groupFault _ => .tableFault
  | .portFault _ => .portFault
  | .portDetached _ => .portDetached
  | .classMismatch _ => .classMismatch
  | .portReady _ => .portReady
  | .replyDiscarded _ => .replyDiscarded
  | .standDown => .standDown
  | .call _ => .call
  | .cardWaiting _ => .cardWaiting
  | .eventOverrun _ => .eventOverrun
  | .linkError => .linkError

/-- The subject of a notice (Table 10.4). -/
def noticeSubject : Notice → Nat
  | .unitFault u => u.val + 1
  | .groupFault g => g.val + 25
  | .portFault p => p.val
  | .portDetached p => p.val
  | .classMismatch p => p.val
  | .portReady p => p.val
  | .replyDiscarded p => p.val
  | .standDown => 0
  | .call k => k.val + 1
  | .cardWaiting k => k.val + 1
  | .eventOverrun p => p.val
  | .linkError => 0

/-- Order in which TAKE NOTICE returns pairs: by priority of the kind, then by subject (R177). -/
def noticeRank (n : Notice) : Nat := kindPriority (noticeKind n) * 256 + noticeSubject n

/-! ### Configuration and state fields (Table 12.5) -/

def expectedCode : ExpectedClass → Byte
  | .any => 0 | .reader => 1 | .keypad => 2

def expectedOf (b : Byte) : Option ExpectedClass :=
  if b = 0 then some .any else if b = 1 then some .reader else if b = 2 then some .keypad else none

def deviceClassCode : DeviceClass → Byte
  | .reader => 1 | .keypad => 2 | .other => 3

def deviceClassOf (b : Byte) : Option DeviceClass :=
  if b = 1 then some .reader else if b = 2 then some .keypad else if b = 3 then some .other else none

def checkCode : CheckState → Byte
  | .good => 0 | .forced => 1 | .upset => 2

def usableCode : Usable → Byte
  | .usable _ => 0 | .notValid => 1 | .faulted => 2 | .noPort => 3 | .mismatch _ => 4

def portStateCode : PortState → Byte
  | .off => 0 | .empty => 1 | .settling => 2 | .identifying => 3 | .ready => 4 | .fault => 5

def faultCauseCode : FaultCause → Byte
  | .none => 0 | .overcurrent => 1 | .silentDevice => 2 | .noIdentity => 3

def rateCode : Rate → Byte
  | .b1200 => 0 | .b2400 => 1 | .b4800 => 2 | .b9600 => 3 | .b19200 => 4 | .b38400 => 5 | .b57600 => 6 | .b115200 => 7

def rateOf (b : Byte) : Option Rate :=
  match b.toNat with
  | 0 => some .b1200 | 1 => some .b2400 | 2 => some .b4800 | 3 => some .b9600
  | 4 => some .b19200 | 5 => some .b38400 | 6 => some .b57600 | 7 => some .b115200
  | _ => none

def charLenCode : CharLen → Byte
  | .c10 => 0x0A | .c11 => 0x0B

def charLenOf (b : Byte) : Option CharLen :=
  if b = 0x0A then some .c10 else if b = 0x0B then some .c11 else none

def duplexCode : Duplex → Byte
  | .full => 0 | .half => 1

def duplexOf (b : Byte) : Option Duplex :=
  if b = 0 then some .full else if b = 1 then some .half else none

def priorityCode : Priority → Byte
  | .low => 0 | .high => 1

def priorityOf (b : Byte) : Option Priority :=
  if b = 0 then some .low else if b = 1 then some .high else none

def positionStateCode : PositionState → Byte
  | .closed => 0 | .open => 1 | .session => 2

def roleCode : Role → Byte
  | .reader => 1 | .keypad => 2

def cardCode : CardState → Byte
  | .noCard => 0 | .cardIn => 1

def entryStateCode : EntryState → Byte
  | .collecting => 1 | .delivering => 2

def lampCode : LampMode → Byte
  | .off => 0 | .steady => 1 | .flash => 2

def holdCode : HoldLimit → Byte
  | .ms500 => 0 | .s2 => 1 | .s8 => 2 | .s32 => 3

def holdOf (b : Byte) : Option HoldLimit :=
  match b.toNat with
  | 0 => some .ms500 | 1 => some .s2 | 2 => some .s8 | 3 => some .s32 | _ => none

/-- The hold limit in milliseconds (R68). -/
def holdMs : HoldLimit → Nat
  | .ms500 => 500 | .s2 => 2000 | .s8 => 8000 | .s32 => 32000

def lineRateCode : LineRate → Byte
  | .b19200 => 0 | .b57600 => 1 | .b115200 => 2 | .b230400 => 3

/-! ### Two-byte fields, high byte first (00_scope.md 0.9, convention 6) -/

def highByte (h : Half) : Byte := h.extractLsb' 8 8
def lowByte (h : Half) : Byte := h.extractLsb' 0 8
def halfBytes (h : Half) : List Byte := [highByte h, lowByte h]
def halfOf (hi lo : Byte) : Half := hi ++ lo

/-- Part code and revision that STARTED carries (12.4). -/
def partCode : Half := 0x8612
def partRevision : Byte := 0x01

/-! ### Event codes and key codes (Table 6.1) -/

def codeCardInserted : Byte := 0x10
def codeCardRemoved : Byte := 0x11
def codeCardData : Byte := 0x12
def codeReaderStatus : Byte := 0x13
def codeKey : Byte := 0x20
def codeKeypadStatus : Byte := 0x21
def codeAlert : Byte := 0x30
def keyClear : Byte := 0x43
def keyCancel : Byte := 0x58
def keyEnter : Byte := 0x0D
def keyCall : Byte := 0x3F

/-- Digit keys 30-39 hex. -/
def isDigitKey (k : Byte) : Bool := decide (0x30 ≤ k.toNat ∧ k.toNat ≤ 0x39)

/-- Function keys F1-F4, 81-84 hex. -/
def isFunctionKey (k : Byte) : Bool := decide (0x81 ≤ k.toNat ∧ k.toNat ≤ 0x84)

end Sys2Proof.Machine
end

