-- ==== Sys2Proof/Machine/Check.lean ====
section
/-! DEFINITION. The 16-bit check of both frame formats (R183), and the bytes and characters of the frames the part sends (Tables 12.1, 12.2, R21, R153, R185). -/

namespace Sys2Proof.Machine

/-- One bit fed into the check register (R183): the top bit is compared with the data bit, the register is shifted left,
and 1021 hex is combined in where the two differed. -/
def checkBit (reg : Half) (bit : Bool) : Half :=
  if reg.msb = bit then reg <<< 1 else (reg <<< 1) ^^^ 0x1021

/-- One byte fed into the check register, most significant bit first (R183). -/
def checkByte (reg : Half) (b : Byte) : Half :=
  [7, 6, 5, 4, 3, 2, 1, 0].foldl (fun r i => checkBit r (b.getLsbD i)) reg

/-- The check of a run of bytes: the register starts at FFFF hex and has no final inversion (R183). -/
def checkOf (bytes : List Byte) : Half := bytes.foldl checkByte 0xFFFF

/-- A frame of either format from its start mark and its bytes from kind on: the length, those bytes, and the check over
length and bytes, high byte first (Tables 12.1 and 12.2). -/
def frameBytes (mark : Byte) (body : List Byte) : List Byte :=
  mark :: byteOf body.length :: body ++ halfBytes (checkOf (byteOf body.length :: body))

/-- A request line frame (Table 12.2): kind REQUEST, seq, command code, data. -/
def requestBytes (seq command : Byte) (data : List Byte) : List Byte :=
  frameBytes lineMark (lineRequest :: seq :: command :: data)

/-- The flags byte of a counter frame: bit 0 ATTENTION, bit 1 MEMBER, bit 2 AFTER_END, the others 0 (Table 12.1). -/
def flagsByte (attention member afterEnd : Bool) : Byte :=
  byteOf (attention.toNat + 2 * member.toNat + 4 * afterEnd.toNat)

/-- The bytes of a counter frame (Table 12.1). -/
def counterBytes (f : CounterFrame) : List Byte :=
  frameBytes counterMark (f.kind :: flagsByte f.attention f.member f.afterEnd :: f.unit :: f.tag :: f.payload)

/-- The counter frame of a control-queue frame, with the ATTENTION flag given (Table 12.6). -/
def controlFrame (attention : Bool) : ControlFrame → CounterFrame
  | .reply tag status result =>
    ⟨kindControlReply, attention, false, false, 0, tag, statusCode status :: result⟩
  | .groupEnd g tag outcome expected issued skipped answered =>
    ⟨kindGroupEnd, attention, false, false, groupAddr g, tag,
      [groupOutcomeCode outcome, byteOf expected, byteOf issued, byteOf skipped, byteOf answered]⟩
  | .progress k session count short full =>
    ⟨kindProgress, attention, false, false, 0, 0,
      [posAddr k, session, byteOf count, byteOf (short.toNat + 2 * full.toNat)]⟩
  | .entryEnd k session outcome cause status data =>
    ⟨kindEntryEnd, attention, false, false, 0, 0,
      posAddr k :: session :: entryOutcomeCode outcome :: entryCauseCode cause :: status :: data⟩
  | .started cause =>
    ⟨kindStarted, attention, false, false, 0, 0,
      startCauseCode cause :: halfBytes partCode ++ [partRevision]⟩

/-- The counter frame of an outbound-list frame, with the ATTENTION flag given (R68, R110, Table 12.6). -/
def outFrame (attention : Bool) : OutFrame → CounterFrame
  | .reply _ u tag member afterEnd status deviceStatus data =>
    ⟨kindUnitReply, attention, member, afterEnd, unitAddr u, tag, endStatusCode status :: deviceStatus :: data⟩
  | .event u session code lostBefore data =>
    ⟨kindUnitEvent, attention, false, false, unitAddr u, 0, session :: code :: lostBefore :: data⟩

/-- The parity bit that makes the number of one bits in data and parity even (R21). -/
def evenParityBit (b : Byte) : Bool := (List.range 8).foldl (fun p i => p != b.getLsbD i) false

/-- The parity bit of a character sent at a character length: none at C = 10, even at C = 11 (R21). -/
def parityBits : CharLen → Byte → LineChar
  | .c10, _ => []
  | .c11, b => [.parity (evenParityBit b)]

/-- A byte as it is sent: start bit, eight data bits from the least significant, the parity bit where there is one, stop bit
(R21, R153). -/
def sentChar (len : CharLen) (b : Byte) : LineChar :=
  .start :: (List.range 8).map (fun i => .data (b.getLsbD i)) ++ parityBits len b ++ [.stop]

/-- A frame as a port sends it from its configuration (R21). -/
def sentFrame (c : PortConfig) (bytes : List Byte) : SentFrame := ⟨c.rate, bytes.map (sentChar c.charLen)⟩

/-- A counter frame as the WLU sends it: its characters have no parity bit (R153). -/
def counterChars (f : CounterFrame) : List LineChar := (counterBytes f).map (sentChar .c10)

end Sys2Proof.Machine
end

