-- ==== Sys2Proof/Machine/Assemble.lean ====
section
/-! DEFINITION. Assembling received characters into frames (R21, R24 to R26, R153, R154), and the parts of a received line frame. -/

namespace Sys2Proof.Machine

/-- Whether the parity bit makes the number of one bits in data and parity even (R21). -/
def evenParity (c : RxChar) : Bool :=
  ([0, 1, 2, 3, 4, 5, 6, 7].foldl (fun p i => p != c.data.getLsbD i) c.parity) == false

/-- A character error on a device line: a framing error, or with C = 11 a parity error (R21). -/
def charError (len : CharLen) (c : RxChar) : Bool :=
  !c.stop || (decide (len = .c11) && !evenParity c)

/-- What one received character makes of an assembler. -/
inductive Assembled
  /-- Nothing to report. -/
  | quiet
  /-- A bad start or an abandonment, to be counted once. -/
  | counted
  /-- The last check byte has joined the frame. -/
  | frame (bytes : List Byte)
  deriving DecidableEq, Repr

/-- One character taken by an assembler whose frames open with `mark` and have a length byte in `lo`-`hi`
(device lines 3-253, R24 to R26; workstation line 4-255, R154). -/
def assemble (mark : Byte) (lo hi : Nat) (error : Bool) (b : Byte) : Assembler → Assembler × Assembled
  | .hunting counted =>
    if error = false ∧ b = mark then (.collecting [b], .quiet)
    else if counted then (.hunting true, .quiet)
    else (.hunting true, .counted)
  | .collecting bytes =>
    if error then (.hunting true, .counted)
    else
      match bytes ++ [b] with
      | _ :: n :: rest =>
        if n.toNat < lo ∨ hi < n.toNat then (.hunting true, .counted)
        else if rest.length = n.toNat + 2 then (.hunting false, .frame (bytes ++ [b]))
        else (.collecting (bytes ++ [b]), .quiet)
      | _ => (.collecting (bytes ++ [b]), .quiet)

/-- An assembler emptied: a frame in progress is dropped without a count (R46, R48; log 15). -/
def emptied : Assembler → Assembler
  | .hunting counted => .hunting counted
  | .collecting _ => .hunting false

/-- Whether an assembler is hunting (R29). -/
def isHunting : Assembler → Bool
  | .hunting _ => true
  | .collecting _ => false

/-- The last two bytes of a run are its check: the run before them, and whether they are its check (R183). -/
def splitCheck (bytes : List Byte) : List Byte × Bool :=
  let body := bytes.take (bytes.length - 2)
  (body, decide (bytes.drop (bytes.length - 2) = halfBytes (checkOf body)))

/-- A received line frame by its fields (Table 12.2). `size` is n. -/
structure LineFrame where
  checkGood : Bool
  size : Nat
  kind : Byte
  seq : Byte
  code : Byte
  data : List Byte
  deriving DecidableEq, Repr

/-- The fields of a complete line frame, from its start mark on. -/
def readLineFrame (bytes : List Byte) : Option LineFrame :=
  let r := splitCheck (bytes.drop 1)
  match r.1 with
  | n :: kind :: seq :: code :: data => some ⟨r.2, n.toNat, kind, seq, code, data⟩
  | _ => none

/-- The tests of R27, for the port's reply size limit `lr`. -/
def lineFrameGood (lr : Nat) (f : LineFrame) : Bool :=
  f.checkGood &&
    ((decide (f.kind = lineReply) && decide (f.seq ≠ 0) && decide (f.size + 4 ≤ lr)) ||
     (decide (f.kind = lineEvent) && decide (f.seq = 0) && decide (f.size ≤ 60)))

/-- A received counter frame by its fields (Table 12.1); the flags byte is ignored (R155). -/
structure RxCounterFrame where
  checkGood : Bool
  kind : Byte
  unit : Byte
  tag : Byte
  payload : List Byte
  deriving DecidableEq, Repr

/-- The fields of a complete counter frame, from its start mark on. -/
def readCounterFrame (bytes : List Byte) : Option RxCounterFrame :=
  let r := splitCheck (bytes.drop 1)
  match r.1 with
  | _ :: kind :: _flags :: unit :: tag :: payload => some ⟨r.2, kind, unit, tag, payload⟩
  | _ => none

end Sys2Proof.Machine
end

