-- ==== Sys2Proof/Machine/Cold.lean ====
section
/-! DEFINITION. The cold values of every record: what cold reset and RESTART ALL leave (R3, R48, R52, R87, R115, R133, R168, R172). -/

namespace Sys2Proof.Machine

/-- Table 1.2, cold values (R3). -/
def coldRoute : RouteEntry where
  valid := false
  primary := 0
  standby := none
  portsCheck := .good
  expected := .any
  classCheck := .good

/-- Table 5.1, cold values (R87). -/
def coldGroup : GroupEntry where
  valid := false
  members := []
  membersCheck := .good
  expected := 0
  countCheck := .good

/-- Table 2.6, cold values. -/
def coldConfig : PortConfig where
  rate := .b9600
  charLen := .c10
  duplex := .full
  allowance := 5
  replyLimit := 32
  retryLimit := 1
  group := .low
  power := true

/-- A FREE record with every field cleared (R51, R52). -/
def freeExchange : Exchange where
  state := .free
  origin := none
  tag := none
  unit := none
  port := none
  group := none
  position := none
  command := 0
  data := []
  seq := 0
  attempt := 0
  endStatus := none
  deviceStatus := 0
  replyData := []
  deadline := none
  hold := none

/-- Counters are 0 after cold reset (R172). -/
def coldPortCounters : PortCounters := ⟨0, 0, 0, 0, 0, 0, 0, 0, 0, 0⟩

/-- Counters are 0 after cold reset (R172). -/
def coldLinkCounters : LinkCounters := ⟨0, 0, 0, 0, 0⟩

/-- The settle interval of 100 ms (R85). -/
def settleMs : Nat := 100

/-- The reset pulse of 50 ms (R85). -/
def pulseMs : Nat := 50

/-- A port after cold reset, for the level `present` of its DPRESn: EMPTY, or SETTLING with a fresh settle timer where
presence is asserted (R48, Tables 2.1 and 2.6, R115). -/
def coldPort (present : Bool) : Port where
  config := coldConfig
  present := present
  supply := true
  resetLine := false
  state := if present then .settling else .empty
  pulse := none
  settle := if present then some settleMs else none
  cause := .none
  identity := none
  seq := 0
  failures := 0
  identify := none
  asm := .hunting false
  gap := none
  tx := .idle
  outbound := []
  queue := []
  passSet := BitVec.allOnes 9
  lost := 0
  counters := coldPortCounters

/-- Table 7.1, cold values (R133). -/
def coldPosition : Position where
  state := .closed
  reader := none
  keypad := none
  session := 0
  card := .noCard
  entry := none
  lamp := .off
  lampLit := false

/-- Table 9.1, cold values of the line settings. -/
def coldLine : LineSettings where
  hold := .s2
  silenceLimit := 0
  k := 4
  enable := BitVec.allOnes 11

/-- The workstation line rate the straps select (R153). -/
def strapRate : (rate1 rate0 : Bool) → LineRate
  | false, false => .b19200
  | false, true => .b57600
  | true, false => .b115200
  | true, true => .b230400

end Sys2Proof.Machine
end

