-- ==== Sys2Proof/Machine/State.lean ====
section
/-! DEFINITION. The whole state of the UB8612, the reasons a step could stop, and the state after reset. -/

namespace Sys2Proof.Machine

/-- The UB8612 raises no fault: an abnormal condition is a refusal status, a count or a notice, and the part goes on. No
command of the model ends in a fault, so the type has no constructor (safe: nothing is stopped). -/
inductive Fault
  deriving DecidableEq, Repr

/-- Reasons for which a command has no meaning in the model. -/
inductive Refusal
  /-- The row of the table has no meaning yet. Raised by an arm of `exec` only; safe, since the model stops. No arm
  raises it now. -/
  | notModelled (mnemonic : String)
  deriving DecidableEq, Repr

/-- The state of the UB8612 (Tables 0.1, 1.2, 2.1, 3.1, 5.1, 5.2, 7.1, 7.2, 8.1, 9.1, 10.3, 10.4). -/
structure State where
  /-- WLU: rate of the workstation line (R153). -/
  lineRate : LineRate
  /-- WLU: level of the WREADY input (R161). -/
  wready : Bool
  /-- WLU: level of the WATTN output, the attention indication (R164). -/
  wattn : Bool
  /-- WLU: receive assembler (R154). -/
  wsAsm : Assembler
  /-- WLU: receive gap timer (R154). -/
  wsGap : Timer
  /-- WLU: transmitter (R160, R163). -/
  tx : Transmitter
  /-- WLU: control queue, head first; a frame in transmission from it is its head (R157). -/
  control : List ControlFrame
  /-- WLU: number of reserved control-queue slots (R158). -/
  reservations : Nat
  /-- WLU: HIGH pointer (R162). -/
  highPtr : Option PortId
  /-- WLU: LOW pointer (R162). -/
  lowPtr : Option PortId
  /-- WLU: starvation count (R162). -/
  starvation : Nat
  /-- WLU: silence timer (R166). -/
  silence : Timer
  /-- WLU: line settings (R165). -/
  line : LineSettings
  /-- RT: route entries (R2). -/
  routes : Vector RouteEntry 24
  /-- RT: port-owner map (R7). -/
  owners : Vector (Option UnitId) 12
  /-- The ports (R21 to R49, R53, R109, R114, R172). -/
  ports : Vector Port 12
  /-- XE: exchange pool (R50). -/
  pool : Vector Exchange 24
  /-- GU: group entries (R87). -/
  groups : Vector GroupEntry 7
  /-- GU: open group records, in the order of their acceptance; at most four (R91). -/
  groupRecords : List GroupRecord
  /-- PC and EU: position records with their entries (R116, R135). -/
  positions : Vector Position 8
  /-- PC: session limit (R125). -/
  sessionLimit : Byte
  /-- PC: next session number (R123). -/
  nextSession : Byte
  /-- MU: link counters (R172). -/
  link : LinkCounters
  /-- MU: notice set, in rising order of kind and subject (R175). -/
  notices : List Notice
  /-- The model's own: commands waiting, first in first out (log 1). -/
  pending : List Instr
  /-- The model's own: number of free values drawn so far (log 10). -/
  draws : Nat
  deriving DecidableEq, Repr

/-- Every block at its cold values, with the one STARTED frame in the control queue (R168), for what a reset does not set
or what is given from outside: the levels of DPRESn and WREADY, the line rate, the transmitter, and the model's own
fields. -/
def State.cold (rate : LineRate) (wready : Bool) (present : Vector Bool 12) (tx : Transmitter) (cause : StartCause)
    (pending : List Instr) (draws : Nat) : State where
  lineRate := rate
  wready := wready
  wattn := false
  wsAsm := .hunting false
  wsGap := none
  tx := tx
  control := [.started cause]
  reservations := 0
  highPtr := none
  lowPtr := none
  starvation := 0
  silence := none
  line := coldLine
  routes := Vector.replicate 24 coldRoute
  owners := Vector.replicate 12 none
  ports := Vector.ofFn fun p => coldPort present[p]
  pool := Vector.replicate 24 freeExchange
  groups := Vector.replicate 7 coldGroup
  groupRecords := []
  positions := Vector.replicate 8 coldPosition
  sessionLimit := 2
  nextSession := 1
  link := coldLinkCounters
  notices := []
  pending := pending
  draws := draws

/-- The part right after power-up (R168). The levels of the inputs are the model's choice (log 5): both straps low, WREADY
negated, no DPRESn asserted. -/
def State.reset : State :=
  State.cold (strapRate false false) false (Vector.replicate 12 false) .idle .power [] 0

end Sys2Proof.Machine
end

