-- ==== Sys2Proof/Machine/Flags.lean ====
section
/-! DEFINITION. What is computed from state as a flag or an indication: event classes (Table 6.1), class conflict (Table 1.3), the attention indication (R164) and lamp modes (Table 7.3). -/

namespace Sys2Proof.Machine

/-- Event classes, by the bit that stands for each in a pass set (Table 12.5). -/
inductive EventClass
  | cardPresence | cardData | status | keyDigit | keyControl | keyFunction | keyCall | alert | other
  deriving DecidableEq, Repr

/-- Bit of a class in a pass set (Table 12.5). -/
def classBit : EventClass → Nat
  | .cardPresence => 0 | .cardData => 1 | .status => 2 | .keyDigit => 3 | .keyControl => 4 | .keyFunction => 5
  | .keyCall => 6 | .alert => 7 | .other => 8

/-- Class of a KEY event by its key code, the first data byte (R101). -/
def keyClass : List Byte → EventClass
  | [] => .other
  | k :: _ =>
    if isDigitKey k then .keyDigit
    else if k = keyClear ∨ k = keyCancel ∨ k = keyEnter then .keyControl
    else if isFunctionKey k then .keyFunction
    else if k = keyCall then .keyCall
    else .other

/-- Class of an event (R101, Table 6.1). -/
def eventClass (code : Byte) (data : List Byte) : EventClass :=
  if code = codeCardInserted ∨ code = codeCardRemoved then .cardPresence
  else if code = codeCardData then .cardData
  else if code = codeReaderStatus ∨ code = codeKeypadStatus then .status
  else if code = codeKey then keyClass data
  else if code = codeAlert then .alert
  else .other

/-- Whether a pass set holds a class (R108). -/
def passes (set : BitVec 9) (c : EventClass) : Bool := set.getLsbD (classBit c)

/-- Class conflict (Table 1.3). A READY port always holds an identity; without one there is no conflict (log 24). -/
def conflicts (expected : ExpectedClass) : Option Identity → Bool
  | none => false
  | some i =>
    match expected with
    | .any => false
    | .reader => decide (i.cls ≠ .reader)
    | .keypad => decide (i.cls ≠ .keypad)

/-- A section with a failing check (1.3). -/
def checkFaulted (c : CheckState) : Bool := decide (c ≠ .good)

/-- A faulted route entry (1.3). -/
def routeFaulted (e : RouteEntry) : Bool := checkFaulted e.portsCheck || checkFaulted e.classCheck

/-- A faulted group entry (R88). -/
def groupFaulted (e : GroupEntry) : Bool := checkFaulted e.membersCheck || checkFaulted e.countCheck

/-- What a storage upset makes of a check state (R4, R88). -/
def upsetCheck : CheckState → CheckState
  | .good => .upset
  | c => c

/-- The check state a write sets, for its force option (R4, R88). -/
def writtenCheck (force : Bool) : CheckState := if force then .forced else .good

/-- The attention indication: some pair of the notice set has an enabled kind (R164). -/
def attention (s : State) : Bool :=
  s.notices.any fun n => s.line.enable.getLsbD (kindPriority (noticeKind n))

/-- Whether an entry is COLLECTING. -/
def isCollecting : Option Entry → Bool
  | some e => decide (e.state = .collecting)
  | none => false

/-- Lamp mode by position state (Table 7.3). -/
def lampFor (state : PositionState) (callPending collecting : Bool) : LampMode :=
  match state with
  | .closed => if callPending then .flash else .off
  | .open => .steady
  | .session => if collecting then .flash else .off

/-- A lamp set to a mode: a mode that stays leaves the cycle as it is, and a lamp that becomes FLASH starts lit (R131). -/
def setLamp (m : LampMode) (q : Position) : Position :=
  if m = q.lamp then q else { q with lamp := m, lampLit := decide (m ≠ .off) }

end Sys2Proof.Machine
end

