-- ==== Sys2Proof/Machine/LineTime.lean ====
section
/-! DEFINITION. Line times, reply deadlines and receive gaps of the device lines (R79 to R84). -/

namespace Sys2Proof.Machine

/-- Rate R in baud (R21). -/
def baud : Rate → Nat
  | .b1200 => 1200 | .b2400 => 2400 | .b4800 => 4800 | .b9600 => 9600
  | .b19200 => 19200 | .b38400 => 38400 | .b57600 => 57600 | .b115200 => 115200

/-- Character length C in bits (R21). -/
def charBits : CharLen → Nat
  | .c10 => 10 | .c11 => 11

/-- `line_ms(n)`: the smallest whole number of milliseconds not less than C × n × 1000 ÷ R (R79). -/
def lineMs (c : PortConfig) (n : Nat) : Nat :=
  (charBits c.charLen * n * 1000 + (baud c.rate - 1)) / baud c.rate

/-- H of the deadline: 0 on full duplex, twice the turnaround on half duplex (R80). -/
def duplexMs (c : PortConfig) : Nat :=
  match c.duplex with
  | .full => 0
  | .half => 2 * lineMs c 2

/-- The deadline D of an attempt whose request frame has `lq` bytes (R80). -/
def deadlineMs (c : PortConfig) (lq : Nat) : Nat :=
  max 20 (lineMs c lq + 20 * c.allowance.toNat + lineMs c c.replyLimit.toNat + 2 + duplexMs c)

/-- The receive gap max(2, line_ms(3)) (R26, R83). -/
def gapMs (c : PortConfig) : Nat := max 2 (lineMs c 3)

/-- The turnaround line_ms(2) of a half-duplex port (R84). -/
def turnaroundMs (c : PortConfig) : Nat := lineMs c 2

/-- The workstation receive gap of 50 ms (R154). -/
def workstationGapMs : Nat := 50

end Sys2Proof.Machine
end

