-- ==== Sys2Proof/Machine/Ops.lean ====
section
/-! DEFINITION. The named operations over the state that the meanings share: counters, notices, lamps, the control queue, the exchange pool, entries, evaluations, exchange ends, port changes, and restart. -/

namespace Sys2Proof.Machine

/-! ### Changing one numbered record -/

def modPort (p : PortId) (f : Port → Port) (s : State) : State :=
  { s with ports := s.ports.set p (f s.ports[p]) }

def modRec (i : RecId) (f : Exchange → Exchange) (s : State) : State :=
  { s with pool := s.pool.set i (f s.pool[i]) }

def modPos (k : PosId) (f : Position → Position) (s : State) : State :=
  { s with positions := s.positions.set k (f s.positions[k]) }

def modRoute (u : UnitId) (f : RouteEntry → RouteEntry) (s : State) : State :=
  { s with routes := s.routes.set u (f s.routes[u]) }

def modGroup (g : GroupId) (f : GroupEntry → GroupEntry) (s : State) : State :=
  { s with groups := s.groups.set g (f s.groups[g]) }

/-! ### Counters (R172) -/

/-- An increment adds one below 65 535 and leaves a counter that has reached it (R172). -/
def bump (c : Half) : Half := if c = 0xFFFF then c else c + 1

def bumpPort (n : PortCounter) (c : PortCounters) : PortCounters :=
  match n with
  | .forwardedEvents => { c with forwardedEvents := bump c.forwardedEvents }
  | .filtered => { c with filtered := bump c.filtered }
  | .gated => { c with gated := bump c.gated }
  | .noUnit => { c with noUnit := bump c.noUnit }
  | .overrunLost => { c with overrunLost := bump c.overrunLost }
  | .lineErrors => { c with lineErrors := bump c.lineErrors }
  | .strayReplies => { c with strayReplies := bump c.strayReplies }
  | .timeouts => { c with timeouts := bump c.timeouts }
  | .talkOver => { c with talkOver := bump c.talkOver }
  | .repliesDiscarded => { c with repliesDiscarded := bump c.repliesDiscarded }

def bumpLink (n : LinkCounter) (c : LinkCounters) : LinkCounters :=
  match n with
  | .rxFramesGood => { c with rxFramesGood := bump c.rxFramesGood }
  | .rxCheckErrors => { c with rxCheckErrors := bump c.rxCheckErrors }
  | .rxFormatErrors => { c with rxFormatErrors := bump c.rxFormatErrors }
  | .controlOverflow => { c with controlOverflow := bump c.controlOverflow }
  | .progressSkipped => { c with progressSkipped := bump c.progressSkipped }

def countPort (n : PortCounter) (p : PortId) (s : State) : State :=
  modPort p (fun q => { q with counters := bumpPort n q.counters }) s

def countLink (n : LinkCounter) (s : State) : State :=
  { s with link := bumpLink n s.link }

/-! ### Lamps, attention and notices (R130, R164, R175, R176) -/

/-- The lamp mode of a position from Table 7.3, as the state stands (R130). -/
def lampMode (k : PosId) (s : State) : LampMode :=
  lampFor s.positions[k].state (decide (Notice.call k ∈ s.notices)) (isCollecting s.positions[k].entry)

/-- The PC sets a position's lamp from Table 7.3 (R130, R131). -/
def refreshLamp (k : PosId) (s : State) : State :=
  modPos k (setLamp (lampMode k s)) s

/-- The WLU drives WATTN from the attention indication (R164). -/
def refreshAttention (s : State) : State :=
  { s with wattn := attention s }

/-- A change of the notice set, passed to the WLU and, for a CALL pair, to the PC (R176). -/
def noticeChanged : Notice → State → State
  | .call k, s => refreshLamp k (refreshAttention s)
  | _, s => refreshAttention s

/-- A pair joins the notice set, kept in the order of `noticeRank` (R175). -/
def insertNotice (n : Notice) : List Notice → List Notice
  | [] => [n]
  | m :: ms => if noticeRank n < noticeRank m then n :: m :: ms else m :: insertNotice n ms

/-- A block raises a notice: a pair already present leaves the set unchanged (R175). -/
def raiseNotice (n : Notice) (s : State) : State :=
  if n ∈ s.notices then s
  else noticeChanged n { s with notices := insertNotice n s.notices }

/-! ### Control queue (R157 to R159) -/

/-- Free unreserved slots: 16 less the frames and less the reservations (R157). -/
def freeSlots (s : State) : Nat := Config.controlSlots - s.control.length - s.reservations

/-- A reservation takes one free unreserved slot (R158). -/
def reserveSlot (s : State) : State := { s with reservations := s.reservations + 1 }

/-- A frame fills a reservation: it joins the tail, and the reservation is gone (R158). -/
def placeReserved (f : ControlFrame) (s : State) : State :=
  { s with control := s.control ++ [f], reservations := s.reservations - 1 }

/-- A frame is placed in a free unreserved slot. -/
def placeFrame (f : ControlFrame) (s : State) : State :=
  { s with control := s.control ++ [f] }

/-- A refusal of a UNIT REQUEST, of a GROUP REQUEST or by the WLU: placed in a free unreserved slot, or discarded and
counted CONTROL_OVERFLOW (R58, R156, R159). -/
def refuse (tag : Byte) (status : Status) (s : State) : State :=
  if freeSlots s = 0 then countLink .controlOverflow s
  else placeFrame (.reply tag status []) s

/-- Whether the head of the control queue is in transmission. -/
def controlSending (s : State) : Bool :=
  match s.tx with
  | .sending .control _ _ => true
  | _ => false

/-- Whether the head of a port's outbound list is in transmission. -/
def portSending (p : PortId) (s : State) : Bool :=
  match s.tx with
  | .sending (.port q) _ _ => decide (q = p)
  | _ => false

/-- Frames of the control queue in transmission: its head, or none. -/
def controlInFlight (s : State) : List ControlFrame :=
  if controlSending s then s.control.take 1 else []

/-- Frames of the control queue that wait. -/
def controlWaiting (s : State) : List ControlFrame :=
  if controlSending s then s.control.drop 1 else s.control

/-- Whether a frame is an ENTRY PROGRESS of a position. -/
def isProgressOf (k : PosId) : ControlFrame → Bool
  | .progress j _ _ _ _ => decide (j = k)
  | _ => false

/-- An ENTRY PROGRESS updated in place: its digit count and both flags are replaced (R143). -/
def updateProgress (k : PosId) (count : Nat) (short full : Bool) : ControlFrame → ControlFrame
  | .progress j session c sh fu =>
    if j = k then .progress j session count short full else .progress j session c sh fu
  | f => f

/-- The EU queues an ENTRY PROGRESS: it updates the waiting one of the position, or places one in a free unreserved slot,
or skips it and counts PROGRESS_SKIPPED (R143). -/
def queueProgress (k : PosId) (count : Nat) (short full : Bool) (s : State) : State :=
  if (controlWaiting s).any (isProgressOf k) then
    { s with control := controlInFlight s ++ (controlWaiting s).map (updateProgress k count short full) }
  else if freeSlots s = 0 then countLink .progressSkipped s
  else placeFrame (.progress k s.positions[k].session count short full) s

/-- At the end of an entry a waiting ENTRY PROGRESS of its position leaves the queue (R143). -/
def removeProgress (k : PosId) (s : State) : State :=
  { s with control := controlInFlight s ++ (controlWaiting s).filter (fun f => !isProgressOf k f) }

/-! ### Silence timer (R166) -/

/-- The silence timer starts afresh with the silence limit in force, or stays stopped while that is off (R166). -/
def restartSilence (s : State) : State :=
  { s with silence := if s.line.silenceLimit = 0 then none else some (s.line.silenceLimit.toNat * 1000) }

/-! ### Management requests (R158, R159, R169) -/

/-- What the owner of a management request answers. -/
inductive Answer
  | ok (result : List Byte)
  | refuse (status : Status)
  deriving DecidableEq, Repr

/-- The CONTROL REPLY of an answer: a result only with OK (R170). -/
def answerFrame (tag : Byte) : Answer → ControlFrame
  | .ok result => .reply tag .ok result
  | .refuse status => .reply tag status []

/-- A management request dispatched and taken: without a free unreserved slot it is discarded and counted; otherwise a slot
is reserved, the owner takes the request as one action, and its CONTROL REPLY fills the reservation (R158, R159, R169).
When it has been taken or discarded the silence timer starts afresh (R166). -/
def manage (tag : Byte) (take : State → State × Answer) (s : State) : State :=
  if freeSlots s = 0 then restartSilence (countLink .controlOverflow s)
  else
    let r := take (reserveSlot s)
    restartSilence (placeReserved (answerFrame tag r.2) r.1)

/-! ### Exchange pool (R50, R51) -/

/-- Number of FREE records (R171). -/
def freeRecords (s : State) : Nat := s.pool.toList.countP fun r => decide (r.state = .free)

/-- The FREE record the XE takes: which one is not visible outside (R51, log 8). -/
def firstFree (s : State) : Option RecId :=
  (List.finRange 24).find? fun i => decide (s.pool[i].state = .free)

/-- A record returns to FREE with every field and timer cleared (R51). -/
def freeRecord (i : RecId) (s : State) : State := modRec i (fun _ => freeExchange) s

/-- An open unit exchange: a workstation exchange in QUEUED, SENDING, AWAITING or HELD (R50). -/
def isOpen (r : Exchange) : Bool :=
  decide (r.origin = some .workstation) &&
    (decide (r.state = .queued) || decide (r.state = .sending) || decide (r.state = .awaiting) || decide (r.state = .held))

/-- In flight: SENDING, AWAITING or ORPHANED (R50). -/
def isInFlight (r : Exchange) : Bool :=
  decide (r.state = .sending) || decide (r.state = .awaiting) || decide (r.state = .orphaned)

/-- The exchange in flight on a port (R53). -/
def inFlight (p : PortId) (s : State) : Option RecId :=
  (List.finRange 24).find? fun i => decide (s.pool[i].port = some p) && isInFlight s.pool[i]

/-- Number of open unit exchanges of a unit (R20). -/
def openExchanges (u : UnitId) (s : State) : Nat :=
  s.pool.toList.countP fun r => decide (r.unit = some u) && isOpen r

/-- Number of WORKSTATION exchanges QUEUED on a port (R53). -/
def queuedWorkstation (p : PortId) (s : State) : Nat :=
  s.ports[p].queue.countP fun i => decide (s.pool[i].origin = some .workstation)

/-- Whether a tag belongs to an open unit exchange or to an open group record (R57, R92). -/
def tagTaken (tag : Byte) (s : State) : Bool :=
  s.pool.toList.any (fun r => decide (r.tag = some tag) && isOpen r) ||
    s.groupRecords.any (fun g => decide (g.tag = tag))

/-- A workstation exchange is accepted: a FREE record is filled and set QUEUED at the tail of its port's queue (R57, R94). -/
def acceptExchange (u : UnitId) (p : PortId) (tag : Byte) (group : Option Byte) (command : Byte) (data : List Byte)
    (s : State) : State :=
  match firstFree s with
  | none => s
  | some i =>
    modPort p (fun q => { q with queue := q.queue ++ [i] })
      (modRec i (fun _ => { freeExchange with
        state := .queued, origin := some .workstation, tag := some tag, unit := some u, port := some p, group := group,
        command := command, data := data }) s)

/-! ### Entries (R143, R146) -/

/-- The end of a position's entry (R146): its RESERVED record returns to FREE, a waiting ENTRY PROGRESS is removed, ENTRY END
fills the reserved slot, the entry record is freed with its digits and timer, and the lamp follows. -/
def endEntry (k : PosId) (outcome : EntryOutcome) (cause : EntryCause) (status : Byte) (data : List Byte)
    (s : State) : State :=
  match s.positions[k].entry with
  | none => s
  | some e =>
    let s1 := if s.pool[e.record].state = .reserved then freeRecord e.record s else s
    let s2 := removeProgress k s1
    let s3 := placeReserved (.entryEnd k s2.positions[k].session outcome cause status data) s2
    refreshLamp k (modPos k (fun q => { q with entry := none }) s3)

/-- A report that ends an entry that is COLLECTING and leaves any other as it is (R147). -/
def abandonCollecting (k : PosId) (cause : EntryCause) (s : State) : State :=
  if isCollecting s.positions[k].entry then endEntry k .abandoned cause 0 [] s else s

/-! ### Evaluations of the Route Table (R8 to R12) -/

/-- The position and the role a unit is assigned to (R116). -/
def assignment (u : UnitId) (s : State) : Option (PosId × Role) :=
  (List.finRange 8).findSome? fun k =>
    if s.positions[k].reader = some u then some (k, .reader)
    else if s.positions[k].keypad = some u then some (k, .keypad)
    else none

def portReady (p : PortId) (s : State) : Bool := decide (s.ports[p].state = .ready)

/-- The active port: the primary if READY, otherwise the standby if READY (R9). -/
def activePort (e : RouteEntry) (s : State) : Option PortId :=
  if portReady e.primary s then some e.primary
  else
    match e.standby with
    | some q => if portReady q s then some q else none
    | none => none

/-- The usable-unit test of a unit as the state stands, without effects (R11). -/
def usableTest (u : UnitId) (s : State) : Usable :=
  let e := s.routes[u]
  if e.valid = false then .notValid
  else if routeFaulted e then .faulted
  else
    match activePort e s with
    | none => .noPort
    | some p => if conflicts e.expected s.ports[p].identity then .mismatch p else .usable p

/-- The active port an outcome gives (R11, R20). -/
def usablePort : Usable → Option PortId
  | .usable p => some p
  | .mismatch p => some p
  | _ => none

def isUsable : Usable → Bool
  | .usable _ => true
  | _ => false

/-- The cause with which the loss of a unit of a role ends an entry (R147). -/
def lostCause : Role → EntryCause
  | .reader => .readerLost
  | .keypad => .keypadLost

/-- The RT reports an outcome other than USABLE of an assigned unit to the EU, which ends a COLLECTING entry (R12, R147). -/
def reportUnusable (u : UnitId) (s : State) : State :=
  match assignment u s with
  | some (k, role) => abandonCollecting k (lostCause role) s
  | none => s

/-- What an outcome raises: FAULTED raises TABLE_FAULT (R5). -/
def raiseFault (u : UnitId) (r : Usable) (s : State) : State :=
  match r with
  | .faulted => raiseNotice (.unitFault u) s
  | _ => s

/-- The effects of an evaluation of a unit that gave the outcome `r` (R5, R12). -/
def evaluationEffects (u : UnitId) (r : Usable) (s : State) : State :=
  if isUsable r then s else reportUnusable u (raiseFault u r s)

/-- The usable-unit test for use, with its ordinary effects (R5, R11, R12). -/
def evaluate (u : UnitId) (s : State) : State := evaluationEffects u (usableTest u s) s

/-- Whether a unit is to be re-evaluated when a port changes: its valid entry names the port, or the port-owner map names
the unit for it (R12, R38; log 12). -/
def namesPort (p : PortId) (u : UnitId) (s : State) : Bool :=
  s.routes[u].valid &&
    (decide (s.routes[u].primary = p) || decide (s.routes[u].standby = some p) || decide (s.owners[p] = some u))

/-- The RT re-evaluates every unit that names a port entering or leaving READY (R12), in ascending order (log 12, log 30). -/
def reevaluate (p : PortId) (s : State) : State :=
  (List.finRange 24).foldl (fun t u => if namesPort p u t then evaluate u t else t) s

/-! ### The DPC's frame, and consecutive failures (R22, R40, R66) -/

/-- The frame a DPC holds, once its exchange has ended: a frame not started is dropped, and one on the line is sent to its
end for no one (R66). -/
def releaseTx (i : RecId) : DeviceTx → DeviceTx
  | .idle => .idle
  | .holding (.exchange j) bytes => if j = i then .idle else .holding (.exchange j) bytes
  | .holding o bytes => .holding o bytes
  | .sending (.exchange j) frame half talked =>
    if j = i then .sending .nobody frame half talked else .sending (.exchange j) frame half talked
  | .sending o frame half talked => .sending o frame half talked

/-- An end reported to the DPC: TIMEOUT adds one to the consecutive-failure count, DONE sets it to 0 (R40). -/
def reportFailures (st : EndStatus) (n : Nat) : Nat :=
  match st with
  | .timeout => n + 1
  | .done => 0
  | _ => n

/-- The exchange of record `i` on port `p` has ended with `st`, as far as the port's DPC is concerned (R40, R66). -/
def reportToPort (p : PortId) (i : RecId) (st : EndStatus) (s : State) : State :=
  modPort p (fun q => { q with tx := releaseTx i q.tx, failures := reportFailures st q.failures }) s

/-! ### Group records (R96, R97) -/

/-- The test of R96 on a record whose answered count has just risen. -/
def groupTest (g : GroupRecord) : Option GroupOutcome :=
  if g.endQueued then none
  else if g.answered = g.expected then some .complete
  else if g.answered = g.issued then some .short
  else none

/-- GROUP END of a record (R96). -/
def groupEndFrame (g : GroupRecord) (o : GroupOutcome) : ControlFrame :=
  .groupEnd g.group g.tag o g.expected g.issued g.skipped g.answered

/-- GROUP END placed in the record's reserved slot, where the test gives an outcome. -/
def placeGroupEnd (g : GroupRecord) (s : State) : State :=
  match groupTest g with
  | some o => placeReserved (groupEndFrame g o) s
  | none => s

/-- A record after the test: end queued is set where GROUP END has been placed. -/
def afterTest (g : GroupRecord) : GroupRecord := { g with endQueued := g.endQueued || (groupTest g).isSome }

/-- The list of open records with the record of `g.tag` replaced, or freed when its end is queued and all its members have
ended (R97). -/
def storeRecord (g : GroupRecord) (l : List GroupRecord) : List GroupRecord :=
  if g.endQueued ∧ g.answered = g.issued then l.filter (fun h => decide (h.tag ≠ g.tag))
  else l.map (fun h => if h.tag = g.tag then g else h)

/-- The end report of a member exchange of the record with this tag (R96). -/
def memberEnded (tag : Byte) (s : State) : State :=
  match s.groupRecords.find? (fun g => decide (g.tag = tag)) with
  | none => s
  | some g =>
    let g1 := { g with answered := g.answered + 1 }
    let s1 := placeGroupEnd g1 s
    { s1 with groupRecords := storeRecord (afterTest g1) s1.groupRecords }

/-- Whether GROUP END of the record with this tag has been queued: AFTER_END of a member that ends now (R95). -/
def endQueuedFor (group : Option Byte) (s : State) : Bool :=
  match group with
  | some tag => s.groupRecords.any fun g => decide (g.tag = tag) && g.endQueued
  | none => false

/-! ### Ends of exchanges (R63, R67, R68, R70) -/

/-- How the end of a delivery ends its entry: outcome, cause, reader status, reader data (R145). -/
def deliveryEnd (st : EndStatus) (status : Byte) (data : List Byte) :
    EntryOutcome × EntryCause × Byte × List Byte :=
  match st with
  | .done => (.delivered, .none, status, data.take 16)
  | .timeout => (.notDelivered, .timeout, 0, [])
  | .detached => (.notDelivered, .detached, 0, [])
  | .faulted => (.notDelivered, .faulted, 0, [])
  | .reset => (.notDelivered, .reset, 0, [])
  | .aborted => (.notDelivered, .none, 0, [])

/-- The XE reports a delivery's end to the EU, and frees the record (R70, R145). -/
def endDelivery (i : RecId) (st : EndStatus) (status : Byte) (data : List Byte) (s : State) : State :=
  let d := deliveryEnd st status data
  match s.pool[i].position with
  | some k => endEntry k d.1 d.2.1 d.2.2.1 d.2.2.2 (freeRecord i s)
  | none => freeRecord i s

/-- The UNIT REPLY of an ended workstation exchange is appended to its port's outbound list, and its hold timer starts
(R68). -/
def holdReply (i : RecId) (p : PortId) (afterEnd : Bool) (st : EndStatus) (status : Byte) (data : List Byte)
    (s : State) : State :=
  let r := s.pool[i]
  let f := OutFrame.reply i (r.unit.getD 0) (r.tag.getD 0) r.group.isSome afterEnd st status data
  modPort p (fun q => { q with outbound := q.outbound ++ [f] })
    (modRec i (fun r => { r with state := .held, hold := some (holdMs s.line.hold) }) s)

/-- The end report of an exchange that belongs to a group record (R67, second step). -/
def reportToGroup (group : Option Byte) (s : State) : State :=
  match group with
  | some tag => memberEnded tag s
  | none => s

/-- The end of an exchange that is not ORPHANED (R67): the end status is recorded, the DPC, then the GU are told, and then a
workstation exchange is HELD, or a delivery is reported to the EU and freed. -/
def endExchange (i : RecId) (st : EndStatus) (status : Byte) (data : List Byte) (s : State) : State :=
  match s.pool[i].port with
  | none => s
  | some p =>
    let s1 := modRec i (fun r =>
      { r with endStatus := some st, deviceStatus := status, replyData := data, deadline := none }) s
    let s2 := reportToPort p i st s1
    let s3 := reportToGroup s.pool[i].group s2
    if s.pool[i].origin = some .delivery then endDelivery i st status data s3
    else holdReply i p (endQueuedFor s.pool[i].group s2) st status data s3

/-- The silent end of an ORPHANED exchange: only the DPC is told, and the record is freed (R76). -/
def endOrphan (i : RecId) (st : EndStatus) (s : State) : State :=
  match s.pool[i].port with
  | none => s
  | some p => freeRecord i (reportToPort p i st s)

/-- An orphan freed by its port's departure, with no report (R73, R76). -/
def dropOrphan (i : RecId) (s : State) : State :=
  match s.pool[i].port with
  | none => s
  | some p => freeRecord i (modPort p (fun q => { q with tx := releaseTx i q.tx }) s)

/-- Whether the frame a DPC holds for an exchange has not been started. -/
def heldUnstarted (i : RecId) : DeviceTx → Bool
  | .holding (.exchange j) _ => decide (j = i)
  | _ => false

/-- A SENDING or AWAITING record becomes ORPHANED; where its frame has been handed over and not started, the frame is
dropped and the record freed at once (R75, R76). -/
def orphan (i : RecId) (s : State) : State :=
  match s.pool[i].port with
  | none => s
  | some p =>
    if heldUnstarted i s.ports[p].tx then dropOrphan i s
    else modRec i (fun r => { r with state := .orphaned }) s

/-! ### Port changes (R31 to R44) -/

/-- The XE ends the exchanges of a port that leaves READY: first the one in flight, then the queue, head first; an orphan is
freed (R73). -/
def endInFlight (p : PortId) (st : EndStatus) (s : State) : State :=
  match inFlight p s with
  | none => s
  | some i => if s.pool[i].state = .orphaned then dropOrphan i s else endExchange i st 0 [] s

def endQueued (p : PortId) (st : EndStatus) (s : State) : State :=
  s.ports[p].queue.foldl (fun t i => endExchange i st 0 [] t) (modPort p (fun q => { q with queue := [] }) s)

/-- The PC sets the card state of a position to NO_CARD where the map names the port for its reader unit (R128). -/
def clearCard (p : PortId) (s : State) : State :=
  match s.owners[p] with
  | none => s
  | some u =>
    match assignment u s with
    | some (k, .reader) => modPos k (fun q => { q with card := .noCard }) s
    | _ => s

/-- A port's departure from READY, reported to the XE, the RT and the PC (R41). The port state has already changed. DESIGN CHOICE
(log 30): R41 asks for no order among the three; the XE acts first, then the RT, then the PC, so in the control queue a GROUP END and a
delivery's ENTRY END of the departure stand before an ENTRY END ABANDONED of it (R73, R147). -/
def depart (p : PortId) (st : EndStatus) (s : State) : State :=
  clearCard p (reevaluate p (endQueued p st (endInFlight p st s)))

/-- Everything a port has under way on its line stops: a frame is cut off or discarded (R22), the assembler is emptied, and
the gap timer, the settle timer and the identify stop. -/
def stopLine (q : Port) : Port :=
  { q with tx := .idle, asm := .hunting false, gap := none, settle := none, identify := none }

/-- The reset pulse ended with DRSTn released. -/
def endPulse (q : Port) : Port := { q with pulse := none, resetLine := false }

/-- A port enters EMPTY, its identity cleared, and passes straight on to SETTLING where presence is asserted (R32, R33). -/
def enterEmpty (q : Port) : Port :=
  if q.present then { q with state := .settling, settle := some settleMs, identity := none }
  else { q with state := .empty, identity := none }

/-- The departure of a port that was READY; nothing for another (R41). -/
def departIf (wasReady : Bool) (p : PortId) (st : EndStatus) (s : State) : State :=
  if wasReady then depart p st s else s

/-- A port enters FAULT with a cause and raises PORT_FAULT; an over-current switches the supply off (R35, R39, R40). -/
def enterFault (p : PortId) (cause : FaultCause) (s : State) : State :=
  departIf (portReady p s) p .faulted
    (raiseNotice (.portFault p)
      (modPort p (fun q => { endPulse (stopLine q) with
        state := .fault, cause := cause, supply := q.supply && decide (cause ≠ .overcurrent) }) s))

/-- After an end TIMEOUT: the fourth in a row moves the port to FAULT with cause SILENT_DEVICE (R40, R62). -/
def silentCheck (p : PortId) (s : State) : State :=
  if portReady p s ∧ 4 ≤ s.ports[p].failures then enterFault p .silentDevice s else s

/-- A new seq: the counter plus one, or 1 when it holds 255 (R23). -/
def nextSeq (c : Byte) : Byte := if c = 0xFF then 1 else c + 1

/-- The identify's request frame: command 00 and no data (R36). -/
def identifyBytes (seq : Byte) : List Byte := requestBytes seq 0 []

/-- The port enters IDENTIFYING: the assembler begins hunting, and the first attempt's frame is handed over with a new seq
(R24, R33, R36). -/
def beginIdentify (q : Port) : Port :=
  { stopLine q with
    state := .identifying
    seq := nextSeq q.seq
    identify := some ⟨1, nextSeq q.seq, none, false⟩
    tx := .holding .identify (identifyBytes (nextSeq q.seq)) }

/-- The deadline of an attempt that ended, or its unusable reply, is followed by another attempt: its frame is handed over
as soon as the DPC holds no frame (R36, R37). -/
def retryIdentify (d : Identify) (q : Port) : Port :=
  if q.tx = .idle then
    { q with identify := some ⟨d.attempt + 1, d.seq, none, false⟩, tx := .holding .identify (identifyBytes d.seq) }
  else { q with identify := some ⟨d.attempt + 1, d.seq, none, true⟩ }

/-- Attempts allowed: one and the port's retry limit in force (R36, R60). -/
def attemptsAllowed (c : PortConfig) : Nat := 1 + c.retryLimit.toNat

/-! ### Counter restart (R49, R77, R99, R115, R134, R151, R167) -/

/-- Whether a record's UNIT REPLY is in transmission. -/
def replySending (i : RecId) (s : State) : Bool :=
  match s.tx with
  | .sending (.port p) _ _ =>
    match s.ports[p].outbound with
    | .reply j _ _ _ _ _ _ _ :: _ => decide (j = i)
    | _ => false
  | _ => false

/-- A record at a counter restart (R76, R77). -/
def restartRecord (i : RecId) (s : State) : State :=
  match s.pool[i].state with
  | .queued => freeRecord i s
  | .reserved => freeRecord i s
  | .held => if replySending i s then s else freeRecord i s
  | .sending => orphan i s
  | .awaiting => orphan i s
  | .free => s
  | .orphaned => s

/-- A port at a counter restart: the request queue is empty, the outbound list keeps only a frame in transmission, and the
lost count is 0 (R49, R77, R115). -/
def restartPort (p : PortId) (s : State) : State :=
  modPort p (fun q => { q with
    queue := [], lost := 0, outbound := if portSending p s then q.outbound.take 1 else [] }) s

/-- A position record at a counter restart: its entry ends without a frame, and SESSION becomes OPEN with session number 0
(R134, R151). -/
def closeForRestart (q : Position) : Position :=
  if q.state = .session then { q with state := .open, session := 0, entry := none } else { q with entry := none }

/-- A position at a counter restart, its lamp moved to its mode in the new state (R134). -/
def restartPosition (k : PosId) (s : State) : State := refreshLamp k (modPos k closeForRestart s)

/-- The counter restart in every block; `kept` is 1 for the reservation of the RESTART request itself and 0 for a stand-down
(R167, R180). -/
def counterRestart (kept : Nat) (s : State) : State :=
  let s1 := (List.finRange 24).foldl (fun t i => restartRecord i t) s
  let s2 := (List.finRange 12).foldl (fun t p => restartPort p t) s1
  let s3 := (List.finRange 8).foldl (fun t k => restartPosition k t) s2
  { s3 with control := controlInFlight s3, reservations := kept, groupRecords := [] }

end Sys2Proof.Machine
end

