-- ==== Sys2Proof/Machine/Arbiter.lean ====
section
/-! DEFINITION. The outbound arbiter and the end of a granted frame: GRANT, WORKSTATION_FRAME_END (R69, R111, R160 to R164). -/

namespace Sys2Proof.Machine

/-- Whether a port of a group has a candidate: its outbound list holds a frame (R161, R162). -/
def candidate (g : Priority) (s : State) (p : PortId) : Bool :=
  decide (s.ports[p].config.group = g) && !s.ports[p].outbound.isEmpty

/-- The ports in cyclic order from the port after a pointer, or from port 0 (R162). -/
def cyclicFrom (ptr : Option PortId) : List PortId :=
  match ptr with
  | none => List.finRange 12
  | some q => (List.finRange 12).map fun i => q + 1 + i

/-- The port a group grants next (R162). -/
def groupPick (g : Priority) (ptr : Option PortId) (s : State) : Option PortId :=
  (cyclicFrom ptr).find? (candidate g s)

/-- Whether the LOW group is chosen where both groups have candidates (R162). -/
def lowTurn (s : State) : Bool := decide (s.line.k ≠ 0) && decide (s.line.k.toNat ≤ s.starvation)

/-- The starvation count after a HIGH grant made while a LOW port has a candidate (R162). -/
def starve (s : State) : Nat := if s.line.k = 0 then s.starvation else s.starvation + 1

/-- The pointers and the count after a HIGH grant. -/
def grantHigh (p : PortId) (count : Nat) (s : State) : State := { s with highPtr := some p, starvation := count }

/-- The pointers and the count after a LOW grant, which sets the count to 0 (R162). -/
def grantLow (p : PortId) (s : State) : State := { s with lowPtr := some p, starvation := 0 }

/-- The port granted and the state with its pointer and count (R162); none where no port has a candidate. -/
def choosePort (s : State) : Option (PortId × State) :=
  match groupPick .high s.highPtr s, groupPick .low s.lowPtr s with
  | none, none => none
  | some p, none => some (p, grantHigh p s.starvation s)
  | none, some q => some (q, grantLow q s)
  | some p, some q => if lowTurn s then some (q, grantLow q s) else some (p, grantHigh p (starve s) s)

/-- A frame put into transmission (R153, R160, R161). -/
def transmit (src : TxSource) (f : CounterFrame) (s : State) : State :=
  { s with tx := .sending src f (counterChars f) }

/-- The hold timer of a granted UNIT REPLY stops (R69). -/
def stopHold (f : OutFrame) (s : State) : State :=
  match f with
  | .reply i _ _ _ _ _ _ _ => modRec i (fun r => { r with hold := none }) s
  | .event _ _ _ _ _ => s

/-- The grant of the head frame of a port's outbound list. -/
def grantPort (p : PortId) (s : State) : State :=
  match s.ports[p].outbound with
  | f :: _ => transmit (.port p) (outFrame (attention s) f) (stopHold f s)
  | [] => s

/-- A grant: the head of the control queue first, otherwise a port's head frame (R161, R162), with ATTENTION as it stands (R164). DEDUCED
(log 31): so is a STARTED granted after a notice was raised. -/
def makeGrant (s : State) : State :=
  match s.control with
  | f :: _ => transmit .control (controlFrame (attention s) f) s
  | [] =>
    match choosePort s with
    | some (p, t) => grantPort p t
    | none => s

/-- GRANT as R161 gives it: no grant is made unless the transmitter is idle and WREADY is asserted. -/
def grant (s : State) : State := if s.tx = .idle ∧ s.wready then makeGrant s else s

/-- What the end of a granted frame of an outbound list frees or counts (R69, R111, R163). -/
def sentFrom (p : PortId) (f : OutFrame) (s : State) : State :=
  match f with
  | .reply i _ _ _ _ _ _ _ => freeRecord i s
  | .event _ _ _ _ _ => countPort .forwardedEvents p s

/-- The frame sent leaves the port's list (R163). -/
def portSent (p : PortId) (s : State) : State :=
  match s.ports[p].outbound with
  | f :: rest => sentFrom p f (modPort p (fun q => { q with outbound := rest }) s)
  | [] => s

/-- The frame sent leaves its queue or list; the transmitter's own copy leaves none (R160, R163, R168). -/
def sourceSent (src : TxSource) (s : State) : State :=
  match src with
  | .control => { s with control := s.control.drop 1 }
  | .port p => portSent p s
  | .copy => s

/-- The last byte of a granted frame has been sent (R163). -/
def frameDone (s : State) : State :=
  match s.tx with
  | .sending src _ _ => sourceSent src { s with tx := .idle }
  | .idle => s

/-- GRANT (R161). -/
def execGrant (s : State) : Host.Outcome State Fault Refusal := .next (grant s)

/-- WORKSTATION_FRAME_END (R163). -/
def execWorkstationFrameEnd (s : State) : Host.Outcome State Fault Refusal := .next (frameDone s)

end Sys2Proof.Machine
end

