-- ==== Sys2Proof/Machine/Operands.lean ====
section
/-! DEFINITION. The parameter layouts of the management requests (Table 12.7) and their length and range checks (R184). A `parse` function answers none where the request is refused BAD_LENGTH; a `decode` function answers none where it is refused BAD_PARAMETER. -/

namespace Sys2Proof.Machine

/-- A request of no parameters. -/
def parseNone : List Byte → Option Unit
  | [] => some ()
  | _ => none

/-- A request of one parameter byte. -/
def parseOne : List Byte → Option Byte
  | [a] => some a
  | _ => none

/-- One byte taken from a run where its selection bit is set. -/
def takeField (selected : Bool) (l : List Byte) : Option (Option Byte × List Byte) :=
  if selected then
    match l with
    | x :: rest => some (some x, rest)
    | [] => none
  else some (none, l)

/-- A selected value decoded; a value that is not selected is not examined (R15, R45, R89, R165). -/
def decodeField {α : Type} (decode : Byte → Option α) : Option Byte → Option (Option α)
  | none => some none
  | some b => (decode b).map some

/-! ### SET ROUTE -/

/-- Parameters of SET ROUTE (code 01): `ports` and `expected` are present where PORTS and CLASS are selected. -/
structure RouteParams where
  unit : Byte
  ports : Option (Byte × Byte)
  expected : Option Byte
  forcePorts : Bool
  forceClass : Bool
  deriving DecidableEq, Repr

def parseRoute : List Byte → Option RouteParams
  | unit :: sel :: rest =>
    match sel.getLsbD 0, sel.getLsbD 1, rest with
    | true, true, [a, b, c] => some ⟨unit, some (a, b), some c, sel.getLsbD 4, sel.getLsbD 5⟩
    | true, false, [a, b] => some ⟨unit, some (a, b), none, sel.getLsbD 4, sel.getLsbD 5⟩
    | false, true, [c] => some ⟨unit, none, some c, sel.getLsbD 4, sel.getLsbD 5⟩
    | false, false, [] => some ⟨unit, none, none, sel.getLsbD 4, sel.getLsbD 5⟩
    | _, _, _ => none
  | _ => none

/-- A SET ROUTE whose parameters are in range (R15, check 2): what it writes. -/
structure RouteWrite where
  unit : UnitId
  ports : Option (PortId × Option PortId)
  expected : Option ExpectedClass
  forcePorts : Bool
  forceClass : Bool
  deriving DecidableEq, Repr

/-- The PORTS values: primary at most 11, standby at most 11 or none and not equal to the primary (R15). -/
def decodePorts : Option (Byte × Byte) → Option (Option (PortId × Option PortId))
  | none => some none
  | some (a, b) =>
    match portOf a, standbyOf b with
    | some p, some q => if q = some p then none else some (some (p, q))
    | _, _ => none

def decodeRoute (r : RouteParams) : Option RouteWrite :=
  if (r.ports.isNone && r.expected.isNone) || (r.forcePorts && r.ports.isNone) || (r.forceClass && r.expected.isNone)
  then none
  else
    match unitOf r.unit, decodePorts r.ports, decodeField expectedOf r.expected with
    | some u, some ports, some cls => some ⟨u, ports, cls, r.forcePorts, r.forceClass⟩
    | _, _, _ => none

/-! ### SET GROUP -/

/-- Parameters of SET GROUP (code 08): `count` and `members` are present where COUNT and MEMBERS are selected. -/
structure GroupParams where
  group : Byte
  count : Option Byte
  members : Option (List Byte)
  forceMembers : Bool
  forceCount : Bool
  deriving DecidableEq, Repr

/-- The member count and that many unit addresses, where MEMBERS is selected; nothing may follow (R184). -/
def parseMembers (selected : Bool) : List Byte → Option (Option (List Byte))
  | [] => if selected then none else some none
  | m :: units => if selected ∧ units.length = m.toNat then some (some units) else none

def parseGroup : List Byte → Option GroupParams
  | group :: sel :: rest =>
    match takeField (sel.getLsbD 1) rest with
    | some (count, rest) =>
      match parseMembers (sel.getLsbD 0) rest with
      | some members => some ⟨group, count, members, sel.getLsbD 4, sel.getLsbD 5⟩
      | none => none
    | none => none
  | _ => none

structure GroupWrite where
  group : GroupId
  count : Option Byte
  members : Option (List UnitId)
  forceMembers : Bool
  forceCount : Bool
  deriving DecidableEq, Repr

/-- The addresses of a member set: each 1-24, none named twice (R89). -/
def decodeUnits (l : List Byte) : Option (List UnitId) :=
  match l.mapM unitOf with
  | some us => if us.Nodup then some us else none
  | none => none

def decodeMembers : Option (List Byte) → Option (Option (List UnitId))
  | none => some none
  | some l => (decodeUnits l).map some

/-- An expected count of 0-24 (R89). -/
def decodeCount (b : Byte) : Option Byte := if b.toNat ≤ 24 then some b else none

def decodeGroup (r : GroupParams) : Option GroupWrite :=
  if (r.members.isNone && r.count.isNone) || (r.forceMembers && r.members.isNone) || (r.forceCount && r.count.isNone)
  then none
  else
    match groupOf r.group, decodeField decodeCount r.count, decodeMembers r.members with
    | some g, some count, some members => some ⟨g, count, members, r.forceMembers, r.forceCount⟩
    | _, _, _ => none

/-! ### SET PORT -/

/-- Parameters of SET PORT (code 10): one byte for each selected setting, in bit order. -/
structure PortParams where
  port : Byte
  rate : Option Byte
  charLen : Option Byte
  duplex : Option Byte
  allowance : Option Byte
  replyLimit : Option Byte
  retryLimit : Option Byte
  group : Option Byte
  power : Option Byte
  deriving DecidableEq, Repr

def parsePort : List Byte → Option PortParams
  | port :: sel :: l0 => do
    let (rate, l1) ← takeField (sel.getLsbD 0) l0
    let (charLen, l2) ← takeField (sel.getLsbD 1) l1
    let (duplex, l3) ← takeField (sel.getLsbD 2) l2
    let (allowance, l4) ← takeField (sel.getLsbD 3) l3
    let (replyLimit, l5) ← takeField (sel.getLsbD 4) l4
    let (retryLimit, l6) ← takeField (sel.getLsbD 5) l5
    let (group, l7) ← takeField (sel.getLsbD 6) l6
    let (power, l8) ← takeField (sel.getLsbD 7) l7
    match l8 with
    | [] => some ⟨port, rate, charLen, duplex, allowance, replyLimit, retryLimit, group, power⟩
    | _ => none
  | _ => none

/-- The settings an accepted SET PORT writes, each where selected. -/
structure PortWrite where
  port : PortId
  rate : Option Rate
  charLen : Option CharLen
  duplex : Option Duplex
  allowance : Option Byte
  replyLimit : Option Byte
  retryLimit : Option Byte
  group : Option Priority
  power : Option Bool
  deriving DecidableEq, Repr

/-- A reply allowance A of 0-250 (R45). -/
def decodeAllowance (b : Byte) : Option Byte := if b.toNat ≤ 250 then some b else none

/-- A reply size limit Lr of 16-64 (R45). -/
def decodeReplyLimit (b : Byte) : Option Byte := if 16 ≤ b.toNat ∧ b.toNat ≤ 64 then some b else none

/-- A retry limit of 0-3 (R45). -/
def decodeRetryLimit (b : Byte) : Option Byte := if b.toNat ≤ 3 then some b else none

/-- Whether no setting is selected. -/
def portParamsEmpty (r : PortParams) : Bool :=
  r.rate.isNone && r.charLen.isNone && r.duplex.isNone && r.allowance.isNone && r.replyLimit.isNone &&
    r.retryLimit.isNone && r.group.isNone && r.power.isNone

def decodePort (r : PortParams) : Option PortWrite :=
  if portParamsEmpty r then none
  else do
    let port ← portOf r.port
    let rate ← decodeField rateOf r.rate
    let charLen ← decodeField charLenOf r.charLen
    let duplex ← decodeField duplexOf r.duplex
    let allowance ← decodeField decodeAllowance r.allowance
    let replyLimit ← decodeField decodeReplyLimit r.replyLimit
    let retryLimit ← decodeField decodeRetryLimit r.retryLimit
    let group ← decodeField priorityOf r.group
    let power ← decodeField boolOf r.power
    some ⟨port, rate, charLen, duplex, allowance, replyLimit, retryLimit, group, power⟩

/-- Whether a line setting (rate, C, duplex or Lr) is selected (R45, check 3). -/
def selectsLineSetting (w : PortWrite) : Bool :=
  w.rate.isSome || w.charLen.isSome || w.duplex.isSome || w.replyLimit.isSome

/-- The configuration with every selected setting written (R45). -/
def writeConfig (w : PortWrite) (c : PortConfig) : PortConfig where
  rate := w.rate.getD c.rate
  charLen := w.charLen.getD c.charLen
  duplex := w.duplex.getD c.duplex
  allowance := w.allowance.getD c.allowance
  replyLimit := w.replyLimit.getD c.replyLimit
  retryLimit := w.retryLimit.getD c.retryLimit
  group := w.group.getD c.group
  power := w.power.getD c.power

/-! ### SET PASS -/

/-- Parameters of SET PASS (code 18): port and a pass set of two bytes. -/
def parsePass : List Byte → Option (Byte × Half)
  | [p, hi, lo] => some (p, halfOf hi lo)
  | _ => none

/-- A pass set of the nine classes (R114). -/
def decodePass (r : Byte × Half) : Option (PortId × BitVec 9) :=
  match portOf r.1 with
  | some p => if r.2.toNat < 512 then some (p, r.2.setWidth 9) else none
  | none => none

/-! ### Position and session requests -/

/-- Parameters of SET POSITION (code 20). -/
def parsePosition : List Byte → Option (Byte × Byte × Byte)
  | [k, r, p] => some (k, r, p)
  | _ => none

/-- The units of a SET POSITION: each 1-24 or none, and not the same unit (R118, check 1). -/
def decodeUnitsOfPosition (reader keypad : Byte) : Option (Option UnitId × Option UnitId) :=
  match optUnitOf reader, optUnitOf keypad with
  | some r, some p => if r = p ∧ r.isSome then none else some (r, p)
  | _, _ => none

/-! ### OPEN ENTRY -/

/-- Parameters of OPEN ENTRY (code 28). -/
structure EntryParams where
  position : Byte
  min : Byte
  max : Byte
  firstKey : Byte
  interKey : Byte
  command : Byte
  deriving DecidableEq, Repr

def parseEntry : List Byte → Option EntryParams
  | [k, mn, mx, fk, ik, c] => some ⟨k, mn, mx, fk, ik, c⟩
  | _ => none

/-- Check 5 of R137: min 1-12, max min-12, first-key limit 1-120, inter-key limit 1-30, reader command not 00. -/
def entryInRange (r : EntryParams) : Bool :=
  decide (1 ≤ r.min.toNat ∧ r.min.toNat ≤ 12) && decide (r.min.toNat ≤ r.max.toNat ∧ r.max.toNat ≤ 12) &&
    decide (1 ≤ r.firstKey.toNat ∧ r.firstKey.toNat ≤ 120) && decide (1 ≤ r.interKey.toNat ∧ r.interKey.toNat ≤ 30) &&
    decide (r.command ≠ 0)

/-! ### SET LINE -/

/-- Parameters of SET LINE (code 30): each present if selected, in bit order. -/
structure LineParams where
  hold : Option Byte
  silence : Option Byte
  k : Option Byte
  enable : Option Half
  deriving DecidableEq, Repr

def parseLine : List Byte → Option LineParams
  | sel :: l0 => do
    let (hold, l1) ← takeField (sel.getLsbD 0) l0
    let (silence, l2) ← takeField (sel.getLsbD 1) l1
    let (k, l3) ← takeField (sel.getLsbD 2) l2
    match sel.getLsbD 3, l3 with
    | true, [hi, lo] => some ⟨hold, silence, k, some (halfOf hi lo)⟩
    | false, [] => some ⟨hold, silence, k, none⟩
    | _, _ => none
  | [] => none

structure LineWrite where
  hold : Option HoldLimit
  silence : Option Byte
  k : Option Byte
  enable : Option (BitVec 11)
  deriving DecidableEq, Repr

/-- A silence limit of 0 (off) to 60 s (R165). -/
def decodeSilence (b : Byte) : Option Byte := if b.toNat ≤ 60 then some b else none

/-- A starvation limit of 0-15 (R165). -/
def decodeStarvation (b : Byte) : Option Byte := if b.toNat ≤ 15 then some b else none

/-- A notice enable set drawn from the eleven kinds (R165). -/
def decodeEnable : Option Half → Option (Option (BitVec 11))
  | none => some none
  | some h => if h.toNat < 2048 then some (some (h.setWidth 11)) else none

def decodeLine (r : LineParams) : Option LineWrite := do
  let hold ← decodeField holdOf r.hold
  let silence ← decodeField decodeSilence r.silence
  let k ← decodeField decodeStarvation r.k
  let enable ← decodeEnable r.enable
  some ⟨hold, silence, k, enable⟩

/-- The line settings with every selected setting written (R165). -/
def writeLine (w : LineWrite) (l : LineSettings) : LineSettings where
  hold := w.hold.getD l.hold
  silenceLimit := w.silence.getD l.silenceLimit
  k := w.k.getD l.k
  enable := w.enable.getD l.enable

/-! ### READ COUNTERS and RESTART -/

/-- Parameters of READ COUNTERS (code 39): selection and clear option. -/
def parseCounters : List Byte → Option (Byte × Byte)
  | [sel, clear] => some (sel, clear)
  | _ => none

/-- What READ COUNTERS selects: one port, or the link counters (FF). -/
inductive CounterSelection
  | port (port : PortId)
  | link
  deriving DecidableEq, Repr

def selectionOf (b : Byte) : Option CounterSelection :=
  if b = 0xFF then some .link else (portOf b).map .port

/-- RESTART scope byte TRAFFIC (code 3F). -/
def scopeTraffic : Byte := 0x01

/-- RESTART scope byte ALL. -/
def scopeAll : Byte := 0x02

end Sys2Proof.Machine
end

