-- ==== Sys2Proof/Machine/PositionRequests.lean ====
section
/-! DEFINITION. Position and session requests, and the withdrawal of an entry's delivery (R75, R117 to R126, R148). -/

namespace Sys2Proof.Machine

/-- A request that carries one position: the length and position checks of R117, then `act`. -/
def withPosition (params : List Byte) (act : PosId → State → State × Answer) (s : State) : State × Answer :=
  match parseOne params with
  | none => (s, .refuse .badLength)
  | some b =>
    match posOf b with
    | none => (s, .refuse .badParameter)
    | some k => act k s

/-! ### SET POSITION -/

/-- Check 3: the route entry of a named unit is invalid (R118). -/
def unitInvalid (u : Option UnitId) (s : State) : Bool :=
  match u with
  | some v => !s.routes[v].valid
  | none => false

/-- Check 4: the valid route entry of a named unit has a faulted section (R118). -/
def unitFaulted (u : Option UnitId) (s : State) : Bool :=
  match u with
  | some v => s.routes[v].valid && routeFaulted s.routes[v]
  | none => false

/-- Check 5: a named unit's expected class is not the class of its role (R118). -/
def unitWrongClass (u : Option UnitId) (c : ExpectedClass) (s : State) : Bool :=
  match u with
  | some v => decide (s.routes[v].expected ≠ c)
  | none => false

/-- Check 6: a named unit is assigned to another position (R118). -/
def unitElsewhere (u : Option UnitId) (k : PosId) (s : State) : Bool :=
  match u with
  | some v =>
    match assignment v s with
    | some (j, _) => decide (j ≠ k)
    | none => false
  | none => false

/-- The RT's answer about a named unit: a fault found raises TABLE_FAULT (R5, R118). DEDUCED (log 13): the question is no evaluation of R12,
so the fault is not reported to the EU, also where the unit is assigned to another position whose entry is COLLECTING. -/
def askRoute (u : Option UnitId) (s : State) : State :=
  match u with
  | some v => if unitFaulted (some v) s then raiseNotice (.unitFault v) s else s
  | none => s

/-- An accepted SET POSITION (R119). -/
def assignUnits (k : PosId) (reader keypad : Option UnitId) (s : State) : State :=
  modPos k (fun q => { q with reader := reader, keypad := keypad, card := .noCard }) s

/-- Checks 3 to 6 of R118, after the RT has been asked once for each named unit, the reader unit first. -/
def checkUnits (k : PosId) (reader keypad : Option UnitId) (s : State) : State × Answer :=
  let s1 := askRoute keypad (askRoute reader s)
  if unitInvalid reader s ∨ unitInvalid keypad s then (s1, .refuse .noRoute)
  else if unitFaulted reader s ∨ unitFaulted keypad s then (s1, .refuse .tableFault)
  else if unitWrongClass reader .reader s ∨ unitWrongClass keypad .keypad s then (s1, .refuse .wrongClass)
  else if unitElsewhere reader k s ∨ unitElsewhere keypad k s then (s1, .refuse .conflict)
  else (assignUnits k reader keypad s1, .ok [])

/-- SET POSITION taken by the PC (R118). -/
def takeSetPosition (params : List Byte) (s : State) : State × Answer :=
  match parsePosition params with
  | none => (s, .refuse .badLength)
  | some (b, r, p) =>
    match posOf b with
    | none => (s, .refuse .badParameter)
    | some k =>
      match decodeUnitsOfPosition r p with
      | none => (s, .refuse .badParameter)
      | some (reader, keypad) =>
        if s.positions[k].state ≠ .closed then (s, .refuse .busy) else checkUnits k reader keypad s

/-! ### OPEN POSITION and CLOSE POSITION -/

/-- A position that enters a state, its lamp set from Table 7.3 (R130). -/
def enterPosition (k : PosId) (st : PositionState) (s : State) : State :=
  refreshLamp k (modPos k (fun q => { q with state := st }) s)

/-- OPEN POSITION at a position (R120). -/
def openThePosition (k : PosId) (s : State) : State × Answer :=
  match s.positions[k].state with
  | .session => (s, .refuse .busy)
  | .open => (s, .ok [])
  | .closed =>
    if s.positions[k].reader = none ∨ s.positions[k].keypad = none then (s, .refuse .badParameter)
    else (enterPosition k .open s, .ok [])

/-- CLOSE POSITION at a position (R121). -/
def closeThePosition (k : PosId) (s : State) : State × Answer :=
  match s.positions[k].state with
  | .session => (s, .refuse .busy)
  | .closed => (s, .ok [])
  | .open => (enterPosition k .closed s, .ok [])

/-! ### OPEN SESSION and CLOSE SESSION -/

/-- Number of positions in SESSION (R122). -/
def sessionCount (s : State) : Nat := s.positions.toList.countP fun q => decide (q.state = .session)

/-- Whether a position in SESSION holds a number (R123). -/
def sessionHeld (n : Byte) (s : State) : Bool :=
  s.positions.toList.any fun q => decide (q.state = .session) && decide (q.session = n)

/-- The session number after `n`, 255 being followed by 1 (R123). -/
def nextNumber (n : Byte) : Byte := if n = 0xFF then 1 else n + 1

/-- The number given: from `n` on, the first that no position in SESSION holds (R123); at most eight can be passed over. -/
def giveNumber (s : State) : Nat → Byte → Byte
  | 0, n => n
  | fuel + 1, n => if sessionHeld n s then giveNumber s fuel (nextNumber n) else n

/-- The session number an OPEN SESSION gives (R123). -/
def newSession (s : State) : Byte := giveNumber s 8 s.nextSession

/-- An accepted OPEN SESSION (R122, R123). -/
def startSession (k : PosId) (s : State) : State :=
  let n := newSession s
  refreshLamp k (modPos k (fun q => { q with state := .session, session := n }) { s with nextSession := nextNumber n })

/-- OPEN SESSION at a position (R122). -/
def openTheSession (k : PosId) (s : State) : State × Answer :=
  if s.positions[k].state ≠ .open then (s, .refuse .busy)
  else if sessionCount s = s.sessionLimit.toNat then (s, .refuse .limit)
  else (startSession k s, .ok [newSession s])

/-- A QUEUED delivery withdrawn by the EU is removed from its port's request queue and freed at once (R75). -/
def withdrawQueued (i : RecId) (s : State) : State :=
  match s.pool[i].port with
  | some p => freeRecord i (modPort p (fun q => { q with queue := q.queue.filter (fun j => decide (j ≠ i)) }) s)
  | none => freeRecord i s

/-- What becomes of the delivery of a DELIVERING entry at a session close: removed and freed if QUEUED, ORPHANED if SENDING or
AWAITING (R75, R148). -/
def abandonDelivery (i : RecId) (s : State) : State :=
  match s.pool[i].state with
  | .queued => withdrawQueued i s
  | .sending => orphan i s
  | .awaiting => orphan i s
  | _ => s

/-- The entry of a position ends ABANDONED with cause SESSION_CLOSED, whatever its state (R148). -/
def closeEntry (k : PosId) (s : State) : State :=
  match s.positions[k].entry with
  | none => s
  | some e =>
    let s1 := if e.state = .delivering then abandonDelivery e.record s else s
    endEntry k .abandoned .sessionClosed 0 [] s1

/-- CLOSE SESSION at a position (R124). -/
def closeTheSession (k : PosId) (s : State) : State × Answer :=
  if s.positions[k].state ≠ .session then (s, .refuse .notInSession)
  else
    (refreshLamp k (modPos k (fun q => { q with state := .open, session := 0 }) (closeEntry k s)),
      .ok [s.positions[k].session])

/-- SET SESSION LIMIT taken by the PC (R125). -/
def takeSetSessionLimit (params : List Byte) (s : State) : State × Answer :=
  match parseOne params with
  | none => (s, .refuse .badLength)
  | some b =>
    if b.toNat < 1 ∨ 4 < b.toNat then (s, .refuse .badParameter)
    else if sessionCount s ≠ 0 then (s, .refuse .busy)
    else ({ s with sessionLimit := b }, .ok [s.sessionLimit])

/-! ### READ POSITION -/

/-- Outcome and active port of an assigned unit; FF and FF for a unit of none (Table 12.5). -/
def unitOutcome (u : Option UnitId) (s : State) : List Byte :=
  match u with
  | some v => [usableCode (usableTest v s), optPortCode (usablePort (usableTest v s))]
  | none => [0xFF, 0xFF]

/-- Entry state and digit count; without an entry the count is a free value (R126, log 10). -/
def entryBytes (e : Option Entry) (draws : Nat) : List Byte :=
  match e with
  | some e => [entryStateCode e.state, byteOf e.count]
  | none => [0, Config.freeByte draws]

/-- Result of READ POSITION (R126, Table 12.8). -/
def positionResult (k : PosId) (s : State) : List Byte :=
  let q := s.positions[k]
  [posAddr k, positionStateCode q.state, optUnitCode q.reader, optUnitCode q.keypad, q.session, cardCode q.card] ++
    entryBytes q.entry s.draws ++ [lampCode q.lamp] ++ unitOutcome q.reader s ++ unitOutcome q.keypad s ++
    [s.sessionLimit, byteOf (sessionCount s), s.nextSession]

/-- READ POSITION at a position: it is no evaluation for use, and changes nothing of the part; the model counts the free value
it draws where there is no entry (R126, log 10). -/
def readThePosition (k : PosId) (s : State) : State × Answer :=
  ({ s with draws := if s.positions[k].entry.isNone then s.draws + 1 else s.draws }, .ok (positionResult k s))

/-- SET_POSITION (R118). -/
def execSetPosition (tag : Byte) (params : List Byte) (s : State) : Host.Outcome State Fault Refusal :=
  .next (manage tag (takeSetPosition params) s)

/-- OPEN_POSITION (R120). -/
def execOpenPosition (tag : Byte) (params : List Byte) (s : State) : Host.Outcome State Fault Refusal :=
  .next (manage tag (withPosition params openThePosition) s)

/-- CLOSE_POSITION (R121). -/
def execClosePosition (tag : Byte) (params : List Byte) (s : State) : Host.Outcome State Fault Refusal :=
  .next (manage tag (withPosition params closeThePosition) s)

/-- OPEN_SESSION (R122). -/
def execOpenSession (tag : Byte) (params : List Byte) (s : State) : Host.Outcome State Fault Refusal :=
  .next (manage tag (withPosition params openTheSession) s)

/-- CLOSE_SESSION (R124). -/
def execCloseSession (tag : Byte) (params : List Byte) (s : State) : Host.Outcome State Fault Refusal :=
  .next (manage tag (withPosition params closeTheSession) s)

/-- SET_SESSION_LIMIT (R125). -/
def execSetSessionLimit (tag : Byte) (params : List Byte) (s : State) : Host.Outcome State Fault Refusal :=
  .next (manage tag (takeSetSessionLimit params) s)

/-- READ_POSITION (R126). -/
def execReadPosition (tag : Byte) (params : List Byte) (s : State) : Host.Outcome State Fault Refusal :=
  .next (manage tag (withPosition params readThePosition) s)

end Sys2Proof.Machine
end

