-- ==== Sys2Proof/Machine/EntryRequests.lean ====
section
/-! DEFINITION. OPEN ENTRY, CANCEL ENTRY and the expiry of an entry's timer (R137, R138, R142, R149). -/

namespace Sys2Proof.Machine

/-- Whether an assigned unit is usable (R137, check 6). -/
def unitUsable (u : Option UnitId) (s : State) : Bool :=
  match u with
  | some v => isUsable (usableTest v s)
  | none => false

/-- The usable-unit test of an assigned unit, with its ordinary effects (R137). -/
def evaluateUnit (u : Option UnitId) (s : State) : State :=
  match u with
  | some v => evaluate v s
  | none => s

/-- The entry record of an accepted OPEN ENTRY (R138, Table 8.1). DEDUCED (log 33): a request of tag 0 is accepted (R169), and its opening
tag is 0, outside the 1-255 of Table 8.1. -/
def newEntry (r : EntryParams) (tag : Byte) (i : RecId) : Entry where
  state := .collecting
  digits := []
  count := 0
  min := r.min.toNat
  max := r.max.toNat
  firstKeyLimit := r.firstKey.toNat
  interKeyLimit := r.interKey.toNat
  timing := .firstKey
  timer := some (r.firstKey.toNat * 1000)
  command := r.command
  record := i
  tag := tag

/-- An accepted OPEN ENTRY: the entry is opened, a FREE record is RESERVED, a slot is reserved, and the lamp follows
(R138). -/
def startEntry (k : PosId) (r : EntryParams) (tag : Byte) (i : RecId) (s : State) : State :=
  refreshLamp k
    (modPos k (fun q => { q with entry := some (newEntry r tag i) })
      (reserveSlot (modRec i (fun x => { x with state := .reserved }) s)))

/-- Checks 7 and 8 of R137, and acceptance. -/
def admitEntry (k : PosId) (r : EntryParams) (tag : Byte) (s : State) : State × Answer :=
  match firstFree s with
  | none => (s, .refuse .noExchange)
  | some i =>
    if freeSlots s = 0 then (s, .refuse .outputFull)
    else (startEntry k r tag i s, .ok [posAddr k, s.positions[k].session])

/-- Checks 3 to 6 of R137; both units are tested, the keypad unit first, whatever the outcomes. -/
def checkEntry (k : PosId) (r : EntryParams) (tag : Byte) (s : State) : State × Answer :=
  let q := s.positions[k]
  if q.state ≠ .session then (s, .refuse .notInSession)
  else if q.entry.isSome then (s, .refuse .busy)
  else if entryInRange r = false then (s, .refuse .badParameter)
  else
    let s1 := evaluateUnit q.reader (evaluateUnit q.keypad s)
    if unitUsable q.keypad s && unitUsable q.reader s then admitEntry k r tag s1
    else (s1, .refuse .unitUnavailable)

/-- OPEN ENTRY taken by the EU (R137). -/
def takeOpenEntry (tag : Byte) (params : List Byte) (s : State) : State × Answer :=
  match parseEntry params with
  | none => (s, .refuse .badLength)
  | some r =>
    match posOf r.position with
    | none => (s, .refuse .badParameter)
    | some k => checkEntry k r tag s

/-- The entry ends CANCELLED with cause REQUEST; the reply gives its opening tag (R149). -/
def cancelled (k : PosId) (e : Entry) (s : State) : State × Answer :=
  (endEntry k .cancelled .request 0 [] s, .ok [1, e.tag])

/-- CANCEL ENTRY at a position (R149). -/
def cancelTheEntry (k : PosId) (s : State) : State × Answer :=
  if s.positions[k].state ≠ .session then (s, .refuse .notInSession)
  else
    match s.positions[k].entry with
    | none => (s, .ok [0, 0])
    | some e =>
      if e.state = .collecting then cancelled k e s
      else if s.pool[e.record].state = .queued then cancelled k e (withdrawQueued e.record s)
      else (s, .refuse .busy)

/-- The cause of TIMED_OUT for the timer that ran (R142). -/
def timingCause : EntryTiming → EntryCause
  | .firstKey => .firstKey
  | .interKey => .interKey

/-- The running timer of a position's entry expires (R142). -/
def expireEntry (k : PosId) (s : State) : State :=
  match s.positions[k].entry with
  | none => s
  | some e =>
    if e.state = .collecting ∧ e.timer.isSome then endEntry k .timedOut (timingCause e.timing) 0 [] s else s

/-- OPEN_ENTRY (R137). -/
def execOpenEntry (tag : Byte) (params : List Byte) (s : State) : Host.Outcome State Fault Refusal :=
  .next (manage tag (takeOpenEntry tag params) s)

/-- CANCEL_ENTRY (R149). -/
def execCancelEntry (tag : Byte) (params : List Byte) (s : State) : Host.Outcome State Fault Refusal :=
  .next (manage tag (withPosition params cancelTheEntry) s)

/-- ENTRY_TIMER_EXPIRY (R142). -/
def execEntryTimerExpiry (k : PosId) (s : State) : Host.Outcome State Fault Refusal :=
  .next (expireEntry k s)

end Sys2Proof.Machine
end

