-- ==== Sys2Proof/Machine/UnitRequests.lean ====
section
/-! DEFINITION. UNIT REQUEST and GROUP REQUEST: acceptance checks and acceptance (R56 to R58, R93, R94). -/

namespace Sys2Proof.Machine

/-- The refusal status an outcome of the usable-unit test gives a UNIT REQUEST (R56, checks 3 to 6). -/
def usableRefusal : Usable → Status
  | .notValid => .noRoute
  | .faulted => .tableFault
  | .noPort => .unitUnavailable
  | .mismatch _ => .wrongClass
  | .usable _ => .ok

/-- Checks 7 to 9 of R56 on the active port `p`, and acceptance (R57). -/
def admitUnit (u : UnitId) (p : PortId) (tag command : Byte) (data : List Byte) (s : State) : State :=
  if command = 0 then refuse tag .badParameter s
  else if freeRecords s = 0 then refuse tag .noExchange s
  else if Config.queueLimit ≤ queuedWorkstation p s then refuse tag .queueFull s
  else acceptExchange u p tag none command data s

/-- A UNIT REQUEST taken by the XE (R56). -/
def takeUnitRequest (unit tag : Byte) (payload : List Byte) (s : State) : State :=
  match payload with
  | [] => refuse tag .badLength s
  | command :: data =>
    if tag = 0 then refuse tag .badParameter s
    else if tagTaken tag s then refuse tag .duplicateTag s
    else
      match unitOf unit with
      | none => refuse tag .noRoute s
      | some u =>
        match usableTest u s with
        | .usable p => admitUnit u p tag command data s
        | r => refuse tag (usableRefusal r) (evaluationEffects u r s)

/-- The members of a group in ascending unit order (R93, check 6). -/
def ascendingMembers (e : GroupEntry) : List UnitId :=
  (List.finRange 24).filter fun u => decide (u ∈ e.members)

/-- The usable members with their active ports, in ascending unit order (R93, check 6). -/
def usableMembers (e : GroupEntry) (s : State) : List (UnitId × PortId) :=
  (ascendingMembers e).filterMap fun u =>
    match usableTest u s with
    | .usable p => some (u, p)
    | _ => none

/-- The tests of check 6 with their effects, each member once, in ascending unit order (R93). -/
def evaluateMembers (e : GroupEntry) (s : State) : State :=
  (ascendingMembers e).foldl (fun t u => evaluate u t) s

/-- The group record of an accepted GROUP REQUEST (R94). -/
def openRecord (g : GroupId) (e : GroupEntry) (tag : Byte) (issued : Nat) : GroupRecord where
  tag := tag
  group := g
  expected := e.expected.toNat
  issued := issued
  skipped := e.members.length - issued
  answered := 0
  endQueued := false

/-- One member exchange for each usable member, in ascending unit order (R94). -/
def issueMembers (members : List (UnitId × PortId)) (tag command : Byte) (data : List Byte) (s : State) : State :=
  members.foldl (fun t m => acceptExchange m.1 m.2 tag (some tag) command data t) s

/-- With an expected count of 0 GROUP END with outcome COMPLETE is placed at acceptance (R94). -/
def endAtAcceptance (r : GroupRecord) (s : State) : State :=
  if r.expected = 0 then
    { placeReserved (groupEndFrame r .complete) s with
      groupRecords := s.groupRecords ++ [{ r with endQueued := true }] }
  else { s with groupRecords := s.groupRecords ++ [r] }

/-- An accepted GROUP REQUEST: a record is opened, a slot is reserved, and the members are issued (R94). -/
def acceptGroup (g : GroupId) (e : GroupEntry) (members : List (UnitId × PortId)) (tag command : Byte)
    (data : List Byte) (s : State) : State :=
  endAtAcceptance (openRecord g e tag members.length) (issueMembers members tag command data (reserveSlot s))

/-- Checks 6 to 9 of R93, on the state after the tests of check 6, and acceptance (R94). -/
def admitGroup (g : GroupId) (e : GroupEntry) (members : List (UnitId × PortId)) (tag command : Byte)
    (data : List Byte) (s : State) : State :=
  if members = [] then refuse tag .unitUnavailable s
  else if freeRecords s < members.length then refuse tag .noExchange s
  else if members.any (fun m => decide (Config.queueLimit ≤ queuedWorkstation m.2 s)) then refuse tag .queueFull s
  else if freeSlots s = 0 then refuse tag .outputFull s
  else acceptGroup g e members tag command data s

/-- Checks 3 to 5 of R93 on a group entry. -/
def checkGroup (g : GroupId) (e : GroupEntry) (tag command : Byte) (data : List Byte) (s : State) : State :=
  if e.valid = false then refuse tag .noRoute s
  else if groupFaulted e then refuse tag .tableFault (raiseNotice (.groupFault g) s)
  else if Config.groupRecordCount ≤ s.groupRecords.length then refuse tag .limit s
  else admitGroup g e (usableMembers e s) tag command data (evaluateMembers e s)

/-- A GROUP REQUEST taken by the GU (R93). -/
def takeGroupRequest (unit tag : Byte) (payload : List Byte) (s : State) : State :=
  match payload with
  | [] => refuse tag .badLength s
  | command :: data =>
    if tag = 0 ∨ command = 0 then refuse tag .badParameter s
    else if tagTaken tag s then refuse tag .duplicateTag s
    else
      match groupOf unit with
      | none => refuse tag .noRoute s
      | some g => checkGroup g s.groups[g] tag command data s

/-- UNIT_REQUEST: a good UNIT REQUEST frame taken by the XE; the silence timer starts afresh when it has been taken (R56,
R166). -/
def execUnitRequest (unit tag : Byte) (payload : List Byte) (s : State) : Host.Outcome State Fault Refusal :=
  .next (restartSilence (takeUnitRequest unit tag payload s))

/-- GROUP_REQUEST: a good GROUP REQUEST frame taken by the GU (R93, R166). -/
def execGroupRequest (unit tag : Byte) (payload : List Byte) (s : State) : Host.Outcome State Fault Refusal :=
  .next (restartSilence (takeGroupRequest unit tag payload s))

end Sys2Proof.Machine
end

