-- ==== Sys2Proof/Machine/GroupRequests.lean ====
section
/-! DEFINITION. SET GROUP and READ GROUP (R89, R90). -/

namespace Sys2Proof.Machine

/-- The MEMBERS section of a write: the set is replaced and the entry becomes valid (R89). -/
def writeMembers (w : GroupWrite) (e : GroupEntry) : GroupEntry :=
  match w.members with
  | none => e
  | some us => { e with valid := true, members := us, membersCheck := writtenCheck w.forceMembers }

/-- The COUNT section of a write (R89). -/
def writeCount (w : GroupWrite) (e : GroupEntry) : GroupEntry :=
  match w.count with
  | none => e
  | some n => { e with expected := n, countCheck := writtenCheck w.forceCount }

/-- SET GROUP taken by the GU (R89). -/
def takeSetGroup (params : List Byte) (s : State) : State × Answer :=
  match parseGroup params with
  | none => (s, .refuse .badLength)
  | some r =>
    match decodeGroup r with
    | none => (s, .refuse .badParameter)
    | some w => (modGroup w.group (fun e => writeCount w (writeMembers w e)) s, .ok [])

/-- A unit address put into its place in a list ordered by a rank. -/
def insertByRank (rank : Nat → Nat) (u : UnitId) : List UnitId → List UnitId
  | [] => [u]
  | v :: vs => if rank (u.val + 1) ≤ rank (v.val + 1) then u :: v :: vs else v :: insertByRank rank u vs

/-- The members as READ GROUP lists them: in an order the spec leaves open (R90, log 9). -/
def listedMembers (members : List UnitId) : List UnitId :=
  members.foldr (insertByRank (Config.memberListingRank (members.map fun u => u.val + 1))) []

/-- Members that would be usable now; 0 where the entry is invalid or faulted (R90). -/
def usableCount (e : GroupEntry) (s : State) : Nat :=
  if e.valid = true ∧ groupFaulted e = false then (usableMembers e s).length else 0

/-- The six bytes of an open group record (Table 12.8). -/
def recordBytes (r : GroupRecord) : List Byte :=
  [r.tag, byteOf r.expected, byteOf r.issued, byteOf r.skipped, byteOf r.answered, boolCode r.endQueued]

/-- The open records of a group, in the order of their acceptance (R90, log 9). -/
def recordsOf (g : GroupId) (s : State) : List GroupRecord :=
  s.groupRecords.filter fun r => decide (r.group = g)

/-- Result of READ GROUP (R90, Table 12.8). -/
def groupResult (g : GroupId) (s : State) : List Byte :=
  let e := s.groups[g]
  [groupAddr g, boolCode e.valid, e.expected, checkCode e.membersCheck, checkCode e.countCheck,
    byteOf (usableCount e s), byteOf e.members.length] ++ (listedMembers e.members).map unitAddr ++
    byteOf (recordsOf g s).length :: (recordsOf g s).flatMap recordBytes

/-- READ GROUP taken by the GU: it is no evaluation for use, and changes nothing (R90). -/
def takeReadGroup (params : List Byte) (s : State) : State × Answer :=
  match parseOne params with
  | none => (s, .refuse .badLength)
  | some b =>
    match groupOf b with
    | none => (s, .refuse .badParameter)
    | some g => (s, .ok (groupResult g s))

/-- SET_GROUP (R89). -/
def execSetGroup (tag : Byte) (params : List Byte) (s : State) : Host.Outcome State Fault Refusal :=
  .next (manage tag (takeSetGroup params) s)

/-- READ_GROUP (R90). -/
def execReadGroup (tag : Byte) (params : List Byte) (s : State) : Host.Outcome State Fault Refusal :=
  .next (manage tag (takeReadGroup params) s)

end Sys2Proof.Machine
end

