-- ==== Sys2Proof/Machine/LineRequests.lean ====
section
/-! DEFINITION. SET LINE, READ STATUS, READ COUNTERS, TAKE NOTICE and RESTART, the silence timer, and cold reset (R165 to R168, R171 to R182). -/

namespace Sys2Proof.Machine

/-! ### SET LINE -/

/-- The line settings and the line rate (Table 12.8). -/
def lineBytes (s : State) : List Byte :=
  [holdCode s.line.hold, s.line.silenceLimit, s.line.k] ++ halfBytes (s.line.enable.setWidth 16) ++
    [lineRateCode s.lineRate]

/-- An accepted SET LINE: the selected settings are written, writing K sets the starvation count to 0, and the attention
indication follows the enable set (R164, R165). -/
def applyLine (w : LineWrite) (s : State) : State :=
  refreshAttention { s with
    line := writeLine w s.line
    starvation := if w.k.isSome then 0 else s.starvation }

/-- SET LINE taken by the WLU; the new silence limit applies from the end of the request, where the silence timer starts
afresh (R165, R166). -/
def takeSetLine (params : List Byte) (s : State) : State × Answer :=
  match parseLine params with
  | none => (s, .refuse .badLength)
  | some r =>
    match decodeLine r with
    | none => (s, .refuse .badParameter)
    | some w => (applyLine w s, .ok (lineBytes s))

/-! ### READ STATUS -/

/-- Result of READ STATUS (R171, Table 12.8). -/
def statusResult (s : State) : List Byte :=
  s.ports.toList.map (fun q => portStateCode q.state) ++ s.positions.toList.map (fun q => positionStateCode q.state) ++
    [byteOf (freeRecords s), byteOf (freeSlots s), byteOf s.groupRecords.length, byteOf s.notices.length]

/-- READ STATUS taken by the MU: it changes nothing (R171). -/
def takeReadStatus (params : List Byte) (s : State) : State × Answer :=
  match parseNone params with
  | none => (s, .refuse .badLength)
  | some _ => (s, .ok (statusResult s))

/-! ### READ COUNTERS -/

/-- The ten counters of a port in the order of Table 10.3. -/
def portCounterBytes (c : PortCounters) : List Byte :=
  [c.forwardedEvents, c.filtered, c.gated, c.noUnit, c.overrunLost, c.lineErrors, c.strayReplies, c.timeouts, c.talkOver,
    c.repliesDiscarded].flatMap halfBytes

/-- The five link counters in the order of Table 10.3. -/
def linkCounterBytes (c : LinkCounters) : List Byte :=
  [c.rxFramesGood, c.rxCheckErrors, c.rxFormatErrors, c.controlOverflow, c.progressSkipped].flatMap halfBytes

/-- The selection and the counters selected (R173, Table 12.8). -/
def counterResult (sel : CounterSelection) (s : State) : List Byte :=
  match sel with
  | .port p => portCode p :: portCounterBytes s.ports[p].counters
  | .link => 0xFF :: linkCounterBytes s.link

/-- With CLEAR the counters returned are set to 0 within the same taking (R173). -/
def clearCounters (sel : CounterSelection) (s : State) : State :=
  match sel with
  | .port p => modPort p (fun q => { q with counters := coldPortCounters }) s
  | .link => { s with link := coldLinkCounters }

/-- READ COUNTERS taken by the MU (R173). -/
def takeReadCounters (params : List Byte) (s : State) : State × Answer :=
  match parseCounters params with
  | none => (s, .refuse .badLength)
  | some (a, b) =>
    match selectionOf a, boolOf b with
    | some sel, some clear => (if clear then clearCounters sel s else s, .ok (counterResult sel s))
    | _, _ => (s, .refuse .badParameter)

/-! ### TAKE NOTICE -/

/-- TAKE NOTICE taken by the MU: the set is kept in the order of kind, then subject, so its first pair is the one returned
(R177). -/
def takeTheNotice (s : State) : State × Answer :=
  match s.notices with
  | [] => (s, .ok [0xFF, 0, 0])
  | n :: rest =>
    (noticeChanged n { s with notices := rest },
      .ok [byteOf (kindPriority (noticeKind n)), byteOf (noticeSubject n), byteOf rest.length])

def takeTakeNotice (params : List Byte) (s : State) : State × Answer :=
  match parseNone params with
  | none => (s, .refuse .badLength)
  | some _ => takeTheNotice s

/-! ### Cold reset and RESTART -/

/-- Levels of the DPRESn inputs. -/
def presentPins (s : State) : Vector Bool 12 := Vector.ofFn fun p => s.ports[p].present

/-- What a RESTART ALL leaves of the transmitter: it finishes the frame it is sending from its own copy (R168). -/
def keepCopy : Transmitter → Transmitter
  | .idle => .idle
  | .sending _ frame chars => .sending .copy frame chars

/-- Cold reset by power-up or RESETn: every block at its cold values, the straps sampled, a frame on WTXD cut off, and
STARTED placed (R153, R168). -/
def coldReset (cause : ColdCause) (rate1 rate0 : Bool) (s : State) : State :=
  State.cold (strapRate rate1 rate0) s.wready (presentPins s) .idle
    (match cause with | .power => .power | .pin => .pin) s.pending s.draws

/-- RESTART with scope ALL: a cold reset that keeps the line rate and the frame in transmission, with cause REQUESTED
(R181). -/
def restartEverything (s : State) : State :=
  State.cold s.lineRate s.wready (presentPins s) (keepCopy s.tx) .requested s.pending s.draws

/-- Number of ORPHANED records (R180). -/
def orphanCount (s : State) : Nat := s.pool.toList.countP fun r => decide (r.state = .orphaned)

/-- RESTART with a slot reserved for its CONTROL REPLY: the length and scope checks, and scope TRAFFIC (R180). -/
def takeRestart (params : List Byte) (s : State) : State × Answer :=
  match parseOne params with
  | none => (s, .refuse .badLength)
  | some scope =>
    if scope = scopeTraffic then
      let t := counterRestart 1 s
      (t, .ok [byteOf (orphanCount t)])
    else (s, .refuse .badParameter)

/-- A good RESTART frame: scope ALL is dispatched without a slot and has no reply, everything else is a management request
(R159, R180, R181). -/
def restartRequest (tag : Byte) (params : List Byte) (s : State) : State :=
  if params = [scopeAll] then restartSilence (restartEverything s)
  else manage tag (takeRestart params) s

/-- The stand-down at the expiry of the silence timer: a counter restart, then the notice STAND_DOWN, with the timer left
stopped (R166, R167). -/
def standDown (s : State) : State :=
  raiseNotice .standDown { counterRestart 0 s with silence := none }

/-- SET_LINE (R165). -/
def execSetLine (tag : Byte) (params : List Byte) (s : State) : Host.Outcome State Fault Refusal :=
  .next (manage tag (takeSetLine params) s)

/-- READ_STATUS (R171). -/
def execReadStatus (tag : Byte) (params : List Byte) (s : State) : Host.Outcome State Fault Refusal :=
  .next (manage tag (takeReadStatus params) s)

/-- READ_COUNTERS (R173). -/
def execReadCounters (tag : Byte) (params : List Byte) (s : State) : Host.Outcome State Fault Refusal :=
  .next (manage tag (takeReadCounters params) s)

/-- TAKE_NOTICE (R177). -/
def execTakeNotice (tag : Byte) (params : List Byte) (s : State) : Host.Outcome State Fault Refusal :=
  .next (manage tag (takeTakeNotice params) s)

/-- RESTART_TRAFFIC: a good RESTART frame whose parameters are not the scope ALL (R180, log 20). -/
def execRestartTraffic (tag : Byte) (params : List Byte) (s : State) : Host.Outcome State Fault Refusal :=
  .next (restartRequest tag params s)

/-- RESTART_ALL: a good RESTART frame with scope ALL (R181). -/
def execRestartAll (tag : Byte) (s : State) : Host.Outcome State Fault Refusal :=
  .next (restartRequest tag [scopeAll] s)

/-- COLD_RESET (R168). -/
def execColdReset (cause : ColdCause) (rate1 rate0 : Bool) (s : State) : Host.Outcome State Fault Refusal :=
  .next (coldReset cause rate1 rate0 s)

/-- SILENCE_TIMER_EXPIRY (R166). -/
def execSilenceTimerExpiry (s : State) : Host.Outcome State Fault Refusal :=
  .next (if s.silence.isSome then standDown s else s)

end Sys2Proof.Machine
end

