-- ==== Sys2Proof/Machine/Keys.lean ====
section
/-! DEFINITION. Captured keys of a private entry, and the complete ENTER that starts its delivery (R139 to R144). -/

namespace Sys2Proof.Machine

/-- A key acted on while COLLECTING: the entry becomes `e` with the inter-key timer started afresh, and an ENTRY PROGRESS is
queued with its digit count and the flags given (R140, R141). -/
def keyTaken (k : PosId) (e : Entry) (short full : Bool) (s : State) : State :=
  queueProgress k e.count short full
    (modPos k (fun q => { q with
      entry := some { e with timing := .interKey, timer := some (e.interKeyLimit * 1000) } }) s)

/-- A digit key: appended while the list holds fewer than max digits, ignored with FULL otherwise (R140). -/
def digitKey (k : PosId) (e : Entry) (d : Byte) (s : State) : State :=
  if e.digits.length < e.max then
    keyTaken k { e with digits := e.digits ++ [d], count := e.digits.length + 1 } false false s
  else keyTaken k e false true s

/-- A CLEAR key empties the digit list (R140). -/
def clearKey (k : PosId) (e : Entry) (s : State) : State :=
  keyTaken k { e with digits := [], count := 0 } false false s

/-- The delivery of a complete ENTER: the reserved record becomes a DELIVERY exchange at the head of the reader port's
request queue, the digit list is emptied, and the entry is DELIVERING (R55, R144). -/
def deliver (k : PosId) (e : Entry) (u : UnitId) (p : PortId) (s : State) : State :=
  refreshLamp k
    (modPos k (fun q => { q with
      entry := some { e with state := .delivering, digits := [], count := e.digits.length, timer := none } })
      (modPort p (fun q => { q with queue := e.record :: q.queue })
        (modRec e.record (fun _ => { freeExchange with
          state := .queued, origin := some .delivery, unit := some u, port := some p, position := some k,
          command := e.command, data := e.digits }) s)))

/-- The reader's test at ENTER, whose own report does not end the entry READER_LOST (R144). -/
def enterReader (k : PosId) (e : Entry) (u : UnitId) (s : State) : State :=
  match usableTest u s with
  | .usable p => deliver k e u p s
  | r => endEntry k .notDelivered .readerUnavailable 0 [] (raiseFault u r s)

/-- An ENTER key with at least min digits (R144). -/
def completeEnter (k : PosId) (e : Entry) (s : State) : State :=
  if s.positions[k].card = .noCard then endEntry k .notDelivered .noCard 0 [] s
  else
    match s.positions[k].reader with
    | some u => enterReader k e u s
    | none => endEntry k .notDelivered .readerUnavailable 0 [] s

/-- An ENTER key: short with fewer than min digits, complete otherwise (R141, R144). -/
def enterKey (k : PosId) (e : Entry) (s : State) : State :=
  if e.digits.length < e.min then keyTaken k e true false s else completeEnter k e s

/-- A key acted on by its code while the entry is COLLECTING; every other key is dropped (R139). -/
def collectKey (k : PosId) (e : Entry) (b : Byte) (s : State) : State :=
  if isDigitKey b then digitKey k e b s
  else if b = keyClear then clearKey k e s
  else if b = keyEnter then enterKey k e s
  else if b = keyCancel then endEntry k .cancelled .key 0 [] s
  else s

/-- A captured key, or a KEY event without a key code, taken by the EU (R139). -/
def takeKey (k : PosId) (key : Option Byte) (s : State) : State :=
  match s.positions[k].entry, key with
  | some e, some b => if e.state = .collecting then collectKey k e b s else s
  | _, _ => s

end Sys2Proof.Machine
end

