-- ==== Sys2Proof/Machine/Events.lean ====
section
/-! DEFINITION. The event path of the Event Filter (R100 to R112). -/

namespace Sys2Proof.Machine

def isEvent : OutFrame → Bool
  | .event _ _ _ _ _ => true
  | .reply _ _ _ _ _ _ _ _ => false

/-- Events in a port's outbound list, held replies not counted (R109). -/
def eventCount (q : Port) : Nat := q.outbound.countP isEvent

/-- Step 8: with eight events waiting the new one is dropped for overrun; otherwise the UNIT EVENT is appended with the lost
count as lost-before (R109, R110). -/
def queueEvent (p : PortId) (u : UnitId) (session code : Byte) (data : List Byte) (s : State) : State :=
  if Config.eventLimit ≤ eventCount s.ports[p] then
    raiseNotice (.eventOverrun p)
      (countPort .overrunLost p
        (modPort p (fun q => { q with lost := if q.lost = 0xFF then q.lost else q.lost + 1 }) s))
  else
    modPort p (fun q => { q with
      outbound := q.outbound ++ [.event u session code q.lost data], lost := 0 }) s

/-- Step 7: an event whose class is not in the port's pass set is dropped and counted FILTERED (R108). -/
def passEvent (p : PortId) (u : UnitId) (session code : Byte) (data : List Byte) (s : State) : State :=
  if passes s.ports[p].passSet (eventClass code data) then queueEvent p u session code data s
  else countPort .filtered p s

/-- The session number a UNIT EVENT of a position's unit carries (R110). -/
def sessionOf (k : PosId) (s : State) : Byte :=
  if s.positions[k].state = .session then s.positions[k].session else 0

/-- Step 2: a card event of a position's reader unit sets the card state, and a removal ends a COLLECTING entry (R103, R127,
R147). -/
def trackCard (k : PosId) (role : Role) (code : Byte) (s : State) : State :=
  if role = .reader ∧ code = codeCardInserted then modPos k (fun q => { q with card := .cardIn }) s
  else if role = .reader ∧ code = codeCardRemoved then
    abandonCollecting k .cardRemoved (modPos k (fun q => { q with card := .noCard }) s)
  else s

/-- Step 6: CARD_INSERTED from the reader unit of an OPEN position raises CARD_WAITING (R107). -/
def cardWaits (k : PosId) (role : Role) (code : Byte) (s : State) : State :=
  if role = .reader ∧ code = codeCardInserted ∧ s.positions[k].state = .open then raiseNotice (.cardWaiting k) s else s

/-- Steps 4 to 8 for a unit of a position (R105 to R109). -/
def gateEvent (p : PortId) (u : UnitId) (k : PosId) (role : Role) (code : Byte) (data : List Byte) (s : State) : State :=
  if s.positions[k].state = .closed then
    if code = codeKey ∧ data.head? = some keyCall then raiseNotice (.call k) s else countPort .gated p s
  else if code = codeCardData ∧ role = .reader ∧ s.positions[k].state ≠ .session then countPort .gated p s
  else passEvent p u (sessionOf k s) code data (cardWaits k role code s)

/-- Step 3, then the steps after it: a KEY of the keypad unit of a position with an entry is handed to the EU (R104). -/
def captureEvent (p : PortId) (u : UnitId) (k : PosId) (role : Role) (code : Byte) (data : List Byte) (s : State) :
    State :=
  if code = codeKey ∧ role = .keypad ∧ s.positions[k].entry.isSome then takeKey k data.head? s
  else gateEvent p u k role code data s

/-- Step 1: owner resolution; an event without an owner, or of a faulted one, is dropped and counted NO_UNIT (R8, R102). A
unit in no position goes on at step 7 (R112). -/
def eventPath (p : PortId) (code : Byte) (data : List Byte) (s : State) : State :=
  match s.owners[p] with
  | none => countPort .noUnit p s
  | some u =>
    if routeFaulted s.routes[u] then
      countPort .noUnit p (reportUnusable u (raiseNotice (.unitFault u) s))
    else
      match assignment u s with
      | none => passEvent p u 0 code data s
      | some (k, role) => captureEvent p u k role code data (trackCard k role code s)

end Sys2Proof.Machine
end

