-- ==== Sys2Proof/Machine/PortRequests.lean ====
section
/-! DEFINITION. SET PORT, READ PORT, RESET PORT, ABORT PORT and SET PASS (R31, R32, R43 to R47, R72, R114). -/

namespace Sys2Proof.Machine

/-- A SET PORT is busy: a line setting is selected, and the port has an exchange QUEUED or in flight, or is IDENTIFYING
(R45, check 3). -/
def portWriteBusy (w : PortWrite) (s : State) : Bool :=
  selectsLineSetting w &&
    (!s.ports[w.port].queue.isEmpty || (inFlight w.port s).isSome || decide (s.ports[w.port].state = .identifying))

/-- Whether a write changes the rate or C (R46, R83; log 14). -/
def changesTiming (w : PortWrite) (c : PortConfig) : Bool :=
  decide ((writeConfig w c).rate ≠ c.rate) || decide ((writeConfig w c).charLen ≠ c.charLen)

/-- The settings stored; a new rate or C empties the receive assembler without a count (R46). -/
def storeSettings (w : PortWrite) (q : Port) : Port :=
  if changesTiming w q.config then
    { q with config := writeConfig w q.config, asm := emptied q.asm, gap := none }
  else { q with config := writeConfig w q.config }

/-- The DPC of a port that enters OFF (R31; for the failure count see log 16). -/
def switchOff (q : Port) : Port :=
  { endPulse (stopLine q) with
    state := .off, supply := false, identity := none, cause := .none,
    failures := if q.state = .fault then 0 else q.failures }

/-- Power OFF: a port in any other state enters OFF, and one that was READY departs (R31). -/
def powerOff (p : PortId) (s : State) : State :=
  if s.ports[p].state = .off then s else departIf (portReady p s) p .detached (modPort p switchOff s)

/-- The DPC of a port that leaves OFF or FAULT by power ON (R32). -/
def switchOn (q : Port) : Port :=
  if q.state = .off then enterEmpty { q with supply := true }
  else if q.state = .fault then enterEmpty { q with supply := true, cause := .none, failures := 0 }
  else q

/-- The power setting takes effect (R31, R32, R46). -/
def applyPower (w : PortWrite) (s : State) : State :=
  match w.power with
  | some false => powerOff w.port s
  | some true => modPort w.port switchOn s
  | none => s

/-- SET PORT taken by the DPC (R45, R46). -/
def takeSetPort (params : List Byte) (s : State) : State × Answer :=
  match parsePort params with
  | none => (s, .refuse .badLength)
  | some r =>
    match decodePort r with
    | none => (s, .refuse .badParameter)
    | some w =>
      if portWriteBusy w s then (s, .refuse .busy)
      else (applyPower w (modPort w.port (storeSettings w) s), .ok [])

/-- Identity class, model code and firmware level; zeros with none (Table 12.8, note 1). -/
def identityBytes : Option Identity → List Byte
  | some i => deviceClassCode i.cls :: halfBytes i.model ++ halfBytes i.firmware
  | none => [0, 0, 0, 0, 0]

/-- The eight settings of a port (Table 12.8). -/
def configBytes (c : PortConfig) : List Byte :=
  [rateCode c.rate, charLenCode c.charLen, duplexCode c.duplex, c.allowance, c.replyLimit, c.retryLimit,
    priorityCode c.group, boolCode c.power]

/-- Result of READ PORT (R47, Table 12.8). -/
def portResult (p : PortId) (s : State) : List Byte :=
  let q := s.ports[p]
  portCode p :: configBytes q.config ++
    [portStateCode q.state, boolCode q.pulse.isSome, faultCauseCode q.cause] ++ identityBytes q.identity ++
    [byteOf q.queue.length, boolCode (inFlight p s).isSome, byteOf (eventCount q)]

/-- READ PORT taken by the DPC: it changes nothing (R47). -/
def takeReadPort (params : List Byte) (s : State) : State × Answer :=
  match parseOne params with
  | none => (s, .refuse .badLength)
  | some b =>
    match portOf b with
    | none => (s, .refuse .badParameter)
    | some p => (s, .ok (portResult p s))

/-- The DPC of a port whose reset pulse starts, or starts again (R43, R44). -/
def startPulse (q : Port) : Port :=
  { stopLine q with state := .settling, pulse := some pulseMs, resetLine := true }

/-- A port reset: the pulse starts, and a port that was READY departs (R43). -/
def resetThePort (p : PortId) (s : State) : State :=
  departIf (portReady p s) p .reset (modPort p startPulse s)

/-- RESET PORT taken by the DPC (R43). -/
def takeResetPort (params : List Byte) (s : State) : State × Answer :=
  match parseOne params with
  | none => (s, .refuse .badLength)
  | some b =>
    match portOf b with
    | none => (s, .refuse .badParameter)
    | some p =>
      if s.ports[p].state = .off ∨ s.ports[p].state = .fault then (s, .refuse .busy)
      else (resetThePort p s, .ok [])

/-- Whether a record is a WORKSTATION exchange. -/
def isWorkstation (s : State) (i : RecId) : Bool := decide (s.pool[i].origin = some .workstation)

/-- Every WORKSTATION exchange QUEUED on the port ends ABORTED, head first; a delivery stays in the queue (R72). -/
def abortQueue (p : PortId) (s : State) : State :=
  let q := s.ports[p].queue
  (q.filter (isWorkstation s)).foldl (fun t i => endExchange i .aborted 0 [] t)
    (modPort p (fun r => { r with queue := q.filter (fun i => !isWorkstation s i) }) s)

/-- ABORT PORT taken by the XE (R72). -/
def takeAbortPort (params : List Byte) (s : State) : State × Answer :=
  match parseOne params with
  | none => (s, .refuse .badLength)
  | some b =>
    match portOf b with
    | none => (s, .refuse .badParameter)
    | some p => (abortQueue p s, .ok [byteOf (queuedWorkstation p s)])

/-- The two bytes of a pass set, its unnamed bits 0 (R185). -/
def passBytes (set : BitVec 9) : List Byte := halfBytes (set.setWidth 16)

/-- SET PASS taken by the EF (R114). -/
def takeSetPass (params : List Byte) (s : State) : State × Answer :=
  match parsePass params with
  | none => (s, .refuse .badLength)
  | some r =>
    match decodePass r with
    | none => (s, .refuse .badParameter)
    | some (p, set) => (modPort p (fun q => { q with passSet := set }) s, .ok (passBytes s.ports[p].passSet))

/-- SET_PORT (R45). -/
def execSetPort (tag : Byte) (params : List Byte) (s : State) : Host.Outcome State Fault Refusal :=
  .next (manage tag (takeSetPort params) s)

/-- READ_PORT (R47). -/
def execReadPort (tag : Byte) (params : List Byte) (s : State) : Host.Outcome State Fault Refusal :=
  .next (manage tag (takeReadPort params) s)

/-- RESET_PORT (R43). -/
def execResetPort (tag : Byte) (params : List Byte) (s : State) : Host.Outcome State Fault Refusal :=
  .next (manage tag (takeResetPort params) s)

/-- ABORT_PORT (R72). -/
def execAbortPort (tag : Byte) (params : List Byte) (s : State) : Host.Outcome State Fault Refusal :=
  .next (manage tag (takeAbortPort params) s)

/-- SET_PASS (R114). -/
def execSetPass (tag : Byte) (params : List Byte) (s : State) : Host.Outcome State Fault Refusal :=
  .next (manage tag (takeSetPass params) s)

end Sys2Proof.Machine
end

