-- ==== Sys2Proof/Machine/RouteRequests.lean ====
section
/-! DEFINITION. SET ROUTE, CLEAR ROUTE and READ ROUTE (R14 to R20). -/

namespace Sys2Proof.Machine

/-- A write of the PORTS section, or a clear, is busy: the entry is valid, and the unit has an open unit exchange or is
assigned to a position (R17). -/
def routeBusy (u : UnitId) (s : State) : Bool :=
  s.routes[u].valid && (decide (openExchanges u s ≠ 0) || (assignment u s).isSome)

/-- A SET ROUTE is busy (R17). -/
def routeWriteBusy (w : RouteWrite) (s : State) : Bool :=
  if w.ports.isSome then routeBusy w.unit s else (assignment w.unit s).isSome

/-- Whether the map names a port for a unit other than `u` (R18). -/
def claimedByOther (u : UnitId) (p : PortId) (s : State) : Bool :=
  match s.owners[p] with
  | some v => decide (v ≠ u)
  | none => false

/-- A SET ROUTE conflicts: its primary, or its standby, is named in the map for another unit (R18). -/
def routeConflict (w : RouteWrite) (s : State) : Bool :=
  match w.ports with
  | none => false
  | some (p, some q) => claimedByOther w.unit p s || claimedByOther w.unit q s
  | some (p, none) => claimedByOther w.unit p s

/-- The unit is removed from every port of the map that names it (R7). -/
def disown (u : UnitId) (owners : Vector (Option UnitId) 12) : Vector (Option UnitId) 12 :=
  Vector.ofFn fun p => if owners[p] = some u then none else owners[p]

/-- The map names a port for the unit (R7). -/
def own (u : UnitId) (p : PortId) (owners : Vector (Option UnitId) 12) : Vector (Option UnitId) 12 :=
  owners.set p (some u)

/-- The map after a PORTS write of unit `u` (R7). -/
def ownPorts (u : UnitId) (primary : PortId) (standby : Option PortId) (owners : Vector (Option UnitId) 12) :
    Vector (Option UnitId) 12 :=
  match standby with
  | some q => own u q (own u primary (disown u owners))
  | none => own u primary (disown u owners)

/-- The PORTS section of a write: map, stored ports, check state, valid flag (R16). -/
def writePorts (w : RouteWrite) (s : State) : State :=
  match w.ports with
  | none => s
  | some (p, q) =>
    modRoute w.unit (fun e => { e with
      valid := true, primary := p, standby := q, portsCheck := writtenCheck w.forcePorts })
      { s with owners := ownPorts w.unit p q s.owners }

/-- The CLASS section of a write (R16). -/
def writeClass (w : RouteWrite) (s : State) : State :=
  match w.expected with
  | none => s
  | some c => modRoute w.unit (fun e => { e with expected := c, classCheck := writtenCheck w.forceClass }) s

/-- CLASS_MISMATCH for one port the entry names, if it is READY with an identity in conflict (R16). -/
def mismatchAt (expected : ExpectedClass) (p : PortId) (s : State) : State :=
  if portReady p s ∧ conflicts expected s.ports[p].identity = true then raiseNotice (.classMismatch p) s else s

/-- After the write, each READY port a valid and sound entry names is compared with its expected class (R16). -/
def reportMismatch (u : UnitId) (s : State) : State :=
  let e := s.routes[u]
  if e.valid = true ∧ routeFaulted e = false then
    match e.standby with
    | some q => mismatchAt e.expected q (mismatchAt e.expected e.primary s)
    | none => mismatchAt e.expected e.primary s
  else s

/-- A SET ROUTE whose parameters are in range: checks 3 and 4 of R15, and the effects of R16. -/
def applyRoute (w : RouteWrite) (s : State) : State × Answer :=
  if routeWriteBusy w s then (s, .refuse .busy)
  else if routeConflict w s then (s, .refuse .conflict)
  else (reportMismatch w.unit (writeClass w (writePorts w s)), .ok [])

/-- SET ROUTE taken by the RT (R15). -/
def takeSetRoute (params : List Byte) (s : State) : State × Answer :=
  match parseRoute params with
  | none => (s, .refuse .badLength)
  | some r =>
    match decodeRoute r with
    | none => (s, .refuse .badParameter)
    | some w => applyRoute w s

/-- CLEAR ROUTE taken by the RT (R19). -/
def takeClearRoute (params : List Byte) (s : State) : State × Answer :=
  match parseOne params with
  | none => (s, .refuse .badLength)
  | some b =>
    match unitOf b with
    | none => (s, .refuse .badParameter)
    | some u =>
      if routeBusy u s then (s, .refuse .busy)
      else (modRoute u (fun _ => coldRoute) { s with owners := disown u s.owners }, .ok [])

/-- Position and role of an assignment, 00 and 00 for none (Table 12.8). -/
def assignmentBytes : Option (PosId × Role) → List Byte
  | some (k, role) => [posAddr k, roleCode role]
  | none => [0, 0]

/-- Result of READ ROUTE (R20, Table 12.8). -/
def routeResult (u : UnitId) (s : State) : List Byte :=
  let e := s.routes[u]
  [unitAddr u, boolCode e.valid, portCode e.primary, optPortCode e.standby, expectedCode e.expected,
    checkCode e.portsCheck, checkCode e.classCheck, usableCode (usableTest u s), optPortCode (usablePort (usableTest u s))]
    ++ assignmentBytes (assignment u s) ++ [byteOf (openExchanges u s)]

/-- READ ROUTE taken by the RT: it is no evaluation for use, and changes nothing (R20). -/
def takeReadRoute (params : List Byte) (s : State) : State × Answer :=
  match parseOne params with
  | none => (s, .refuse .badLength)
  | some b =>
    match unitOf b with
    | none => (s, .refuse .badParameter)
    | some u => (s, .ok (routeResult u s))

/-- SET_ROUTE (R15). -/
def execSetRoute (tag : Byte) (params : List Byte) (s : State) : Host.Outcome State Fault Refusal :=
  .next (manage tag (takeSetRoute params) s)

/-- CLEAR_ROUTE (R19). -/
def execClearRoute (tag : Byte) (params : List Byte) (s : State) : Host.Outcome State Fault Refusal :=
  .next (manage tag (takeClearRoute params) s)

/-- READ_ROUTE (R20). -/
def execReadRoute (tag : Byte) (params : List Byte) (s : State) : Host.Outcome State Fault Refusal :=
  .next (manage tag (takeReadRoute params) s)

end Sys2Proof.Machine
end

