-- ==== Sys2Proof/Machine/Dispatching.lean ====
section
/-! DEFINITION. Receiving and dispatching counter frames: COUNTER_FRAME_RECEIVED, DISPATCH_REFUSAL, WORKSTATION_CHARACTER_RECEIVED, WORKSTATION_GAP_EXPIRY (R154 to R156, R166). -/

namespace Sys2Proof.Machine

/-- The management request a code names, as its owner takes it after dispatch (Table 12.7); none for an unlisted code. -/
def managementRequest (code tag : Byte) (params : List Byte) : Option (State → State) :=
  match code.toNat with
  | 0x01 => some (manage tag (takeSetRoute params))
  | 0x02 => some (manage tag (takeClearRoute params))
  | 0x03 => some (manage tag (takeReadRoute params))
  | 0x08 => some (manage tag (takeSetGroup params))
  | 0x09 => some (manage tag (takeReadGroup params))
  | 0x10 => some (manage tag (takeSetPort params))
  | 0x11 => some (manage tag (takeReadPort params))
  | 0x12 => some (manage tag (takeResetPort params))
  | 0x13 => some (manage tag (takeAbortPort params))
  | 0x18 => some (manage tag (takeSetPass params))
  | 0x20 => some (manage tag (takeSetPosition params))
  | 0x21 => some (manage tag (withPosition params openThePosition))
  | 0x22 => some (manage tag (withPosition params closeThePosition))
  | 0x23 => some (manage tag (withPosition params openTheSession))
  | 0x24 => some (manage tag (withPosition params closeTheSession))
  | 0x25 => some (manage tag (takeSetSessionLimit params))
  | 0x26 => some (manage tag (withPosition params readThePosition))
  | 0x28 => some (manage tag (takeOpenEntry tag params))
  | 0x29 => some (manage tag (withPosition params cancelTheEntry))
  | 0x30 => some (manage tag (takeSetLine params))
  | 0x38 => some (manage tag (takeReadStatus params))
  | 0x39 => some (manage tag (takeReadCounters params))
  | 0x3A => some (manage tag (takeTakeNotice params))
  | 0x3F => some (restartRequest tag params)
  | _ => none

/-- A refusal made by the WLU (R156), after which the silence timer starts afresh (R166). -/
def refuseAtDispatch (tag : Byte) (status : Status) (s : State) : State := restartSilence (refuse tag status s)

/-- A MANAGEMENT REQUEST examined for its length, then its unit field, then its code (R156, Table 9.2). -/
def dispatchManagement (unit tag : Byte) (payload : List Byte) (s : State) : State :=
  match payload with
  | [] => refuseAtDispatch tag .badLength s
  | code :: params =>
    if unit ≠ 0 then refuseAtDispatch tag .badRequest s
    else
      match managementRequest code tag params with
      | some take => take s
      | none => refuseAtDispatch tag .badRequest s

/-- A good frame dispatched by its kind, taken by its owner, and followed by a fresh start of the silence timer (R156,
R166). -/
def dispatch (kind unit tag : Byte) (payload : List Byte) (s : State) : State :=
  if kind = kindUnitRequest then restartSilence (takeUnitRequest unit tag payload s)
  else if kind = kindGroupRequest then restartSilence (takeGroupRequest unit tag payload s)
  else if kind = kindManagement then dispatchManagement unit tag payload s
  else refuseAtDispatch tag .badRequest s

/-- The status with which the WLU itself refuses a frame, or none where it goes to an owner (R156, Table 9.2). -/
def dispatchStatus (kind unit : Byte) (payload : List Byte) : Option Status :=
  if kind = kindUnitRequest ∨ kind = kindGroupRequest then none
  else if kind = kindManagement then
    match payload with
    | [] => some .badLength
    | code :: params =>
      if unit ≠ 0 ∨ (managementRequest code 0 params).isNone then some .badRequest else none
  else some .badRequest

/-- A counter frame tested against its check: a bad one is counted and raises LINK_ERROR, a good one is counted and
dispatched (R155). -/
def takeCounterFrame (bytes : List Byte) (s : State) : State :=
  match readCounterFrame bytes with
  | none => countLink .rxFormatErrors s
  | some f =>
    if f.checkGood then dispatch f.kind f.unit f.tag f.payload (countLink .rxFramesGood s)
    else raiseNotice .linkError (countLink .rxCheckErrors s)

/-- What the workstation assembler reports of a character (R154, R155). -/
def takeWorkstation (a : Assembled) (s : State) : State :=
  match a with
  | .quiet => s
  | .counted => countLink .rxFormatErrors s
  | .frame bytes => takeCounterFrame bytes s

/-- The workstation gap timer runs while a frame is in progress and starts afresh at each of its characters (R154). -/
def workstationGap : Assembler → Timer
  | .collecting _ => some workstationGapMs
  | .hunting _ => none

/-- A character that arrives on WRXD; one whose stop bit is at the wrong level has a character error (R153, R154; log 4). -/
def receiveWorkstation (b : Byte) (stop : Bool) (s : State) : State :=
  let r := assemble counterMark 4 255 (!stop) b s.wsAsm
  takeWorkstation r.2 { s with wsAsm := r.1, wsGap := workstationGap r.1 }

/-- COUNTER_FRAME_RECEIVED: the last check byte of a counter frame arrives (R155). -/
def execCounterFrameReceived (b : Byte) (stop : Bool) (s : State) : Host.Outcome State Fault Refusal :=
  .next (receiveWorkstation b stop s)

/-- WORKSTATION_CHARACTER_RECEIVED: any other character arrives on WRXD (R154). -/
def execWorkstationCharacterReceived (b : Byte) (stop : Bool) (s : State) : Host.Outcome State Fault Refusal :=
  .next (receiveWorkstation b stop s)

/-- WORKSTATION_GAP_EXPIRY: the frame in progress is abandoned and counted RX_FORMAT_ERRORS (R154). -/
def execWorkstationGapExpiry (s : State) : Host.Outcome State Fault Refusal :=
  .next (if s.wsGap.isSome then countLink .rxFormatErrors { s with wsAsm := .hunting true, wsGap := none } else s)

/-- DISPATCH_REFUSAL: a good frame that the WLU refuses (R156); a frame it does not refuse is no such command, and changes
nothing (log 20). -/
def execDispatchRefusal (kind unit tag : Byte) (payload : List Byte) (s : State) : Host.Outcome State Fault Refusal :=
  .next (match dispatchStatus kind unit payload with
    | some status => refuseAtDispatch tag status s
    | none => s)

end Sys2Proof.Machine
end

