-- ==== Sys2Proof/Machine/LineReceive.lean ====
section
/-! DEFINITION. Characters and frames received on the device lines: LINE_FRAME_RECEIVED, DEVICE_CHARACTER_RECEIVED, DEVICE_RECEIVE_GAP_EXPIRY (R24 to R30, R37, R38, R63, R64). -/

namespace Sys2Proof.Machine

/-- A good REPLY in READY: it ends the exchange in flight whose seq it carries, or is stray (R63, R64, R76). -/
def takeReply (p : PortId) (f : LineFrame) (s : State) : State :=
  match inFlight p s with
  | none => countPort .strayReplies p s
  | some i =>
    if s.pool[i].seq ≠ f.seq then countPort .strayReplies p s
    else if s.pool[i].state = .orphaned then endOrphan i .done s
    else endExchange i .done f.code f.data s

/-- The identity a usable IDENTIFY reply gives: status 00, a class byte 1-3, model code and firmware level (R37). -/
def identityOf (f : LineFrame) : Option Identity :=
  match f.data with
  | c :: m1 :: m0 :: v1 :: v0 :: _ =>
    if f.code = 0 then (deviceClassOf c).map fun cls => ⟨cls, halfOf m1 m0, halfOf v1 v0⟩ else none
  | _ => none

/-- Whether a port's owner by the map has a sound entry whose expected class an identity conflicts with (R38). -/
def ownerConflict (p : PortId) (i : Identity) (s : State) : Bool :=
  match s.owners[p] with
  | none => false
  | some u => !routeFaulted s.routes[u] && conflicts s.routes[u].expected (some i)

/-- The port enters READY with the identity its device gave (R38, R22). -/
def enterReady (p : PortId) (i : Identity) (s : State) : State :=
  let s1 := modPort p (fun q => { q with
    state := .ready, identity := some i, failures := 0, identify := none, tx := .idle }) s
  let s2 := raiseNotice (.portReady p) s1
  let s3 := if ownerConflict p i s then raiseNotice (.classMismatch p) s2 else s2
  reevaluate p s3

/-- A good REPLY while IDENTIFYING (R37). -/
def takeIdentifyReply (p : PortId) (f : LineFrame) (s : State) : State :=
  match s.ports[p].identify with
  | none => countPort .strayReplies p s
  | some d =>
    if d.seq ≠ f.seq then countPort .strayReplies p s
    else
      match identityOf f with
      | some i => enterReady p i s
      | none =>
        if d.attempt < attemptsAllowed s.ports[p].config then modPort p (retryIdentify d) s
        else enterFault p .noIdentity s

/-- A good frame passed on according to the port state (R28). -/
def passFrame (p : PortId) (f : LineFrame) (s : State) : State :=
  if s.ports[p].state = .ready then
    if f.kind = lineReply then takeReply p f s else eventPath p f.code f.data s
  else if s.ports[p].state = .identifying then
    if f.kind = lineReply then takeIdentifyReply p f s else countPort .lineErrors p s
  else s

/-- A complete line frame tested by R27, and passed on or counted. DEDUCED (log 32): the size test takes the Lr in force at the last check
byte, also where SET PORT has changed Lr while the frame was in assembly (R46). -/
def takeLineFrame (p : PortId) (bytes : List Byte) (s : State) : State :=
  match readLineFrame bytes with
  | none => countPort .lineErrors p s
  | some f =>
    if lineFrameGood s.ports[p].config.replyLimit.toNat f then passFrame p f s else countPort .lineErrors p s

/-- What the assembler reports of a character (R24 to R27). -/
def takeAssembled (p : PortId) (a : Assembled) (s : State) : State :=
  match a with
  | .quiet => s
  | .counted => countPort .lineErrors p s
  | .frame bytes => takeLineFrame p bytes s

/-- The receive gap timer runs while a frame is in progress and starts afresh at each of its characters (R26, R83). -/
def gapFor (ms : Nat) : Assembler → Timer
  | .collecting _ => some ms
  | .hunting _ => none

/-- One character sampled by the receive assembler of a port (R24 to R26). -/
def sampleCharacter (p : PortId) (c : RxChar) (s : State) : State :=
  let q := s.ports[p]
  let r := assemble lineMark 3 253 (charError q.config.charLen c) c.data q.asm
  takeAssembled p r.2
    (modPort p (fun q => { q with asm := r.1, gap := gapFor (gapMs q.config) r.1 }) s)

/-- Whether the receiver of a port runs: in IDENTIFYING and READY (2.3). -/
def receiverRuns (q : Port) : Bool := decide (q.state = .identifying) || decide (q.state = .ready)

/-- Talk-over: a character begun while a half-duplex port sends is lost, and counted once for the frame; the assembler
resumes hunting afterwards (R30). -/
def talkOver (p : PortId) (owner : TxOwner) (frame : SentFrame) (s : State) : State :=
  countPort .talkOver p
    (modPort p (fun q => { q with tx := .sending owner frame true true, asm := .hunting false, gap := none }) s)

/-- A character that arrives on DRXn (log 4, log 7). -/
def receiveCharacter (p : PortId) (c : RxChar) (s : State) : State :=
  if receiverRuns s.ports[p] then
    match s.ports[p].tx with
    | .sending _ _ true true => s
    | .sending o frame true false => talkOver p o frame s
    | _ => sampleCharacter p c s
  else s

/-- LINE_FRAME_RECEIVED: the last check byte of a line frame arrives (R27). -/
def execLineFrameReceived (p : PortId) (c : RxChar) (s : State) : Host.Outcome State Fault Refusal :=
  .next (receiveCharacter p c s)

/-- DEVICE_CHARACTER_RECEIVED: any other character arrives on DRXn (R24 to R26, R30). -/
def execDeviceCharacterReceived (p : PortId) (c : RxChar) (s : State) : Host.Outcome State Fault Refusal :=
  .next (receiveCharacter p c s)

/-- DEVICE_RECEIVE_GAP_EXPIRY: the frame in progress is abandoned and counted LINE_ERRORS (R26). -/
def execDeviceReceiveGapExpiry (p : PortId) (s : State) : Host.Outcome State Fault Refusal :=
  .next (if s.ports[p].gap.isSome then
    countPort .lineErrors p (modPort p (fun q => { q with asm := .hunting true, gap := none }) s)
  else s)

end Sys2Proof.Machine
end

