-- ==== Sys2Proof/Machine/Pins.lean ====
section
/-! DEFINITION. Input pins, over-current and storage upsets (R4, R33 to R35, R44, R88, R161). -/

namespace Sys2Proof.Machine

/-- The assertion of DPRESn: in EMPTY the port enters SETTLING with a fresh settle timer; in every other state only the level
is noted, to be sampled later (R32, R33, R42, R44). -/
def presenceAsserted (q : Port) : Port :=
  if q.state = .empty then { q with present := true, state := .settling, settle := some settleMs }
  else { q with present := true }

/-- The port that loses presence and goes to EMPTY (R33, R34). -/
def presenceEmpty (q : Port) : Port := enterEmpty (stopLine { q with present := false })

/-- DPRESn drops (R33, R34, R44): a SETTLING port without a reset pulse, and an IDENTIFYING port, return to EMPTY; a READY port
enters EMPTY, raises PORT_DETACHED and departs; elsewhere only the level is noted. -/
def presenceLost (p : PortId) (s : State) : State :=
  match s.ports[p].state with
  | .settling =>
    if s.ports[p].pulse.isSome then modPort p (fun q => { q with present := false }) s else modPort p presenceEmpty s
  | .identifying => modPort p presenceEmpty s
  | .ready => depart p .detached (raiseNotice (.portDetached p) (modPort p presenceEmpty s))
  | _ => modPort p (fun q => { q with present := false }) s

/-- Whether the supply of a port is on, so that an over-current can arise (R35, Table 2.2). -/
def supplied (q : Port) : Bool :=
  match q.state with
  | .off => false
  | .fault => decide (q.cause ≠ .overcurrent)
  | _ => true

/-- What an upset leaves in a route entry: the section's contents as given, and its check UPSET if it was GOOD. A FORCED PORTS
section keeps its contents, by the laws of R2 (R4, log 21). -/
def upsetRoute (held : RouteSection) (e : RouteEntry) : RouteEntry :=
  match held with
  | .ports p q =>
    if e.portsCheck = .forced then e
    else { e with primary := p, standby := q, portsCheck := upsetCheck e.portsCheck }
  | .cls c => { e with expected := c, classCheck := upsetCheck e.classCheck }

/-- What an upset leaves in a group entry (R88, log 21). -/
def upsetGroup (held : GroupSection) (e : GroupEntry) : GroupEntry :=
  match held with
  | .members us => { e with members := us, membersCheck := upsetCheck e.membersCheck }
  | .count n => { e with expected := n, countCheck := upsetCheck e.countCheck }

/-- WREADY_ASSERTED: the workstation raises WREADY; a grant may then be made (R161). -/
def execWreadyAsserted (s : State) : Host.Outcome State Fault Refusal := .next { s with wready := true }

/-- WREADY_NEGATED: the workstation lowers WREADY; a frame in transmission is finished (R161). -/
def execWreadyNegated (s : State) : Host.Outcome State Fault Refusal := .next { s with wready := false }

/-- PRESENCE_ASSERTED (R33). -/
def execPresenceAsserted (p : PortId) (s : State) : Host.Outcome State Fault Refusal :=
  .next (modPort p presenceAsserted s)

/-- PRESENCE_LOST (R33, R34). -/
def execPresenceLost (p : PortId) (s : State) : Host.Outcome State Fault Refusal := .next (presenceLost p s)

/-- OVER_CURRENT (R35): it arises only while the supply is on. -/
def execOverCurrent (p : PortId) (s : State) : Host.Outcome State Fault Refusal :=
  .next (if supplied s.ports[p] then enterFault p .overcurrent s else s)

/-- ROUTE_STORAGE_UPSET (R4). -/
def execRouteStorageUpset (u : UnitId) (held : RouteSection) (s : State) : Host.Outcome State Fault Refusal :=
  .next (modRoute u (upsetRoute held) s)

/-- GROUP_STORAGE_UPSET (R88). -/
def execGroupStorageUpset (g : GroupId) (held : GroupSection) (s : State) : Host.Outcome State Fault Refusal :=
  .next (modGroup g (upsetGroup held) s)

end Sys2Proof.Machine
end

