-- ==== Sys2Proof/Machine/Sending.lean ====
section
/-! DEFINITION. Starting exchanges and sending device frames: EXCHANGE_START, DEVICE_FRAME_START, DEVICE_FRAME_END (R22, R29, R54, R59, R84). -/

namespace Sys2Proof.Machine

/-- The conditions of R54, but for the queue: the port is READY, none of its exchanges is in flight, and its DPC holds no
frame. -/
def portFree (p : PortId) (s : State) : Bool :=
  portReady p s && (inFlight p s).isNone && decide (s.ports[p].tx = .idle)

/-- The head of a port's request queue starts: a new seq, attempt 1, state SENDING, and its frame handed over (R59). -/
def startExchange (p : PortId) (i : RecId) (rest : List RecId) (s : State) : State :=
  let n := nextSeq s.ports[p].seq
  modPort p (fun q => { q with
    queue := rest, seq := n
    tx := .holding (.exchange i) (requestBytes n s.pool[i].command s.pool[i].data) })
    (modRec i (fun r => { r with seq := n, attempt := 1, state := .sending }) s)

/-- EXCHANGE_START as R54 gives it: nothing starts unless all its conditions hold. -/
def exchangeStart (p : PortId) (s : State) : State :=
  match s.ports[p].queue with
  | i :: rest => if portFree p s then startExchange p i rest s else s
  | [] => s

/-- Whether the DPC may start a frame it holds: at once on full duplex; on half duplex when the assembler is hunting and the
turnaround has passed since the last character on DRXn (R29, R84; log 6). -/
def mayStart (q : Port) (quietMs : Nat) : Bool :=
  match q.config.duplex with
  | .full => true
  | .half => isHunting q.asm && decide (turnaroundMs q.config ≤ quietMs)

/-- Whether a frame starts under half duplex (R46). -/
def startsHalf (c : PortConfig) : Bool := decide (c.duplex = .half)

/-- The owner's deadline starts at the first byte, computed from the configuration at that moment (R59, R80, R82). The frame of
an identify attempt that an unusable reply has already followed starts none (log 22). -/
def startDeadline (p : PortId) (owner : TxOwner) (lq : Nat) (s : State) : State :=
  let d := deadlineMs s.ports[p].config lq
  match owner with
  | .exchange i => modRec i (fun r => { r with deadline := some d }) s
  | .identify =>
    modPort p (fun q => { q with
      identify := q.identify.map fun x => if x.handPending then x else { x with deadline := some d } }) s
  | .nobody => s

/-- The DPC starts the first byte of the frame it holds, and puts it on the line at its rate and character length (R21, R22,
R29). -/
def frameStart (p : PortId) (quietMs : Nat) (s : State) : State :=
  match s.ports[p].tx with
  | .holding owner bytes =>
    if mayStart s.ports[p] quietMs then
      startDeadline p owner bytes.length
        (modPort p (fun q => { q with tx := .sending owner (sentFrame q.config bytes) (startsHalf q.config) false }) s)
    else s
  | _ => s

/-- At the end of a frame an identify attempt that waits for the DPC is handed over (R37). -/
def handIdentify (q : Port) : Port :=
  match q.identify with
  | some d =>
    if d.handPending then
      { q with identify := some { d with handPending := false }, tx := .holding .identify (identifyBytes d.seq) }
    else q
  | none => q

/-- The record of an exchange whose last byte has been sent becomes AWAITING; an orphan stays one (R59, R76). -/
def frameSent (owner : TxOwner) (s : State) : State :=
  match owner with
  | .exchange i => modRec i (fun r => if r.state = .sending then { r with state := .awaiting } else r) s
  | _ => s

/-- The last byte of the frame on the line has been sent (R22). -/
def frameEnd (p : PortId) (s : State) : State :=
  match s.ports[p].tx with
  | .sending owner _ _ _ => frameSent owner (modPort p (fun q => handIdentify { q with tx := .idle }) s)
  | _ => s

/-- EXCHANGE_START (R54). -/
def execExchangeStart (p : PortId) (s : State) : Host.Outcome State Fault Refusal := .next (exchangeStart p s)

/-- DEVICE_FRAME_START (R29). -/
def execDeviceFrameStart (p : PortId) (quietMs : Nat) (s : State) : Host.Outcome State Fault Refusal :=
  .next (frameStart p quietMs s)

/-- DEVICE_FRAME_END (R22). -/
def execDeviceFrameEnd (p : PortId) (s : State) : Host.Outcome State Fault Refusal := .next (frameEnd p s)

end Sys2Proof.Machine
end

