-- ==== Sys2Proof/Machine/Timers.lean ====
section
/-! DEFINITION. Expiries of the device-side timers, of hold timers and of the lamp cycle (R33, R36, R44, R60, R61, R71, R76, R131). An expiry of a timer that does not run has no effect (R78). -/

namespace Sys2Proof.Machine

/-- The settle timer expires: the port enters IDENTIFYING and the identify begins (R33, R36). -/
def settleExpired (q : Port) : Port :=
  if q.settle.isSome ∧ q.state = .settling then beginIdentify q else q

/-- The deadline of an identify attempt expires: it is retried and counted while attempts remain, and exhausted otherwise (R36,
R39). -/
def identifyExpired (p : PortId) (s : State) : State :=
  match s.ports[p].identify with
  | none => s
  | some d =>
    if d.deadline.isNone then s
    else if d.attempt < attemptsAllowed s.ports[p].config then countPort .timeouts p (modPort p (retryIdentify d) s)
    else enterFault p .noIdentity s

/-- The reset pulse ends: DRSTn is released and presence is sampled (R44). -/
def pulseEnded (q : Port) : Port :=
  if q.pulse.isSome then
    if q.present then { endPulse q with settle := some settleMs }
    else { endPulse q with state := .empty, identity := none }
  else q

/-- A retry: the same frame with the same seq is handed over again (R60). -/
def retryExchange (p : PortId) (i : RecId) (s : State) : State :=
  let r := s.pool[i]
  countPort .timeouts p
    (modPort p (fun q => { q with tx := .holding (.exchange i) (requestBytes r.seq r.command r.data) })
      (modRec i (fun r => { r with attempt := r.attempt + 1, state := .sending, deadline := none }) s))

/-- A deadline expiry of an AWAITING exchange: a retry while attempts remain, otherwise the end TIMEOUT, and after it the move to
FAULT if it was the fourth in a row (R60 to R62). -/
def awaitingExpired (p : PortId) (i : RecId) (s : State) : State :=
  if s.pool[i].attempt < attemptsAllowed s.ports[p].config then retryExchange p i s
  else silentCheck p (endExchange i .timeout 0 [] s)

/-- The deadline of the exchange in flight on a port expires (R60, R61, R76). A record that is SENDING is reached by none
(Table 3.5, R81). -/
def deadlineExpired (p : PortId) (s : State) : State :=
  match inFlight p s with
  | none => s
  | some i =>
    if s.pool[i].deadline.isNone then s
    else
      match s.pool[i].state with
      | .awaiting => awaitingExpired p i s
      | .orphaned => silentCheck p (endOrphan i .timeout s)
      | _ => s

/-- Whether an outbound-list frame is the held reply of a record. -/
def isReplyOf (i : RecId) : OutFrame → Bool
  | .reply j _ _ _ _ _ _ _ => decide (j = i)
  | .event _ _ _ _ _ => false

/-- The hold timer of a HELD record expires before its grant: the frame leaves the list, the record is freed, and the loss is
counted and noted (R71). -/
def holdExpired (i : RecId) (s : State) : State :=
  if s.pool[i].state = .held ∧ s.pool[i].hold.isSome then
    match s.pool[i].port with
    | none => s
    | some p =>
      raiseNotice (.replyDiscarded p)
        (countPort .repliesDiscarded p
          (freeRecord i (modPort p (fun q => { q with outbound := q.outbound.filter (fun f => !isReplyOf i f) }) s)))
  else s

/-- A period of 500 ms of a lamp in FLASH ends: the driver toggles (R131). -/
def toggleLamp (q : Position) : Position :=
  if q.lamp = .flash then { q with lampLit := !q.lampLit } else q

/-- SETTLE_TIMER_EXPIRY (R33). -/
def execSettleTimerExpiry (p : PortId) (s : State) : Host.Outcome State Fault Refusal := .next (modPort p settleExpired s)

/-- IDENTIFY_DEADLINE_EXPIRY (R36). -/
def execIdentifyDeadlineExpiry (p : PortId) (s : State) : Host.Outcome State Fault Refusal := .next (identifyExpired p s)

/-- RESET_PULSE_END (R44). -/
def execResetPulseEnd (p : PortId) (s : State) : Host.Outcome State Fault Refusal := .next (modPort p pulseEnded s)

/-- DEADLINE_EXPIRY (R60). -/
def execDeadlineExpiry (p : PortId) (s : State) : Host.Outcome State Fault Refusal := .next (deadlineExpired p s)

/-- HOLD_TIMER_EXPIRY (R71). -/
def execHoldTimerExpiry (i : RecId) (s : State) : Host.Outcome State Fault Refusal := .next (holdExpired i s)

/-- LAMP_FLASH_TOGGLE (R131). -/
def execLampFlashToggle (k : PosId) (s : State) : Host.Outcome State Fault Refusal := .next (modPos k toggleLamp s)

end Sys2Proof.Machine
end

