-- ==== Sys2Proof/Machine/Dispatch.lean ====
section
/-! DEFINITION. The effect of every command of the table: one arm per constructor, each one direct call of its meaning. -/

namespace Sys2Proof.Machine

/-- A command's effect on everything but the queue. -/
def exec (i : Instr) (s : State) : Host.Outcome State Fault Refusal :=
  match i with
  | .coldReset cause rate1 rate0 => Sys2Proof.Machine.execColdReset cause rate1 rate0 s
  | .wreadyAsserted => Sys2Proof.Machine.execWreadyAsserted s
  | .presenceAsserted port => Sys2Proof.Machine.execPresenceAsserted port s
  | .presenceLost port => Sys2Proof.Machine.execPresenceLost port s
  | .overCurrent port => Sys2Proof.Machine.execOverCurrent port s
  | .routeStorageUpset unit held => Sys2Proof.Machine.execRouteStorageUpset unit held s
  | .groupStorageUpset group held => Sys2Proof.Machine.execGroupStorageUpset group held s
  | .lineFrameReceived port char => Sys2Proof.Machine.execLineFrameReceived port char s
  | .deviceReceiveGapExpiry port => Sys2Proof.Machine.execDeviceReceiveGapExpiry port s
  | .counterFrameReceived data stop => Sys2Proof.Machine.execCounterFrameReceived data stop s
  | .workstationGapExpiry => Sys2Proof.Machine.execWorkstationGapExpiry s
  | .unitRequest unit tag payload => Sys2Proof.Machine.execUnitRequest unit tag payload s
  | .groupRequest unit tag payload => Sys2Proof.Machine.execGroupRequest unit tag payload s
  | .dispatchRefusal kind unit tag payload => Sys2Proof.Machine.execDispatchRefusal kind unit tag payload s
  | .setRoute tag params => Sys2Proof.Machine.execSetRoute tag params s
  | .clearRoute tag params => Sys2Proof.Machine.execClearRoute tag params s
  | .readRoute tag params => Sys2Proof.Machine.execReadRoute tag params s
  | .setGroup tag params => Sys2Proof.Machine.execSetGroup tag params s
  | .readGroup tag params => Sys2Proof.Machine.execReadGroup tag params s
  | .setPort tag params => Sys2Proof.Machine.execSetPort tag params s
  | .readPort tag params => Sys2Proof.Machine.execReadPort tag params s
  | .resetPort tag params => Sys2Proof.Machine.execResetPort tag params s
  | .abortPort tag params => Sys2Proof.Machine.execAbortPort tag params s
  | .setPass tag params => Sys2Proof.Machine.execSetPass tag params s
  | .setPosition tag params => Sys2Proof.Machine.execSetPosition tag params s
  | .openPosition tag params => Sys2Proof.Machine.execOpenPosition tag params s
  | .closePosition tag params => Sys2Proof.Machine.execClosePosition tag params s
  | .openSession tag params => Sys2Proof.Machine.execOpenSession tag params s
  | .closeSession tag params => Sys2Proof.Machine.execCloseSession tag params s
  | .setSessionLimit tag params => Sys2Proof.Machine.execSetSessionLimit tag params s
  | .readPosition tag params => Sys2Proof.Machine.execReadPosition tag params s
  | .openEntry tag params => Sys2Proof.Machine.execOpenEntry tag params s
  | .cancelEntry tag params => Sys2Proof.Machine.execCancelEntry tag params s
  | .setLine tag params => Sys2Proof.Machine.execSetLine tag params s
  | .readStatus tag params => Sys2Proof.Machine.execReadStatus tag params s
  | .readCounters tag params => Sys2Proof.Machine.execReadCounters tag params s
  | .takeNotice tag params => Sys2Proof.Machine.execTakeNotice tag params s
  | .restartTraffic tag params => Sys2Proof.Machine.execRestartTraffic tag params s
  | .restartAll tag => Sys2Proof.Machine.execRestartAll tag s
  | .settleTimerExpiry port => Sys2Proof.Machine.execSettleTimerExpiry port s
  | .identifyDeadlineExpiry port => Sys2Proof.Machine.execIdentifyDeadlineExpiry port s
  | .resetPulseEnd port => Sys2Proof.Machine.execResetPulseEnd port s
  | .deadlineExpiry port => Sys2Proof.Machine.execDeadlineExpiry port s
  | .holdTimerExpiry record => Sys2Proof.Machine.execHoldTimerExpiry record s
  | .silenceTimerExpiry => Sys2Proof.Machine.execSilenceTimerExpiry s
  | .entryTimerExpiry position => Sys2Proof.Machine.execEntryTimerExpiry position s
  | .lampFlashToggle position => Sys2Proof.Machine.execLampFlashToggle position s
  | .exchangeStart port => Sys2Proof.Machine.execExchangeStart port s
  | .deviceFrameStart port quietMs => Sys2Proof.Machine.execDeviceFrameStart port quietMs s
  | .deviceFrameEnd port => Sys2Proof.Machine.execDeviceFrameEnd port s
  | .grant => Sys2Proof.Machine.execGrant s
  | .workstationFrameEnd => Sys2Proof.Machine.execWorkstationFrameEnd s
  | .deviceCharacterReceived port char => Sys2Proof.Machine.execDeviceCharacterReceived port char s
  | .workstationCharacterReceived data stop => Sys2Proof.Machine.execWorkstationCharacterReceived data stop s
  | .wreadyNegated => Sys2Proof.Machine.execWreadyNegated s

end Sys2Proof.Machine
end

