-- ==== Sys2Proof/WellFormed.lean ====
section
/-! DEFINITION. Which commands can occur on the part: bounds that a frame's length byte sets, and what tells rows of one frame kind apart. -/

namespace Sys2Proof

/-- A counter frame has L at most 255, so its payload has at most 251 bytes (Table 12.1). -/
def payloadFits (payload : List Byte) : Bool := decide (payload.length ≤ 251)

/-- The parameters of a management request follow its code byte, so they have at most 250 bytes (Table 12.7). -/
def paramsFit (params : List Byte) : Bool := decide (params.length ≤ 250)

/-- The management codes of Table 12.7. -/
def managementCodes : List Byte :=
  [0x01, 0x02, 0x03, 0x08, 0x09, 0x10, 0x11, 0x12, 0x13, 0x18, 0x20, 0x21, 0x22, 0x23, 0x24, 0x25, 0x26, 0x28, 0x29,
   0x30, 0x38, 0x39, 0x3A, 0x3F]

/-- Whether the WLU itself refuses a good frame (Table 9.2, R156): any kind but the three request kinds, or a management
request without a code, with a unit field that is not 0, or with an unlisted code. -/
def refusedAtDispatch (kind unit : Byte) (payload : List Byte) : Bool :=
  if kind = 0x01 ∨ kind = 0x02 then false
  else if kind = 0x03 then
    match payload with
    | [] => true
    | code :: _ => decide (unit ≠ 0) || !(managementCodes.contains code)
  else true

/-- What a storage upset leaves in a group entry's section lies in the section's values (Table 5.1). -/
def groupSectionWf : GroupSection → Bool
  | .members units => decide units.Nodup
  | .count expected => decide (expected.toNat ≤ 24)

/-- What a storage upset leaves in a route entry's section lies in the section's values by its type (Table 1.2). -/
def Instr.wf : Instr → Bool
  | .coldReset _ _ _ => true
  | .wreadyAsserted => true
  | .presenceAsserted _ => true
  | .presenceLost _ => true
  | .overCurrent _ => true
  | .routeStorageUpset _ _ => true
  | .groupStorageUpset _ held => groupSectionWf held
  | .lineFrameReceived _ _ => true
  | .deviceReceiveGapExpiry _ => true
  | .counterFrameReceived _ _ => true
  | .workstationGapExpiry => true
  | .unitRequest _ _ payload => payloadFits payload
  | .groupRequest _ _ payload => payloadFits payload
  | .dispatchRefusal kind unit _ payload => payloadFits payload && refusedAtDispatch kind unit payload
  | .setRoute _ params => paramsFit params
  | .clearRoute _ params => paramsFit params
  | .readRoute _ params => paramsFit params
  | .setGroup _ params => paramsFit params
  | .readGroup _ params => paramsFit params
  | .setPort _ params => paramsFit params
  | .readPort _ params => paramsFit params
  | .resetPort _ params => paramsFit params
  | .abortPort _ params => paramsFit params
  | .setPass _ params => paramsFit params
  | .setPosition _ params => paramsFit params
  | .openPosition _ params => paramsFit params
  | .closePosition _ params => paramsFit params
  | .openSession _ params => paramsFit params
  | .closeSession _ params => paramsFit params
  | .setSessionLimit _ params => paramsFit params
  | .readPosition _ params => paramsFit params
  | .openEntry _ params => paramsFit params
  | .cancelEntry _ params => paramsFit params
  | .setLine _ params => paramsFit params
  | .readStatus _ params => paramsFit params
  | .readCounters _ params => paramsFit params
  | .takeNotice _ params => paramsFit params
  | .restartTraffic _ params => paramsFit params && decide (params ≠ [0x02])
  | .restartAll _ => true
  | .settleTimerExpiry _ => true
  | .identifyDeadlineExpiry _ => true
  | .resetPulseEnd _ => true
  | .deadlineExpiry _ => true
  | .holdTimerExpiry _ => true
  | .silenceTimerExpiry => true
  | .entryTimerExpiry _ => true
  | .lampFlashToggle _ => true
  | .exchangeStart _ => true
  | .deviceFrameStart _ _ => true
  | .deviceFrameEnd _ => true
  | .grant => true
  | .workstationFrameEnd => true
  | .deviceCharacterReceived _ _ => true
  | .workstationCharacterReceived _ _ => true
  | .wreadyNegated => true

end Sys2Proof
end

