-- ==== Sys2Proof/Safety.lean ====
section
/-! DEFINITION. What a legal state of the UB8612 is, as the laws of the spec say it, and the words the statements are made of. -/

namespace Sys2Proof.Machine

/-! ### Laws that every step keeps -/

/-- R164, R175, R176: the notice set has no pair twice and is held in the order of TAKE NOTICE, and WATTN is asserted exactly
while the set holds a notice of an enabled kind. -/
structure NoticeLaw (s : State) : Prop where
  ordered : s.notices.Pairwise fun m n => noticeRank m < noticeRank n
  attention : s.wattn = true ↔ ∃ n ∈ s.notices, s.line.enable.getLsbD (kindPriority (noticeKind n)) = true

/-- Table 7.3: the lamp mode of a position. -/
def tableLamp (k : PosId) (s : State) : LampMode :=
  match s.positions[k].state with
  | .closed => if Notice.call k ∈ s.notices then .flash else .off
  | .open => .steady
  | .session =>
    match s.positions[k].entry with
    | some e => if e.state = .collecting then .flash else .off
    | none => .off

/-- R130, R131: every lamp has its mode of Table 7.3, and outside FLASH its driver is on exactly in STEADY. -/
structure LampLaw (s : State) : Prop where
  mode : ∀ k : PosId, s.positions[k].lamp = tableLamp k s
  driver : ∀ k : PosId, s.positions[k].lamp ≠ .flash → (s.positions[k].lampLit = true ↔ s.positions[k].lamp = .steady)

/-- What Table 2.2, Table 2.6 and R109 say of one port: power, supply, fault cause, reset pulse, settle timer, identify,
receiver, transmitter and identity agree with the port state, the settings lie in their ranges, and at most eight events wait;
and what R21 and R22 say of DTXn: a frame is held or sent in IDENTIFYING and READY only. -/
structure PortLaw (q : Port) : Prop where
  power : q.state = .off ↔ q.config.power = false
  supply : q.supply = true ↔ q.state ≠ .off ∧ q.cause ≠ .overcurrent
  cause : q.cause ≠ .none ↔ q.state = .fault
  resetLine : q.resetLine = q.pulse.isSome
  pulse : q.pulse.isSome = true → q.state = .settling
  settle : q.settle.isSome = true ↔ q.state = .settling ∧ q.pulse = none
  identify : q.identify.isSome = true ↔ q.state = .identifying
  gap : q.gap.isSome = true ↔ isHunting q.asm = false
  receiver : isHunting q.asm = false → q.state = .identifying ∨ q.state = .ready
  silent : q.tx ≠ .idle → q.state = .identifying ∨ q.state = .ready
  identified : q.state = .ready → q.identity.isSome = true
  forgotten : q.state = .off ∨ q.state = .empty → q.identity = none
  allowance : q.config.allowance.toNat ≤ 250
  replyLimit : 16 ≤ q.config.replyLimit.toNat ∧ q.config.replyLimit.toNat ≤ 64
  retryLimit : q.config.retryLimit.toNat ≤ 3
  events : q.outbound.countP isEvent ≤ 8

/-- `PortLaw` at all twelve ports. -/
def PortsLaw (s : State) : Prop := ∀ p : PortId, PortLaw s.ports[p]

/-- Operations that hold a reservation between two commands: the entries, and the group records whose GROUP END is not
placed (R158). -/
def heldReservations (s : State) : Nat :=
  s.positions.toList.countP (fun q => q.entry.isSome) + s.groupRecords.countP fun g => !g.endQueued

/-- R91, R92, R157, R158: the control queue and its reservations fit the 16 slots, each reservation belongs to an open
operation, a frame in transmission from the queue is its head, and there are at most four open group records, of different
tags. -/
structure SlotLaw (s : State) : Prop where
  fits : s.control.length + s.reservations ≤ 16
  held : s.reservations = heldReservations s
  sending : controlSending s = true → s.control ≠ []
  records : s.groupRecords.length ≤ 4
  tags : (s.groupRecords.map (·.tag)).Nodup

/-- Whether a route entry names ports for the laws of R2: it is valid and its PORTS section is GOOD or FORCED. -/
def Names (e : RouteEntry) : Prop := e.valid = true ∧ e.portsCheck ≠ .upset

/-- Whether an entry names a port, as primary or as standby. -/
def NamesPort (e : RouteEntry) (p : PortId) : Prop := e.primary = p ∨ e.standby = some p

/-- R2, R7: no such entry's standby is its primary, each port is named by at most one such entry, the port-owner map names the
ports of such an entry for its unit, and names only units with valid entries. -/
structure RouteLaw (s : State) : Prop where
  standby : ∀ u : UnitId, Names s.routes[u] → s.routes[u].standby ≠ some s.routes[u].primary
  single : ∀ (u v : UnitId) (p : PortId), Names s.routes[u] → Names s.routes[v] → NamesPort s.routes[u] p →
    NamesPort s.routes[v] p → u = v
  mapped : ∀ (u : UnitId) (p : PortId), Names s.routes[u] → NamesPort s.routes[u] p → s.owners[p] = some u
  owner : ∀ (u : UnitId) (p : PortId), s.owners[p] = some u → s.routes[u].valid = true

/-- Whether a position names a unit, in either role (R116). -/
def Assigned (q : Position) (u : UnitId) : Prop := q.reader = some u ∨ q.keypad = some u

/-- R116, R123, R125, R135: each unit is assigned to at most one position, in one role; the positions in SESSION do not exceed
the limit, which lies in 1-4; each has a session number of its own, not 0, and a position outside SESSION has 0; and only a
position in SESSION has an entry. -/
structure PositionLaw (s : State) : Prop where
  roles : ∀ (k : PosId) (u : UnitId), ¬ (s.positions[k].reader = some u ∧ s.positions[k].keypad = some u)
  single : ∀ (j k : PosId) (u : UnitId), Assigned s.positions[j] u → Assigned s.positions[k] u → j = k
  limit : 1 ≤ s.sessionLimit.toNat ∧ s.sessionLimit.toNat ≤ 4
  count : sessionCount s ≤ s.sessionLimit.toNat
  number : ∀ k : PosId, s.positions[k].session = 0 ↔ s.positions[k].state ≠ .session
  distinct : ∀ j k : PosId, s.positions[j].state = .session → s.positions[k].state = .session →
    s.positions[j].session = s.positions[k].session → j = k
  next : s.nextSession ≠ 0
  entry : ∀ k : PosId, s.positions[k].entry.isSome = true → s.positions[k].state = .session

/-- R50, R53, R54: a queue holds each of its records once, QUEUED on its port; every QUEUED record is in the queue of its port;
queues are empty and nothing is in flight on a port that is not READY, and at most one exchange of a port is in flight; every
RESERVED record is set aside by an entry, which is COLLECTING exactly while its record is RESERVED, and no two entries share a
record; every HELD record has exactly one UNIT REPLY in the outbound list of its port, and every UNIT REPLY there a HELD
record. -/
structure PoolLaw (s : State) : Prop where
  queue : ∀ (p : PortId) (i : RecId), i ∈ s.ports[p].queue → s.pool[i].state = .queued ∧ s.pool[i].port = some p
  once : ∀ p : PortId, s.ports[p].queue.Nodup
  queued : ∀ i : RecId, s.pool[i].state = .queued → ∃ p : PortId, s.pool[i].port = some p ∧ i ∈ s.ports[p].queue
  waiting : ∀ p : PortId, s.ports[p].queue ≠ [] → s.ports[p].state = .ready
  flying : ∀ i : RecId, isInFlight s.pool[i] = true →
    ∃ p : PortId, s.pool[i].port = some p ∧ s.ports[p].state = .ready
  alone : ∀ i j : RecId, isInFlight s.pool[i] = true → isInFlight s.pool[j] = true → s.pool[i].port = s.pool[j].port →
    i = j
  reserved : ∀ i : RecId, s.pool[i].state = .reserved →
    ∃ (k : PosId) (e : Entry), s.positions[k].entry = some e ∧ e.record = i
  collecting : ∀ (k : PosId) (e : Entry), s.positions[k].entry = some e → e.state = .collecting →
    s.pool[e.record].state = .reserved
  delivering : ∀ (k : PosId) (e : Entry), s.positions[k].entry = some e → e.state = .delivering →
    (s.pool[e.record].state = .queued ∨ s.pool[e.record].state = .sending ∨ s.pool[e.record].state = .awaiting) ∧
      s.pool[e.record].origin = some .delivery ∧ s.pool[e.record].position = some k
  entries : ∀ (j k : PosId) (e f : Entry), s.positions[j].entry = some e → s.positions[k].entry = some f →
    e.record = f.record → j = k
  held : ∀ i : RecId, s.pool[i].state = .held →
    ∃ p : PortId, s.pool[i].port = some p ∧ s.ports[p].outbound.countP (isReplyOf i) = 1
  replies : ∀ (p : PortId) (i : RecId) (f : OutFrame), f ∈ s.ports[p].outbound → isReplyOf i f = true →
    s.pool[i].state = .held ∧ s.pool[i].port = some p

/-! ### Answers and refusals -/

/-- The control queue has a free unreserved slot (R157). -/
def HasSlot (s : State) : Prop := s.control.length + s.reservations < 16

/-- The silence timer when a good frame has been taken (R166). -/
def freshSilence (s : State) : Timer :=
  if s.line.silenceLimit = 0 then none else some (s.line.silenceLimit.toNat * 1000)

/-- `s` with the CONTROL REPLY of a request at the tail of the control queue, and the silence timer started afresh (R158,
R166). -/
def answered (tag : Byte) (status : Status) (result : List Byte) (s : State) : State :=
  { s with control := s.control ++ [.reply tag status result], silence := freshSilence s }

/-- A counter of 16 bits after one more occurrence (R172). -/
def counted (c : Half) : Half := if c = 65535 then 65535 else c + 1

/-- `s` with a request or a refusal discarded for want of a slot (R159, R166). -/
def discarded (s : State) : State :=
  { s with link := { s.link with controlOverflow := counted s.link.controlOverflow }, silence := freshSilence s }

/-- A refusal of a UNIT REQUEST, of a GROUP REQUEST or by the WLU: placed where a slot is free, else discarded (R159). -/
def refused (tag : Byte) (status : Status) (s : State) : State :=
  if s.control.length + s.reservations < 16 then answered tag status [] s else discarded s

/-- `t` is `s` after the notice `n` has been raised: a pair that is present leaves everything as it was; otherwise it joins the
set, and WATTN follows the set (R164, R175, R176). -/
def Raised (n : Notice) (s t : State) : Prop :=
  t = { s with notices := t.notices, wattn := t.wattn } ∧ (∀ m, m ∈ t.notices ↔ m = n ∨ m ∈ s.notices) ∧
    (n ∈ s.notices → t.wattn = s.wattn) ∧
    (n ∉ s.notices → (t.wattn = true ↔ ∃ m ∈ t.notices, s.line.enable.getLsbD (kindPriority (noticeKind m)) = true))

/-! ### Units -/

/-- The class an entry expects agrees with the class of a device (Table 1.3). -/
def Agrees (c : ExpectedClass) (d : DeviceClass) : Prop :=
  c = .any ∨ (c = .reader ∧ d = .reader) ∨ (c = .keypad ∧ d = .keypad)

/-- A port is the active port of a unit's entry: the primary if READY, otherwise the standby if READY (R9). -/
def Active (e : RouteEntry) (p : PortId) (s : State) : Prop :=
  (p = e.primary ∧ s.ports[p].state = .ready) ∨
    (s.ports[e.primary].state ≠ .ready ∧ e.standby = some p ∧ s.ports[p].state = .ready)

/-- A unit is usable on a port: its entry is valid and sound, the port is its active port, and the identity there agrees with
the expected class (R11). -/
def Serves (u : UnitId) (p : PortId) (s : State) : Prop :=
  s.routes[u].valid = true ∧ s.routes[u].portsCheck = .good ∧ s.routes[u].classCheck = .good ∧
    Active s.routes[u] p s ∧ ∃ d, s.ports[p].identity = some d ∧ Agrees s.routes[u].expected d.cls

/-- The outcome of the usable-unit test of a unit and its active port, as the codes of Table 12.5: the first of the checks of R11 that
applies, and FF where there is no active port. -/
def HasOutcome (u : UnitId) (s : State) (outcome port : Byte) : Prop :=
  let e := s.routes[u]
  let sound := e.portsCheck = .good ∧ e.classCheck = .good
  (e.valid = false ∧ outcome = 1 ∧ port = 0xFF) ∨
  (e.valid = true ∧ ¬ sound ∧ outcome = 2 ∧ port = 0xFF) ∨
  (e.valid = true ∧ sound ∧ (∀ p, ¬ Active e p s) ∧ outcome = 3 ∧ port = 0xFF) ∨
  (∃ p d, e.valid = true ∧ sound ∧ Active e p s ∧ s.ports[p].identity = some d ∧ ¬ Agrees e.expected d.cls ∧ outcome = 4 ∧
    port = portCode p) ∨
  ∃ p, Serves u p s ∧ outcome = 0 ∧ port = portCode p

/-- A tag belongs to no open unit exchange and to no open group record (R57, R92). -/
def TagFree (tag : Byte) (s : State) : Prop :=
  (∀ i : RecId, s.pool[i].tag = some tag → isOpen s.pool[i] = false) ∧ ∀ g ∈ s.groupRecords, g.tag ≠ tag

/-- A unit is in no position. -/
def Unassigned (u : UnitId) (s : State) : Prop := ∀ k : PosId, ¬ Assigned s.positions[k] u

/-- The position and the role a unit is assigned to, as the codes of Table 12.5, 00 and 00 for none (R20, R116). -/
def HasPlace (u : UnitId) (s : State) (position role : Byte) : Prop :=
  (Unassigned u s ∧ position = 0 ∧ role = 0) ∨
    ∃ k : PosId, position = posAddr k ∧
      ((s.positions[k].reader = some u ∧ role = 1) ∨ (s.positions[k].keypad = some u ∧ role = 2))

/-- A write of the PORTS section or a clear of a unit's entry is busy (R17). -/
def RouteBusy (u : UnitId) (s : State) : Prop :=
  s.routes[u].valid = true ∧
    ((∃ i : RecId, s.pool[i].unit = some u ∧ isOpen s.pool[i] = true) ∨ ∃ k : PosId, Assigned s.positions[k] u)

/-! ### Ports -/

/-- `s` with port `p` replaced. -/
def withPort (p : PortId) (q : Port) (s : State) : State := { s with ports := s.ports.set p q }

/-- `s` with position `k` replaced. -/
def withPos (k : PosId) (q : Position) (s : State) : State := { s with positions := s.positions.set k q }

/-- A port whose line work has stopped: nothing to send, the assembler empty, no settle timer and no identify (R22, R31, R34,
R35, R43). -/
def quiet (q : Port) : Port :=
  { q with tx := .idle, asm := .hunting false, gap := none, settle := none, identify := none }

/-- The character `c` is the last of the line frame with the bytes `body` from kind on, every character before it has been
collected, and the port samples it without error. -/
structure Completes (p : PortId) (body : List Byte) (c : RxChar) (s : State) : Prop where
  runs : s.ports[p].state = .identifying ∨ s.ports[p].state = .ready
  listens : ∀ o b talked, s.ports[p].tx ≠ .sending o b true talked
  collected : s.ports[p].asm = .collecting (frameBytes lineMark body).dropLast
  last : (frameBytes lineMark body).getLast? = some c.data
  sound : charError s.ports[p].config.charLen c = false

/-- `s` once the last character of a frame has been sampled: the assembler hunts, and the gap timer is stopped (R24, R83). -/
def sampled (p : PortId) (s : State) : State := withPort p { s.ports[p] with asm := .hunting false, gap := none } s

/-! ### Positions and entries -/

/-- A position whose lamp has taken a mode: a mode that stays leaves the driver, and any other mode but OFF starts lit (R131). -/
def lit (m : LampMode) (q : Position) : Position :=
  if q.lamp = m then q else { q with lamp := m, lampLit := decide (m ≠ .off) }

/-- `s` after the end of the entry `e` of position `k` in SESSION: its RESERVED record is FREE, a waiting ENTRY PROGRESS of the
position has left the queue, ENTRY END has filled the reserved slot, and the lamp is OFF (R146). -/
def entryEnded (k : PosId) (e : Entry) (o : EntryOutcome) (c : EntryCause) (status : Byte) (data : List Byte) (s : State) :
    State :=
  { s with
    control := controlInFlight s ++ (controlWaiting s).filter (fun f => !isProgressOf k f) ++
      [.entryEnd k s.positions[k].session o c status data]
    reservations := s.reservations - 1
    pool := if s.pool[e.record].state = .reserved then s.pool.set e.record freeExchange else s.pool
    positions := s.positions.set k (lit .off { s.positions[k] with entry := none }) }

/-- `s` after the QUEUED delivery `i` of port `p` has been withdrawn: it has left the queue, and its record is FREE (R75). -/
def withdrawn (p : PortId) (i : RecId) (s : State) : State :=
  { withPort p { s.ports[p] with queue := s.ports[p].queue.filter fun j => decide (j ≠ i) } s with
    pool := s.pool.set i freeExchange }

/-- `s` after an ENTRY PROGRESS of position `k` has been queued: it updates in place the one that waits; otherwise it takes a free
unreserved slot; otherwise it is skipped, and PROGRESS_SKIPPED is counted (R143). -/
def progressShown (k : PosId) (count : Nat) (short full : Bool) (s : State) : State :=
  if (controlWaiting s).any (isProgressOf k) = true then
    { s with control := controlInFlight s ++ (controlWaiting s).map fun f =>
        match f with
        | .progress j n c sh fu => if j = k then .progress j n count short full else .progress j n c sh fu
        | f => f }
  else if s.control.length + s.reservations < 16 then
    { s with control := s.control ++ [.progress k s.positions[k].session count short full] }
  else { s with link := { s.link with progressSkipped := counted s.link.progressSkipped } }

/-! ### Ends of exchanges, restarts and grants -/

/-- The hold limits in milliseconds (R68). -/
def holdTime (h : HoldLimit) : Nat :=
  match h with | .ms500 => 500 | .s2 => 2000 | .s8 => 8000 | .s32 => 32000

/-- The UNIT REPLY of record `i`, as it is appended at the end `st` (R68). -/
def endReply (i : RecId) (r : Exchange) (afterEnd : Bool) (st : EndStatus) (status : Byte) (data : List Byte) : OutFrame :=
  .reply i (r.unit.getD 0) (r.tag.getD 0) r.group.isSome afterEnd st status data

/-- `s` after the end of workstation exchange `i` on port `p`, which belongs to no group: its record is HELD for the hold limit in
force, its UNIT REPLY is at the tail of the port's outbound list, and the port has the failure count `failures` (R67, R68). -/
def replyHeld (p : PortId) (i : RecId) (st : EndStatus) (status : Byte) (data : List Byte) (failures : Nat) (q : Port)
    (s : State) : State :=
  { withPort p { q with
      outbound := q.outbound ++ [endReply i s.pool[i] false st status data], failures := failures
      tx := releaseTx i q.tx } s with
    pool := s.pool.set i { s.pool[i] with
      state := .held, endStatus := some st, deviceStatus := status, replyData := data, deadline := none
      hold := some (holdTime s.line.hold) } }

/-- `s` after the end report of a member of the group record with this tag: the answered count rises by one; while GROUP END is not
queued it is placed in the reserved slot, COMPLETE where the count equals the expected count, otherwise SHORT where it equals the
issued count; and the record is freed once GROUP END is queued and every member has ended (R96, R97). -/
def memberCounted (tag : Byte) (s : State) : State :=
  match s.groupRecords.find? (fun g => decide (g.tag = tag)) with
  | none => s
  | some g =>
    let n := g.answered + 1
    let o : Option GroupOutcome :=
      if g.endQueued = true then none else if n = g.expected then some .complete
      else if n = g.issued then some .short else none
    let queued : Bool := g.endQueued || o.isSome
    { s with
      control := s.control ++
        (o.map fun x => ControlFrame.groupEnd g.group g.tag x g.expected g.issued g.skipped n).toList
      reservations := if o.isSome = true then s.reservations - 1 else s.reservations
      groupRecords :=
        if queued = true ∧ n = g.issued then s.groupRecords.filter fun h => decide (h.tag ≠ g.tag)
        else s.groupRecords.map fun h => if h.tag = g.tag then { g with answered := n, endQueued := queued } else h }

/-- `s` after a delivery's end has been reported for position `k`: its entry ends DELIVERED with the reader's status and the first 16
bytes of its data, or NOT_DELIVERED with the end status as cause (R145). ABORTED does not occur (R72, log 29). -/
def deliveryEnded (k : PosId) (st : EndStatus) (status : Byte) (data : List Byte) (s : State) : State :=
  match s.positions[k].entry, st with
  | none, _ => s
  | some e, .done => entryEnded k e .delivered .none status (data.take 16) s
  | some e, .timeout => entryEnded k e .notDelivered .timeout 0 [] s
  | some e, .detached => entryEnded k e .notDelivered .detached 0 [] s
  | some e, .faulted => entryEnded k e .notDelivered .faulted 0 [] s
  | some e, .reset => entryEnded k e .notDelivered .reset 0 [] s
  | some e, .aborted => entryEnded k e .notDelivered .none 0 [] s

/-- `s` after the end `st` of exchange `i` has been reported to the DPC of port `p`: its failure count rises at TIMEOUT and is 0 at
DONE (R40), and a held frame of the exchange is dropped, one being sent belongs to nobody any more. -/
def portTold (p : PortId) (i : RecId) (st : EndStatus) (s : State) : State :=
  let q := s.ports[p]
  withPort p { q with
    failures := (match st with | .done => 0 | .timeout => q.failures + 1 | _ => q.failures), tx := releaseTx i q.tx } s

/-- `s` after the end of a member has been reported to the GU; of an exchange of no group nothing is reported (R67, R96). -/
def groupTold (group : Option Byte) (s : State) : State :=
  match group with | some tag => memberCounted tag s | none => s

/-- `s` after a delivery's end has been reported to the EU, for the position the delivery names (R70, R145). -/
def entryTold (position : Option PosId) (st : EndStatus) (status : Byte) (data : List Byte) (s : State) : State :=
  match position with | some k => deliveryEnded k st status data s | none => s

/-- `s` after the end of exchange `i` on port `p`, which is not ORPHANED (R67): the DPC is told, and then the GU. A delivery's record
is then freed and its entry ends (R70, R145); a workstation exchange is HELD for the hold limit, its UNIT REPLY appended with MEMBER
for a member, and with AFTER_END where GROUP END had been queued before this end was reported (R68, R95). -/
def ended (p : PortId) (i : RecId) (st : EndStatus) (status : Byte) (data : List Byte) (s : State) : State :=
  let r := s.pool[i]
  let b := groupTold r.group (portTold p i st s)
  if r.origin = some .delivery then entryTold r.position st status data { b with pool := s.pool.set i freeExchange }
  else
    let afterEnd : Bool := s.groupRecords.any fun g => decide (r.group = some g.tag) && g.endQueued
    { withPort p { b.ports[p] with outbound := b.ports[p].outbound ++ [endReply i r afterEnd st status data] } b with
      pool := s.pool.set i { r with
        state := .held, endStatus := some st, deviceStatus := status, replyData := data, deadline := none
        hold := some (holdTime s.line.hold) } }

/-- `s` after the ends of the exchanges `l` of port `p`, in that order, with one status and without a reply (R72, R73). -/
def endedAll (p : PortId) (st : EndStatus) (l : List RecId) (s : State) : State :=
  l.foldl (fun t i => ended p i st 0 [] t) s

/-- `s` after the silent end of orphan `i` on port `p`, with the failure count the end leaves: the record is FREE, and nothing else is
told (R40, R76). -/
def orphanEnded (p : PortId) (i : RecId) (failures : Nat) (s : State) : State :=
  { withPort p { s.ports[p] with failures := failures, tx := releaseTx i s.ports[p].tx } s with
    pool := s.pool.set i freeExchange }

/-- A control frame that stays in its queue until it is sent: any but ENTRY PROGRESS (R143). -/
def lasting : ControlFrame → Bool
  | .progress _ _ _ _ _ => false
  | _ => true

/-- `t` is `s` after an evaluation for use of unit `u` (R5, R11, R12, R147): nothing where the unit is usable; otherwise a faulted valid entry
has raised TABLE_FAULT, and where the unit is assigned to a position whose entry is COLLECTING, that entry has ended ABANDONED with
READER_LOST or KEYPAD_LOST. -/
def Evaluated (u : UnitId) (s t : State) : Prop :=
  let e := s.routes[u]
  let faulted := e.valid = true ∧ (e.portsCheck ≠ .good ∨ e.classCheck ≠ .good)
  let collects (k : PosId) (x : Entry) := s.positions[k].entry = some x ∧ x.state = .collecting
  ((∃ p, Serves u p s) → t = s) ∧
    ((∀ p, ¬ Serves u p s) → ∃ b : State,
      (faulted → Raised (.unitFault u) s b) ∧ (¬ faulted → b = s) ∧
      ((∀ (k : PosId) (x : Entry), Assigned s.positions[k] u → ¬ collects k x) → t = b) ∧
      ∀ (k : PosId) (x : Entry), collects k x →
        (s.positions[k].reader = some u → t = entryEnded k x .abandoned .readerLost 0 [] b) ∧
        (s.positions[k].keypad = some u → t = entryEnded k x .abandoned .keypadLost 0 [] b))

/-- `t` is `s` after the re-evaluation of those of the units `l` that a change of port `p` concerns, in their order: the units whose valid
entry names the port, or whom the map names for it (R12). By the laws of R2 and R7 that is the port's owner alone, but where an entry with
an UPSET PORTS section names the port too (log 12). -/
def Reevaluated (p : PortId) : List UnitId → State → State → Prop
  | [], s, t => t = s
  | u :: l, s, t => ∃ b : State,
    let concerned := s.routes[u].valid = true ∧ (NamesPort s.routes[u] p ∨ s.owners[p] = some u)
    (concerned → Evaluated u s b) ∧ (¬ concerned → b = s) ∧ Reevaluated p l b t

/-- `s` with the orphan of port `p` freed, with no report (R73, R76). -/
def orphansFreed (p : PortId) (s : State) : State :=
  { s with pool := Vector.ofFn fun i : RecId =>
      if s.pool[i].port = some p ∧ s.pool[i].state = .orphaned then freeExchange else s.pool[i] }

/-- `s` with NO_CARD at the position whose reader unit the map names for port `p` (R128). -/
def cardsCleared (p : PortId) (s : State) : State :=
  { s with positions := Vector.ofFn fun k : PosId =>
      if s.owners[p] ≠ none ∧ s.positions[k].reader = s.owners[p] then { s.positions[k] with card := .noCard }
      else s.positions[k] }

/-- `t` is the whole of what a departure of port `p` from READY makes of `s`: the port is `moved`, the notice `n` is raised, the exchange in
flight and then those QUEUED end with the status `st`, an orphan freed, the units of the port are re-evaluated, and the card state is
cleared; nothing else changes (R12, R31, R34, R35, R40, R41, R43, R73, R128). The order of the three reports is the model's choice
(log 30). -/
def LeavesReady (p : PortId) (st : EndStatus) (n : Option Notice) (moved : Port) (s t : State) : Prop :=
  let flying := (List.finRange 24).filter fun i =>
    s.pool[i].port = some p ∧ (s.pool[i].state = .sending ∨ s.pool[i].state = .awaiting)
  ∃ a b : State, (∀ m, n = some m → Raised m (withPort p moved s) a) ∧ (n = none → a = withPort p moved s) ∧
    Reevaluated p (List.finRange 24) (endedAll p st (flying ++ s.ports[p].queue) (orphansFreed p a)) b ∧ t = cardsCleared p b

/-- What the departure of a port from READY makes of its outbound list, the group records and the control queue, with `b` the state
after the ends of its exchanges: they are those of `b`, but that an entry in collection may have ended ABANDONED and the departing
request's own reply may follow (R12, R41, R73, R147). That the ends of the exchanges come before the ends of entries in collection is the
model's choice (log 30). -/
structure DepartedWith (p : PortId) (b t : State) : Prop where
  outbound : t.ports[p].outbound = b.ports[p].outbound
  groups : t.groupRecords = b.groupRecords
  control : ∃ l, t.control.filter lasting = b.control.filter lasting ++ l ∧
    ∀ f ∈ l, (∃ k n c, f = .entryEnd k n .abandoned c 0 []) ∨ ∃ tag, f = .reply tag .ok []

/-- `t` is `b`, in which an end has just brought the failure count of port `p` to four, after the port's move to FAULT: the cause is
SILENT_DEVICE, PORT_FAULT is in the notice set, and the exchanges of the queue have ended FAULTED in their order; and the whole of the move
is a departure from READY, its line work stopped, its supply and identity kept (R40, R41, R62, R73). -/
structure SilentFault (p : PortId) (b t : State) : Prop where
  state : t.ports[p].state = .fault
  cause : t.ports[p].cause = .silentDevice
  queue : t.ports[p].queue = []
  notice : Notice.portFault p ∈ t.notices
  ends : DepartedWith p (endedAll p .faulted b.ports[p].queue b) t
  whole : PortsLaw b → LeavesReady p .faulted (some (.portFault p))
    { quiet b.ports[p] with queue := [], state := .fault, cause := .silentDevice, pulse := none, resetLine := false } b t

/-- What a counter restart leaves of `s`, apart from the frames of the control queue and the silence timer (R49, R77, R99, R115,
R134, R151, R167, Table 10.5). -/
structure Restarted (s t : State) : Prop where
  kept : t = { s with
    ports := t.ports, pool := t.pool, positions := t.positions, groupRecords := [], control := controlInFlight s
    reservations := 0, silence := t.silence }
  ports : ∀ p : PortId, t.ports[p] = { s.ports[p] with
    queue := [], lost := 0, tx := t.ports[p].tx
    outbound := if portSending p s then s.ports[p].outbound.take 1 else [] }
  frames : ∀ p : PortId, t.ports[p].tx =
    (match s.ports[p].tx with
      | .holding (.exchange i) b =>
        if s.pool[i].port = some p ∧ (s.pool[i].state = .sending ∨ s.pool[i].state = .awaiting) then .idle
        else .holding (.exchange i) b
      | x => x)
  freed : ∀ i : RecId, s.pool[i].state = .queued ∨ s.pool[i].state = .reserved → t.pool[i] = freeExchange
  held : ∀ i : RecId, s.pool[i].state = .held → t.pool[i] = if replySending i s then s.pool[i] else freeExchange
  flying : ∀ (i : RecId) (p : PortId), s.pool[i].state = .sending ∨ s.pool[i].state = .awaiting →
    s.pool[i].port = some p →
    t.pool[i] = if heldUnstarted i s.ports[p].tx then freeExchange else { s.pool[i] with state := .orphaned }
  rest : ∀ i : RecId, s.pool[i].state = .free ∨ s.pool[i].state = .orphaned → t.pool[i] = s.pool[i]
  sessions : ∀ k : PosId, s.positions[k].state = .session →
    t.positions[k] = lit .steady { s.positions[k] with state := .open, session := 0, entry := none }
  others : ∀ k : PosId, s.positions[k].state ≠ .session → t.positions[k] = s.positions[k]

/-- How far a port lies behind a group's pointer, counting cyclically from the port after it (R162). -/
def behind (ptr : Option PortId) (p : PortId) : Nat :=
  match ptr with
  | none => p.val
  | some q => (p.val + 11 - q.val) % 12

/-- A port of a group whose head frame is a candidate (R161). -/
def Waits (g : Priority) (p : PortId) (s : State) : Prop := s.ports[p].config.group = g ∧ s.ports[p].outbound ≠ []

/-- The LOW group is chosen (R162). -/
def LowChosen (s : State) : Prop :=
  (∃ p, Waits .low p s) ∧ ((∀ p, ¬ Waits .high p s) ∨ (s.line.k ≠ 0 ∧ s.line.k.toNat ≤ s.starvation))

/-- The HIGH group is chosen (R162). -/
def HighChosen (s : State) : Prop := (∃ p, Waits .high p s) ∧ ¬ LowChosen s

/-- The attention indication of a state (R164). -/
def Attends (s : State) (a : Bool) : Prop :=
  a = true ↔ ∃ n ∈ s.notices, s.line.enable.getLsbD (kindPriority (noticeKind n)) = true

/-- A character as R21 and R153 give it: start bit, eight data bits sent least significant bit first, the parity bit where
there is one, which makes the number of one bits in data and parity even, and one stop bit. -/
def character (parity : Bool) (b : Byte) : LineChar :=
  [.start, .data (b.getLsbD 0), .data (b.getLsbD 1), .data (b.getLsbD 2), .data (b.getLsbD 3), .data (b.getLsbD 4),
      .data (b.getLsbD 5), .data (b.getLsbD 6), .data (b.getLsbD 7)] ++
    (if parity then [.parity (decide ((List.range 8).countP (fun i => b.getLsbD i) % 2 = 1))] else []) ++ [.stop]

/-- The check of a run of bytes (R183): a register of 16 bits starts at FFFF hex; each bit of each byte, most significant first, is compared
with its top bit, the register is shifted left by one, and 1021 hex is combined in where the two differed. -/
def frameCheck (bytes : List Byte) : Half :=
  (bytes.flatMap fun b => [7, 6, 5, 4, 3, 2, 1, 0].map fun i => b.getLsbD i).foldl
    (fun r bit => if r.getLsbD 15 = bit then r <<< 1 else (r <<< 1) ^^^ 0x1021) 0xFFFF

/-- A counter frame on WTXD: start mark, length L from kind through the last payload byte, kind, flags, unit, tag, payload, and check with
its high byte first (Table 12.1, R183), in characters without parity (R153). -/
def wire (f : CounterFrame) : List LineChar :=
  let flags := (if f.attention then 1 else 0) + (if f.member then 2 else 0) + (if f.afterEnd then 4 else 0)
  let run : List Byte := byteOf (f.payload.length + 4) :: f.kind :: byteOf flags :: f.unit :: f.tag :: f.payload
  (0xC3 :: run ++ [(frameCheck run).extractLsb' 8 8, (frameCheck run).extractLsb' 0 8]).map (character false)

/-! ### Layouts of the frames the part sends (Tables 12.3, 12.4, 12.6) -/

/-- CONTROL REPLY status (Table 12.4). -/
def statusByte : Status → Byte
  | .ok => 0x00 | .badRequest => 0x01 | .badLength => 0x02 | .badParameter => 0x03 | .noRoute => 0x04 | .tableFault => 0x05
  | .unitUnavailable => 0x06 | .wrongClass => 0x07 | .noExchange => 0x08 | .queueFull => 0x09 | .duplicateTag => 0x0A
  | .limit => 0x0B | .busy => 0x0C | .conflict => 0x0D | .notInSession => 0x0E | .outputFull => 0x0F

/-- End status (Table 12.4). -/
def endStatusByte : EndStatus → Byte
  | .done => 0x00 | .timeout => 0x01 | .detached => 0x02 | .faulted => 0x03 | .aborted => 0x04 | .reset => 0x05

/-- ENTRY END outcome (Table 12.4). -/
def outcomeByte : EntryOutcome → Byte
  | .delivered => 0x00 | .notDelivered => 0x01 | .cancelled => 0x02 | .timedOut => 0x03 | .abandoned => 0x04

/-- ENTRY END cause (Table 12.4). -/
def causeByte : EntryCause → Byte
  | .none => 0x00 | .timeout => 0x01 | .detached => 0x02 | .faulted => 0x03 | .reset => 0x04 | .noCard => 0x05
  | .readerUnavailable => 0x06 | .key => 0x07 | .request => 0x08 | .firstKey => 0x09 | .interKey => 0x0A | .cardRemoved => 0x0B
  | .keypadLost => 0x0C | .readerLost => 0x0D | .sessionClosed => 0x0E

/-- The counter frame of a frame of the control queue: kind, ATTENTION, no other flag, unit, tag, and payload (Tables 12.1, 12.3, 12.6). -/
def controlLayout (attention : Bool) : ControlFrame → CounterFrame
  | .groupEnd g tag outcome expected issued skipped answered =>
    ⟨0x83, attention, false, false, byteOf (25 + g.val), tag,
      [match outcome with | .complete => 0x00 | .short => 0x01, byteOf expected, byteOf issued, byteOf skipped, byteOf answered]⟩
  | .progress k session count short full =>
    ⟨0x84, attention, false, false, 0, 0,
      [byteOf (k.val + 1), session, byteOf count, byteOf ((if short then 1 else 0) + (if full then 2 else 0))]⟩
  | .entryEnd k session outcome cause status data =>
    ⟨0x85, attention, false, false, 0, 0,
      byteOf (k.val + 1) :: session :: outcomeByte outcome :: causeByte cause :: status :: data⟩
  | .reply tag status result => ⟨0x86, attention, false, false, 0, tag, statusByte status :: result⟩
  | .started cause =>
    ⟨0x87, attention, false, false, 0, 0,
      [match cause with | .power => 0x01 | .pin => 0x02 | .requested => 0x03, 0x86, 0x12, 0x01]⟩

/-- The counter frame of a frame of an outbound list: kind, ATTENTION, MEMBER and AFTER_END, unit, tag, and payload (Tables 12.1, 12.3,
12.6). -/
def outLayout (attention : Bool) : OutFrame → CounterFrame
  | .reply _ u tag member afterEnd status deviceStatus data =>
    ⟨0x81, attention, member, afterEnd, byteOf (u.val + 1), tag, endStatusByte status :: deviceStatus :: data⟩
  | .event u session code lostBefore data =>
    ⟨0x82, attention, false, false, byteOf (u.val + 1), 0, session :: code :: lostBefore :: data⟩

/-! ### Layouts of requests (Tables 12.3 and 12.7) -/

/-- A bit of a selection byte. -/
def selected (present : Bool) (weight : Nat) : Nat := if present then weight else 0

/-- The bytes of a field that is present where it is selected. -/
def field {α : Type} (code : α → List Byte) : Option α → List Byte
  | some a => code a
  | none => []

/-- Parameters of SET ROUTE. -/
def routeLayout (u : UnitId) (ports : Option (PortId × Option PortId)) (c : Option ExpectedClass) (forcePorts forceClass : Bool) :
    List Byte :=
  unitAddr u ::
    byteOf (selected ports.isSome 1 + selected c.isSome 2 + selected forcePorts 16 + selected forceClass 32) ::
    field (fun x => [portCode x.1, optPortCode x.2]) ports ++ field (fun x => [expectedCode x]) c

/-- Parameters of SET GROUP. -/
def groupLayout (g : GroupId) (members : Option (List UnitId)) (count : Option Byte) (forceMembers forceCount : Bool) :
    List Byte :=
  groupAddr g ::
    byteOf (selected members.isSome 1 + selected count.isSome 2 + selected forceMembers 16 + selected forceCount 32) ::
    field (fun n => [n]) count ++ field (fun us => byteOf us.length :: us.map unitAddr) members

/-- Parameters of SET PORT. -/
def portLayout (w : PortWrite) : List Byte :=
  portCode w.port ::
    byteOf (selected w.rate.isSome 1 + selected w.charLen.isSome 2 + selected w.duplex.isSome 4 +
      selected w.allowance.isSome 8 + selected w.replyLimit.isSome 16 + selected w.retryLimit.isSome 32 +
      selected w.group.isSome 64 + selected w.power.isSome 128) ::
    (field (fun x => [rateCode x]) w.rate ++ field (fun x => [charLenCode x]) w.charLen ++
      field (fun x => [duplexCode x]) w.duplex ++ field (fun x => [x]) w.allowance ++ field (fun x => [x]) w.replyLimit ++
      field (fun x => [x]) w.retryLimit ++ field (fun x => [priorityCode x]) w.group ++ field (fun x => [boolCode x]) w.power)

/-- Every selected setting of a SET PORT that has a range lies in it (R45). -/
def SettingsFit (w : PortWrite) : Prop :=
  (∀ a : Byte, w.allowance = some a → a.toNat ≤ 250) ∧
    (∀ l : Byte, w.replyLimit = some l → 16 ≤ l.toNat ∧ l.toNat ≤ 64) ∧ ∀ n : Byte, w.retryLimit = some n → n.toNat ≤ 3

/-- A SET PORT is busy: a line setting is selected, and the port has an exchange QUEUED or in flight, or is IDENTIFYING (R45). -/
def SettingsBusy (w : PortWrite) (s : State) : Prop :=
  (w.rate ≠ none ∨ w.charLen ≠ none ∨ w.duplex ≠ none ∨ w.replyLimit ≠ none) ∧
    (s.ports[w.port].queue ≠ [] ∨ (∃ i : RecId, s.pool[i].port = some w.port ∧ isInFlight s.pool[i] = true) ∨
      s.ports[w.port].state = .identifying)

/-- The settings of a port once the selected ones have been stored (R45, R46). -/
def settingsAfter (w : PortWrite) (c : PortConfig) : PortConfig :=
  ⟨w.rate.getD c.rate, w.charLen.getD c.charLen, w.duplex.getD c.duplex, w.allowance.getD c.allowance,
    w.replyLimit.getD c.replyLimit, w.retryLimit.getD c.retryLimit, w.group.getD c.group, w.power.getD c.power⟩

/-- A port that leaves READY by a command `c` with the cause's end status `st`: its notice, the port as it then stands, its line work
stopped and its request queue empty, and the tag of the command's reply. A lost presence and a power OFF clear the identity, an over-current
switches the supply off, a reset asserts DRSTn for 50 ms, and the settings change at a SET PORT of power OFF, alone or with other settings
(R31, R34, R35, R43, R44, R45, R46). -/
def DepartsBy (p : PortId) (s : State) (c : Instr) (st : EndStatus) (n : Option Notice) (moved : Port) (answer : Option Byte) : Prop :=
  let q : Port := { quiet s.ports[p] with queue := [] }
  (c = .presenceLost p ∧ st = .detached ∧ n = some (.portDetached p) ∧ answer = none ∧
    moved = { q with present := false, state := .empty, identity := none }) ∨
  (c = .overCurrent p ∧ st = .faulted ∧ n = some (.portFault p) ∧ answer = none ∧
    moved = { q with state := .fault, cause := .overcurrent, supply := false, pulse := none, resetLine := false }) ∨
  (∃ tag, HasSlot s ∧ c = .resetPort tag [portCode p] ∧ st = .reset ∧ n = none ∧ answer = some tag ∧
    moved = { q with state := .settling, pulse := some 50, resetLine := true }) ∨
  ∃ tag w, HasSlot s ∧ c = .setPort tag (portLayout w) ∧ w.port = p ∧ w.power = some false ∧ SettingsFit w ∧ ¬ SettingsBusy w s ∧
    st = .detached ∧ n = none ∧ answer = some tag ∧
    moved = { q with
      config := settingsAfter w s.ports[p].config, state := .off, supply := false, identity := none, cause := .none
      pulse := none, resetLine := false }

/-- Parameters of SET LINE. -/
def lineLayout (w : LineWrite) : List Byte :=
  byteOf (selected w.hold.isSome 1 + selected w.silence.isSome 2 + selected w.k.isSome 4 + selected w.enable.isSome 8) ::
    (field (fun x => [holdCode x]) w.hold ++ field (fun x => [x]) w.silence ++ field (fun x => [x]) w.k ++
      field (fun x => halfBytes (x.setWidth 16)) w.enable)

/-- The counter frame of a request row: kind, unit field, tag and payload. -/
def requestFrame : Instr → Option (Byte × Byte × Byte × List Byte)
  | .unitRequest unit tag payload => some (0x01, unit, tag, payload)
  | .groupRequest unit tag payload => some (0x02, unit, tag, payload)
  | .dispatchRefusal kind unit tag payload => some (kind, unit, tag, payload)
  | .setRoute tag params => some (0x03, 0, tag, 0x01 :: params)
  | .clearRoute tag params => some (0x03, 0, tag, 0x02 :: params)
  | .readRoute tag params => some (0x03, 0, tag, 0x03 :: params)
  | .setGroup tag params => some (0x03, 0, tag, 0x08 :: params)
  | .readGroup tag params => some (0x03, 0, tag, 0x09 :: params)
  | .setPort tag params => some (0x03, 0, tag, 0x10 :: params)
  | .readPort tag params => some (0x03, 0, tag, 0x11 :: params)
  | .resetPort tag params => some (0x03, 0, tag, 0x12 :: params)
  | .abortPort tag params => some (0x03, 0, tag, 0x13 :: params)
  | .setPass tag params => some (0x03, 0, tag, 0x18 :: params)
  | .setPosition tag params => some (0x03, 0, tag, 0x20 :: params)
  | .openPosition tag params => some (0x03, 0, tag, 0x21 :: params)
  | .closePosition tag params => some (0x03, 0, tag, 0x22 :: params)
  | .openSession tag params => some (0x03, 0, tag, 0x23 :: params)
  | .closeSession tag params => some (0x03, 0, tag, 0x24 :: params)
  | .setSessionLimit tag params => some (0x03, 0, tag, 0x25 :: params)
  | .readPosition tag params => some (0x03, 0, tag, 0x26 :: params)
  | .openEntry tag params => some (0x03, 0, tag, 0x28 :: params)
  | .cancelEntry tag params => some (0x03, 0, tag, 0x29 :: params)
  | .setLine tag params => some (0x03, 0, tag, 0x30 :: params)
  | .readStatus tag params => some (0x03, 0, tag, 0x38 :: params)
  | .readCounters tag params => some (0x03, 0, tag, 0x39 :: params)
  | .takeNotice tag params => some (0x03, 0, tag, 0x3A :: params)
  | .restartTraffic tag params => some (0x03, 0, tag, 0x3F :: params)
  | .restartAll tag => some (0x03, 0, tag, [0x3F, 0x02])
  | .coldReset _ _ _ => none
  | .wreadyAsserted => none
  | .wreadyNegated => none
  | .presenceAsserted _ => none
  | .presenceLost _ => none
  | .overCurrent _ => none
  | .routeStorageUpset _ _ => none
  | .groupStorageUpset _ _ => none
  | .lineFrameReceived _ _ => none
  | .deviceReceiveGapExpiry _ => none
  | .counterFrameReceived _ _ => none
  | .workstationGapExpiry => none
  | .settleTimerExpiry _ => none
  | .identifyDeadlineExpiry _ => none
  | .resetPulseEnd _ => none
  | .deadlineExpiry _ => none
  | .holdTimerExpiry _ => none
  | .silenceTimerExpiry => none
  | .entryTimerExpiry _ => none
  | .lampFlashToggle _ => none
  | .exchangeStart _ => none
  | .deviceFrameStart _ _ => none
  | .deviceFrameEnd _ => none
  | .grant => none
  | .workstationFrameEnd => none
  | .deviceCharacterReceived _ _ => none
  | .workstationCharacterReceived _ _ => none

/-- A management request that is dispatched with a reservation, with its tag and its parameters: every one but a RESTART with
scope ALL (R158, R159). -/
def reservedRequest (i : Instr) : Option (Byte × Byte × List Byte) :=
  match requestFrame i with
  | some (kind, unit, tag, code :: params) =>
    if kind = 0x03 ∧ i.wf = true ∧ refusedAtDispatch kind unit (code :: params) = false ∧ ¬ (code = 0x3F ∧ params = [0x02])
    then some (tag, code, params) else none
  | _ => none

/-- The parameter length of a management request by its code, from its selection or member count as received; none where the
bytes are too few to hold those (R184). -/
def expectedLength (code : Byte) (params : List Byte) : Option Nat :=
  let bit (b : Byte) (i w : Nat) := selected (b.getLsbD i) w
  match code.toNat, params with
  | 0x01, _ :: sel :: _ => some (2 + bit sel 0 2 + bit sel 1 1)
  | 0x08, _ :: sel :: rest =>
    if sel.getLsbD 0 then (rest[bit sel 1 1]?).map fun m => 2 + bit sel 1 1 + 1 + m.toNat
    else some (2 + bit sel 1 1)
  | 0x10, _ :: sel :: _ =>
    some (2 + ((List.range 8).map fun i => bit sel i 1).sum)
  | 0x30, sel :: _ => some (1 + bit sel 0 1 + bit sel 1 1 + bit sel 2 1 + bit sel 3 2)
  | 0x01, _ => none
  | 0x08, _ => none
  | 0x10, _ => none
  | 0x30, _ => none
  | 0x18, _ => some 3
  | 0x20, _ => some 3
  | 0x28, _ => some 6
  | 0x38, _ => some 0
  | 0x39, _ => some 2
  | 0x3A, _ => some 0
  | _, _ => some 1

/-- A byte below the first or above the last value of its range. -/
def outside (first last : Nat) (b : Byte) : Bool := decide (b.toNat < first ∨ last < b.toNat)

/-- A management request whose parameters, of the length its code and selection give, are out of range, by its code: an address, a
port, a position, a limit or a scope outside its range, an empty selection, a force option of a section that is not selected, a code
that Table 12.5 does not define, or a clash of two values. A value that is not selected is not examined, and an unnamed selection bit
is ignored (R15, R19, R20, R43, R45, R47, R72, R89, R90, R114, R117, R118, R125, R137, R149, R165, R173, R180, R184). The checks that
come after a check of the state, of OPEN POSITION and OPEN ENTRY, are not among these. -/
def outOfRange (code : Byte) (params : List Byte) : Bool :=
  let value (n : Nat) (bad : Byte → Bool) : Bool := params[n]?.any bad
  let chosen (n i : Nat) : Bool := params[n]?.any (·.getLsbD i)
  let setting (n i : Nat) (bad : Byte → Bool) : Bool := chosen n i && value (n + 1 + (List.range i).countP (chosen n)) bad
  match code.toNat with
  | 0x01 =>
    value 0 (outside 1 24) || (!chosen 1 0 && !chosen 1 1) || (chosen 1 4 && !chosen 1 0) || (chosen 1 5 && !chosen 1 1) ||
      (chosen 1 0 && (value 2 (outside 0 11) || value 3 (fun b => outside 0 11 b && b != 0xFF) || params[2]? == params[3]?)) ||
      (chosen 1 1 && value (if chosen 1 0 then 4 else 2) (outside 0 2))
  | 0x02 => value 0 (outside 1 24)
  | 0x03 => value 0 (outside 1 24)
  | 0x08 =>
    let members := params.drop (if chosen 1 1 then 4 else 3)
    value 0 (outside 25 31) || (!chosen 1 0 && !chosen 1 1) || (chosen 1 4 && !chosen 1 0) || (chosen 1 5 && !chosen 1 1) ||
      (chosen 1 1 && value 2 (outside 0 24)) || (chosen 1 0 && (members.any (outside 1 24) || !decide members.Nodup))
  | 0x09 => value 0 (outside 25 31)
  | 0x10 =>
    value 0 (outside 0 11) || value 1 (· == 0) || setting 1 0 (outside 0 7) || setting 1 1 (outside 10 11) || setting 1 2 (outside 0 1) ||
      setting 1 3 (outside 0 250) || setting 1 4 (outside 16 64) || setting 1 5 (outside 0 3) || setting 1 6 (outside 0 1) ||
      setting 1 7 (outside 0 1)
  | 0x11 => value 0 (outside 0 11)
  | 0x12 => value 0 (outside 0 11)
  | 0x13 => value 0 (outside 0 11)
  | 0x18 => value 0 (outside 0 11) || value 1 (outside 0 1)
  | 0x20 =>
    value 0 (outside 1 8) || value 1 (outside 0 24) || value 2 (outside 0 24) || (value 1 (· != 0) && params[1]? == params[2]?)
  | 0x21 => value 0 (outside 1 8)
  | 0x22 => value 0 (outside 1 8)
  | 0x23 => value 0 (outside 1 8)
  | 0x24 => value 0 (outside 1 8)
  | 0x25 => value 0 (outside 1 4)
  | 0x26 => value 0 (outside 1 8)
  | 0x28 => value 0 (outside 1 8)
  | 0x29 => value 0 (outside 1 8)
  | 0x30 => setting 0 0 (outside 0 3) || setting 0 1 (outside 0 60) || setting 0 2 (outside 0 15) || setting 0 3 (outside 0 7)
  | 0x39 => value 0 (fun b => outside 0 11 b && b != 0xFF) || value 1 (outside 0 1)
  | 0x3F => value 0 (outside 1 2)
  | _ => false

end Sys2Proof.Machine
end

