-- ==== Sys2Proof/Certificates/Slice0/Obligations.lean ====
section
/-! DEFINITION. The statements for the provers. -/

open Sys2Proof Sys2Proof.Machine

/-! ### The step, resets, and laws that every step keeps -/

/-- A step takes the command at the front of the queue and executes it with the queue's rest; on an empty queue nothing changes
(the queue is the model's own: log 1). -/
def Obligations.StepRunsFrontCommand : Prop :=
  (∀ (c : Instr) (rest : List Instr) (s : State), s.pending = c :: rest → step s = exec c { s with pending := rest }) ∧
    ∀ s : State, s.pending = [] → step s = .next s

/-- The values the spec gives after power-up, and what COLD_RESET and RESTART_ALL restore. A reset leaves everything at those values, but
for the line rate, sampled from the straps or kept; the levels of DPRESn and WREADY, with every port whose presence is asserted SETTLING for
100 ms; the cause in STARTED; and at RESTART_ALL the frame in transmission, finished from the transmitter's own copy. RESTART_ALL needs no
slot and has no reply (Tables 1.2, 2.1, 2.6, 5.1, 7.1, 7.2, 9.1, R48, R52, R91, R115, R153, R159, R168, R172, R181). The input levels
after power-up are the model's choice and are not stated (log 5); that a reset holds them is its choice too (log 25). -/
def Obligations.ResetValues : Prop :=
  (let s := State.reset
   (s.wattn = false ∧ s.wsAsm = .hunting false ∧ s.wsGap = none ∧ s.tx = .idle ∧ s.control = [.started .power] ∧
     s.reservations = 0 ∧ s.highPtr = none ∧ s.lowPtr = none ∧ s.starvation = 0 ∧ s.silence = none ∧
     s.line = ⟨.s2, 0, 4, 0x7FF⟩) ∧
   (∀ u : UnitId, s.routes[u] = ⟨false, 0, none, .good, .any, .good⟩) ∧
   (∀ p : PortId, s.owners[p] = none) ∧
   (∀ p : PortId, s.ports[p].config = ⟨.b9600, .c10, .full, 5, 32, 1, .low, true⟩ ∧ s.ports[p].supply = true ∧
     s.ports[p].resetLine = false ∧ s.ports[p].pulse = none ∧ s.ports[p].cause = .none ∧ s.ports[p].identity = none ∧
     s.ports[p].seq = 0 ∧ s.ports[p].failures = 0 ∧ s.ports[p].identify = none ∧ s.ports[p].asm = .hunting false ∧
     s.ports[p].gap = none ∧ s.ports[p].tx = .idle ∧ s.ports[p].outbound = [] ∧ s.ports[p].queue = [] ∧
     s.ports[p].passSet = 0x1FF ∧ s.ports[p].lost = 0 ∧ s.ports[p].counters = ⟨0, 0, 0, 0, 0, 0, 0, 0, 0, 0⟩) ∧
   (∀ i : RecId, s.pool[i] =
     ⟨.free, none, none, none, none, none, none, 0, [], 0, 0, none, 0, [], none, none⟩) ∧
   (∀ g : GroupId, s.groups[g] = ⟨false, [], .good, 0, .good⟩) ∧ s.groupRecords = [] ∧
   (∀ k : PosId, s.positions[k] = ⟨.closed, none, none, 0, .noCard, none, .off, false⟩) ∧
   s.sessionLimit = 2 ∧ s.nextSession = 1 ∧ s.link = ⟨0, 0, 0, 0, 0⟩ ∧ s.notices = []) ∧
  (∀ (cause : ColdCause) (r1 r0 : Bool) (s : State),
    exec (.coldReset cause r1 r0) s = .next { State.reset with
      lineRate := (match r1, r0 with
        | false, false => .b19200 | false, true => .b57600 | true, false => .b115200 | true, true => .b230400)
      wready := s.wready
      ports := Vector.ofFn fun p : PortId =>
        if s.ports[p].present then
          { State.reset.ports[p] with present := true, state := .settling, settle := some 100 }
        else { State.reset.ports[p] with present := false, state := .empty, settle := none }
      control := [.started (match cause with | .power => .power | .pin => .pin)]
      pending := s.pending
      draws := s.draws }) ∧
  ∀ (cause : ColdCause) (r1 r0 : Bool) (tag : Byte) (s : State), ∃ u : State,
    exec (.coldReset cause r1 r0) s = .next u ∧
    exec (.restartAll tag) s = .next { u with
      lineRate := s.lineRate
      control := [.started .requested]
      tx := (match s.tx with | .idle => .idle | .sending _ f bytes => .sending .copy f bytes) }

/-- The state after power-up obeys the seven laws. -/
def Obligations.ResetObeysLaws : Prop :=
  NoticeLaw State.reset ∧ LampLaw State.reset ∧ PortsLaw State.reset ∧ SlotLaw State.reset ∧ RouteLaw State.reset ∧
    PositionLaw State.reset ∧ PoolLaw State.reset

/-- Every step keeps the notice set ordered without repeats, and WATTN following it (R164, R175, R176). -/
def Obligations.StepKeepsNoticeLaw : Prop :=
  ∀ s t : State, NoticeLaw s → step s = .next t → NoticeLaw t

/-- Every step keeps every lamp at its mode of Table 7.3 (R130, R131). -/
def Obligations.StepKeepsLampLaw : Prop :=
  ∀ s t : State, LampLaw s → step s = .next t → LampLaw t

/-- Every step keeps what Table 2.2, Table 2.6, R21, R22 and R109 say of every port, in a state whose exchange records are each in
one place. -/
def Obligations.StepKeepsPortsLaw : Prop :=
  ∀ s t : State, PortsLaw s → PoolLaw s → step s = .next t → PortsLaw t

/-- Every step keeps the control queue and its reservations within 16 slots, each reservation owed to an open entry or group
record (R91, R92, R157, R158). -/
def Obligations.StepKeepsSlotLaw : Prop :=
  ∀ s t : State, SlotLaw s → step s = .next t → SlotLaw t

/-- Every step keeps the two laws of the route table and the port-owner map (R2, R7). -/
def Obligations.StepKeepsRouteLaw : Prop :=
  ∀ s t : State, RouteLaw s → step s = .next t → RouteLaw t

/-- Every step keeps the laws of the position records (R116, R123, R125, R135). -/
def Obligations.StepKeepsPositionLaw : Prop :=
  ∀ s t : State, PositionLaw s → step s = .next t → PositionLaw t

/-- Every step keeps each exchange record in exactly one place, in a state whose ports agree with their states (R50, R53, R54). -/
def Obligations.StepKeepsPoolLaw : Prop :=
  ∀ s t : State, PoolLaw s → PortsLaw s → step s = .next t → PoolLaw t

/-! ### Pins, upsets and the state of a port -/

/-- A storage upset reaches one section of one entry: a GOOD check becomes UPSET, a FORCED or UPSET one stays, and the valid flag,
the other section, the map and everything else stay (R4, R88). What the section's contents become is the model's choice and is not
stated (log 21). -/
def Obligations.UpsetsReachOneSection : Prop :=
  let after (c : CheckState) : CheckState := match c with | .good => .upset | .forced => .forced | .upset => .upset
  (∀ (u : UnitId) (p : PortId) (q : Option PortId) (s : State), ∃ e : RouteEntry,
    exec (.routeStorageUpset u (.ports p q)) s = .next { s with routes := s.routes.set u e } ∧
    e.valid = s.routes[u].valid ∧ e.expected = s.routes[u].expected ∧ e.classCheck = s.routes[u].classCheck ∧
    e.portsCheck = after s.routes[u].portsCheck) ∧
  (∀ (u : UnitId) (c : ExpectedClass) (s : State), ∃ e : RouteEntry,
    exec (.routeStorageUpset u (.cls c)) s = .next { s with routes := s.routes.set u e } ∧
    e.valid = s.routes[u].valid ∧ e.primary = s.routes[u].primary ∧ e.standby = s.routes[u].standby ∧
    e.portsCheck = s.routes[u].portsCheck ∧ e.classCheck = after s.routes[u].classCheck) ∧
  (∀ (g : GroupId) (us : List UnitId) (s : State), ∃ e : GroupEntry,
    exec (.groupStorageUpset g (.members us)) s = .next { s with groups := s.groups.set g e } ∧
    e.valid = s.groups[g].valid ∧ e.expected = s.groups[g].expected ∧ e.countCheck = s.groups[g].countCheck ∧
    e.membersCheck = after s.groups[g].membersCheck) ∧
  ∀ (g : GroupId) (n : Byte) (s : State), ∃ e : GroupEntry,
    exec (.groupStorageUpset g (.count n)) s = .next { s with groups := s.groups.set g e } ∧
    e.valid = s.groups[g].valid ∧ e.members = s.groups[g].members ∧ e.membersCheck = s.groups[g].membersCheck ∧
    e.countCheck = after s.groups[g].countCheck

/-- Pins of a port outside READY: an assertion of presence moves EMPTY to SETTLING with 100 ms, a drop returns IDENTIFYING, and SETTLING
without a reset pulse, to EMPTY without a notice, and everywhere else only the level is noted; an over-current where the supply is on
puts the port in FAULT with cause OVERCURRENT, its supply off and DRSTn released, its timers stopped and its identity kept, and raises
PORT_FAULT, and where the supply is off none can arise, so the command changes nothing there (log 18) (R32, R33, R34, R35, R42, R44). -/
def Obligations.PinsOutsideReady : Prop :=
  (∀ (p : PortId) (s : State),
     let q := s.ports[p]
     (q.state = .empty → exec (.presenceAsserted p) s =
       .next (withPort p { q with present := true, state := .settling, settle := some 100 } s)) ∧
     (q.state ≠ .empty → exec (.presenceAsserted p) s = .next (withPort p { q with present := true } s)) ∧
     (q.state = .identifying ∨ (q.state = .settling ∧ q.pulse = none) → exec (.presenceLost p) s =
       .next (withPort p { quiet q with present := false, state := .empty, identity := none } s)) ∧
     (q.state = .off ∨ q.state = .empty ∨ q.state = .fault ∨ (q.state = .settling ∧ q.pulse ≠ none) →
       exec (.presenceLost p) s = .next (withPort p { q with present := false } s))) ∧
  ∀ (p : PortId) (s : State),
    let q := s.ports[p]
    (q.state = .empty ∨ q.state = .settling ∨ q.state = .identifying ∨ (q.state = .fault ∧ q.cause ≠ .overcurrent) →
      ∃ t : State, exec (.overCurrent p) s = .next t ∧
        Raised (.portFault p)
          (withPort p { quiet q with
            state := .fault, cause := .overcurrent, supply := false, pulse := none, resetLine := false } s) t) ∧
    (q.state = .off ∨ (q.state = .fault ∧ q.cause = .overcurrent) → exec (.overCurrent p) s = .next s)

/-- A departure from READY by lost presence, over-current, RESET PORT, or a SET PORT of power OFF, alone or with other settings, which are
all stored: the port changes state, its notice is in the set, its request queue is empty, the exchange in flight and every QUEUED one has
ended with the status of Table 3.4 (a workstation exchange HELD, a delivery freed), an orphan is freed, what was HELD stays, its outbound
list keeps its frames at the front, and the records of other ports stay but for those that an entry which the loss ends had RESERVED. The
outbound list, the group records and the control queue are those of the ends in their order, the one in flight first and then the queue
from its head, with the MEMBER and AFTER_END flags and GROUP END so given; every entry whose delivery was on the port has ended
NOT_DELIVERED with the status as cause; and the card state is NO_CARD at the position whose reader unit the map names for the port, and
stays elsewhere. The whole next state is `LeavesReady`: the port as the cause leaves it, with DRSTn asserted for 50 ms at a reset, the
supply off at an over-current, and the identity cleared or kept; the owner re-evaluated, so that TABLE_FAULT is raised where its entry is
faulted, and an entry in collection of its position ends READER_LOST or KEYPAD_LOST where the unit is no longer usable and goes on where
the standby has taken over; and nothing else changed (R5, R12, R31, R34, R35, R41, R43, R44, R45, R46, R70, R73, R95, R96, R128, R145,
R147). That the frames of these ends stand in the control queue before the ENTRY END of an entry in collection which the loss ends is the
model's choice (log 30), and so is that more units than the owner are re-evaluated where an UPSET section names the port (log 12). -/
def Obligations.DepartureEndsExchanges : Prop :=
  ∀ (p : PortId) (s : State) (c : Instr) (st : EndStatus) (n : Option Notice) (moved : Port) (answer : Option Byte),
    PoolLaw s → s.ports[p].state = .ready → DepartsBy p s c st n moved answer →
    ∃ t : State, exec c s = .next t ∧ t.ports[p].state = moved.state ∧ t.ports[p].config = moved.config ∧ t.ports[p].queue = [] ∧
      t.ports[p].tx = .idle ∧
      (∀ m, n = some m → m ∈ t.notices) ∧ (∃ l, t.ports[p].outbound = s.ports[p].outbound ++ l) ∧
      (∀ i : RecId, s.pool[i].port = some p →
        (s.pool[i].state = .queued ∨ s.pool[i].state = .sending ∨ s.pool[i].state = .awaiting →
          (s.pool[i].origin ≠ some .delivery → t.pool[i].state = .held ∧ t.pool[i].endStatus = some st) ∧
          (s.pool[i].origin = some .delivery → t.pool[i] = freeExchange)) ∧
        (s.pool[i].state = .orphaned → t.pool[i] = freeExchange) ∧
        (s.pool[i].state = .held → t.pool[i] = s.pool[i])) ∧
      (∀ i : RecId, s.pool[i].port ≠ some p → s.pool[i].state ≠ .reserved → t.pool[i] = s.pool[i]) ∧
      (PositionLaw s →
        let flying := (List.finRange 24).filter fun i =>
          s.pool[i].port = some p ∧ (s.pool[i].state = .sending ∨ s.pool[i].state = .awaiting)
        let cause : EntryCause := match st with | .detached => .detached | .faulted => .faulted | _ => .reset
        DepartedWith p (endedAll p st (flying ++ s.ports[p].queue) s) t ∧
        (∀ (k : PosId) (e : Entry), s.positions[k].entry = some e → e.state = .delivering → s.pool[e.record].port = some p →
          t.positions[k].entry = none ∧
          ControlFrame.entryEnd k s.positions[k].session .notDelivered cause 0 [] ∈ t.control) ∧
        (∀ k : PosId, t.positions[k].card =
          if s.owners[p] ≠ none ∧ s.positions[k].reader = s.owners[p] then .noCard else s.positions[k].card) ∧
        (PortsLaw s → ∃ x : State, LeavesReady p st n moved s x ∧
          t = match answer with | some tag => answered tag .ok [] x | none => x))

/-- The settle timer's expiry begins the identify with a new seq, the pulse's end releases DRSTn and samples presence, a lamp in FLASH
toggles, and an expiry of what does not run changes nothing. The deadline of an identify attempt expires with the DPC holding no frame:
while attempts remain TIMEOUTS is counted and the same frame with the same seq is handed over again; after the last the port enters
FAULT with cause NO_IDENTITY, its supply on and its identity kept, and PORT_FAULT is raised (R23, R33, R36, R39, R44, R131). -/
def Obligations.PortAndLampTimers : Prop :=
  ((∀ (p : PortId) (s : State),
     let q := s.ports[p]
     let n : Byte := if q.seq = 255 then 1 else q.seq + 1
     (q.state = .settling → q.settle ≠ none → exec (.settleTimerExpiry p) s =
       .next (withPort p { quiet q with
         state := .identifying, seq := n, identify := some ⟨1, n, none, false⟩
         tx := .holding .identify (requestBytes n 0 []) } s)) ∧
     (q.settle = none → exec (.settleTimerExpiry p) s = .next s) ∧
     (q.pulse ≠ none → q.present = true → exec (.resetPulseEnd p) s =
       .next (withPort p { q with pulse := none, resetLine := false, settle := some 100 } s)) ∧
     (q.pulse ≠ none → q.present = false → exec (.resetPulseEnd p) s =
       .next (withPort p { q with pulse := none, resetLine := false, state := .empty, identity := none } s)) ∧
     (q.pulse = none → exec (.resetPulseEnd p) s = .next s)) ∧
   ∀ (k : PosId) (s : State),
     (s.positions[k].lamp = .flash → exec (.lampFlashToggle k) s =
       .next (withPos k { s.positions[k] with lampLit := !s.positions[k].lampLit } s)) ∧
     (s.positions[k].lamp ≠ .flash → exec (.lampFlashToggle k) s = .next s)) ∧
  ∀ (p : PortId) (d : Identify) (ms : Nat) (s : State),
    let q := s.ports[p]
    q.state = .identifying → q.identify = some d → d.deadline = some ms → q.tx = .idle →
    (d.attempt < 1 + q.config.retryLimit.toNat → exec (.identifyDeadlineExpiry p) s =
      .next (withPort p { q with
        identify := some ⟨d.attempt + 1, d.seq, none, false⟩
        tx := .holding .identify (requestBytes d.seq 0 [])
        counters := { q.counters with timeouts := counted q.counters.timeouts } } s)) ∧
    (1 + q.config.retryLimit.toNat ≤ d.attempt → ∃ t : State, exec (.identifyDeadlineExpiry p) s = .next t ∧
      Raised (.portFault p)
        (withPort p { quiet q with state := .fault, cause := .noIdentity, pulse := none, resetLine := false } s) t)

/-! ### Exchanges on a port -/

/-- The head of a request queue starts when the port is READY, nothing of the port is in flight and its DPC holds no frame: it
takes a new seq, attempt 1 and SENDING, and its frame is handed over; otherwise nothing starts (R23, R54, R59). That the start is a
command, without effect elsewhere, is the model's choice (log 27). -/
def Obligations.ExchangeStarts : Prop :=
  ∀ (p : PortId) (s : State),
    let q := s.ports[p]
    let n : Byte := if q.seq = 255 then 1 else q.seq + 1
    let free := q.state = .ready ∧ (∀ i : RecId, s.pool[i].port = some p → isInFlight s.pool[i] = false) ∧ q.tx = .idle
    (∀ (i : RecId) (rest : List RecId), q.queue = i :: rest → free → exec (.exchangeStart p) s =
      .next { withPort p { q with
          queue := rest, seq := n, tx := .holding (.exchange i) (requestBytes n s.pool[i].command s.pool[i].data) } s with
        pool := s.pool.set i { s.pool[i] with seq := n, attempt := 1, state := .sending } }) ∧
    (q.queue = [] ∨ ¬ free → exec (.exchangeStart p) s = .next s)

/-- The first byte of a frame the DPC holds: at once on full duplex, on half duplex once the assembler hunts and the turnaround has
passed; its owner's deadline starts then. The frame goes on the line at the port's rate, each byte as a character of start bit, data bits
from the least significant, even parity bit at C = 11 and none at C = 10, and stop bit, which are C bits; it keeps them to its end. A
frame may wait, and without a frame nothing starts (R21, R22, R29, R36, R46, R59, R80, R84). That
the time since the last character comes with the command is the model's choice (log 6), and so is that the start is one (log 27). -/
def Obligations.DeviceFrameStarts : Prop :=
  ∀ (p : PortId) (ms : Nat) (s : State),
    let q := s.ports[p]
    let may := q.config.duplex = .full ∨ (isHunting q.asm = true ∧ lineMs q.config 2 ≤ ms)
    let half : Bool := decide (q.config.duplex = .half)
    let line (bytes : List Byte) : SentFrame := ⟨q.config.rate, bytes.map (character (decide (q.config.charLen = .c11)))⟩
    (∀ b : Byte, (character (decide (q.config.charLen = .c11)) b).length = charBits q.config.charLen) ∧
    (∀ (i : RecId) (bytes : List Byte), q.tx = .holding (.exchange i) bytes → may → exec (.deviceFrameStart p ms) s =
      .next { withPort p { q with tx := .sending (.exchange i) (line bytes) half false } s with
        pool := s.pool.set i { s.pool[i] with deadline := some (deadlineMs q.config bytes.length) } }) ∧
    (∀ (d : Identify) (bytes : List Byte), q.tx = .holding .identify bytes → q.identify = some d → d.handPending = false →
      may → exec (.deviceFrameStart p ms) s =
      .next (withPort p { q with
        tx := .sending .identify (line bytes) half false
        identify := some { d with deadline := some (deadlineMs q.config bytes.length) } } s)) ∧
    ((∀ o bytes, q.tx ≠ .holding o bytes) ∨ ¬ may → exec (.deviceFrameStart p ms) s = .next s)

/-- The deadline of an attempt is the sum of its terms, 20 where the sum is below 20, and each line time is the least whole number
of milliseconds that is not less than C × n × 1000 ÷ R (R79, R80). -/
def Obligations.DeadlineOfAnAttempt : Prop :=
  (∀ (c : PortConfig) (n m : Nat), lineMs c n ≤ m ↔ charBits c.charLen * n * 1000 ≤ m * baud c.rate) ∧
  ∀ (c : PortConfig) (lq : Nat),
    let h := match c.duplex with | .full => 0 | .half => 2 * lineMs c 2
    let sum := lineMs c lq + 20 * c.allowance.toNat + lineMs c c.replyLimit.toNat + 2 + h
    (sum < 20 → deadlineMs c lq = 20) ∧ (20 ≤ sum → deadlineMs c lq = sum)

/-- The last byte of a device frame: the DPC holds no frame, the record of a SENDING exchange is AWAITING, and a waiting identify
attempt is handed over; with no frame on the line nothing ends, by the model's choice (log 27) (R22, R37, R59, R66, R76). -/
def Obligations.DeviceFrameEnds : Prop :=
  ∀ (p : PortId) (s : State),
    let q := s.ports[p]
    (∀ (i : RecId) (frame : SentFrame) (half talked : Bool), q.tx = .sending (.exchange i) frame half talked →
      q.identify = none →
      (s.pool[i].state = .sending → exec (.deviceFrameEnd p) s =
        .next { withPort p { q with tx := .idle } s with pool := s.pool.set i { s.pool[i] with state := .awaiting } }) ∧
      (s.pool[i].state = .orphaned → exec (.deviceFrameEnd p) s = .next (withPort p { q with tx := .idle } s))) ∧
    (∀ (frame : SentFrame) (half talked : Bool), q.tx = .sending .nobody frame half talked → q.identify = none →
      exec (.deviceFrameEnd p) s = .next (withPort p { q with tx := .idle } s)) ∧
    (∀ (d : Identify) (frame : SentFrame) (half talked : Bool), q.tx = .sending .identify frame half talked →
      q.identify = some d → exec (.deviceFrameEnd p) s =
        .next (withPort p (if d.handPending then
          { q with identify := some { d with handPending := false }, tx := .holding .identify (requestBytes d.seq 0 []) }
          else { q with tx := .idle }) s)) ∧
    ((∀ o frame half talked, q.tx ≠ .sending o frame half talked) → exec (.deviceFrameEnd p) s = .next s)

/-- A deadline expiry of the AWAITING exchange of a port with attempts remaining: TIMEOUTS is counted, the attempt rises by one, and
the same frame with the same seq is handed over again (R60). -/
def Obligations.DeadlineRetries : Prop :=
  ∀ (p : PortId) (i : RecId) (ms : Nat) (s : State), PoolLaw s →
    s.pool[i].port = some p → s.pool[i].state = .awaiting → s.pool[i].deadline = some ms →
    s.pool[i].attempt < 1 + s.ports[p].config.retryLimit.toNat →
    exec (.deadlineExpiry p) s =
      .next { withPort p { s.ports[p] with
          tx := .holding (.exchange i) (requestBytes s.pool[i].seq s.pool[i].command s.pool[i].data)
          counters := { s.ports[p].counters with timeouts := counted s.ports[p].counters.timeouts } } s with
        pool := s.pool.set i { s.pool[i] with attempt := s.pool[i].attempt + 1, state := .sending, deadline := none } }

/-- A deadline expiry on the last attempt of an exchange: it ends TIMEOUT and the failure count rises. A workstation exchange is HELD
with device status 00 and no data, with its flags and the count of its group record as its member end gives them; a delivery is freed and
its entry ends NOT_DELIVERED with cause TIMEOUT. The deadline of an ORPHANED exchange, whatever its attempt, frees the record with no
report, and the count rises too. When the count reaches 4 the port enters FAULT with cause SILENT_DEVICE and raises PORT_FAULT, the
exchange that timed out staying HELD as TIMEOUT or FREE, and the exchanges of its queue end FAULTED in order; the whole next state is a
departure from READY, its owner re-evaluated as in `Obligations.DepartureEndsExchanges` (R5, R12, R40, R41, R61, R62, R70, R73, R76, R95,
R96, R128, R145, R147). That the frames of these ends stand in the control queue before the ENTRY END of an entry in collection which the
fault ends is the model's choice (log 30). -/
def Obligations.LastDeadlineEndsTimeout : Prop :=
  ∀ (p : PortId) (i : RecId) (ms : Nat) (s : State), PoolLaw s →
    s.pool[i].port = some p → s.pool[i].deadline = some ms →
    let run := exec (.deadlineExpiry p) s
    let last := s.pool[i].state = .awaiting ∧ 1 + s.ports[p].config.retryLimit.toNat ≤ s.pool[i].attempt
    (last → s.pool[i].origin = some .workstation → s.pool[i].group = none →
      (s.ports[p].failures < 3 → run = .next (replyHeld p i .timeout 0 [] (s.ports[p].failures + 1) s.ports[p] s)) ∧
      (s.ports[p].failures = 3 → ∃ t : State, run = .next t ∧
        t.ports[p].state = .fault ∧ t.ports[p].cause = .silentDevice ∧ t.ports[p].queue = [] ∧
        Notice.portFault p ∈ t.notices ∧ t.pool[i].state = .held ∧ t.pool[i].endStatus = some .timeout ∧
        ∃ l, t.ports[p].outbound = s.ports[p].outbound ++ endReply i s.pool[i] false .timeout 0 [] :: l)) ∧
    (last → PositionLaw s →
      let b := ended p i .timeout 0 [] s
      (s.ports[p].failures < 3 → run = .next b) ∧
      (s.ports[p].failures = 3 → ∃ t : State, run = .next t ∧ SilentFault p b t ∧
        (s.pool[i].origin ≠ some .delivery → t.pool[i] = b.pool[i]) ∧
        (s.pool[i].origin = some .delivery → t.pool[i] = freeExchange))) ∧
    (s.pool[i].state = .orphaned →
      let b := orphanEnded p i (s.ports[p].failures + 1) s
      (s.ports[p].failures < 3 → run = .next b) ∧
      (s.ports[p].failures = 3 → PositionLaw s → ∃ t : State, run = .next t ∧ SilentFault p b t ∧ t.pool[i] = freeExchange))

/-- A good REPLY received in READY: one with the seq of the exchange in flight on the port ends it and sets the failure count to 0. A
SENDING or AWAITING workstation exchange ends DONE and is HELD with the reply's code and data, with its flags and the count of its group
record as its member end gives them; a delivery is freed and its entry ends DELIVERED with the code as reader status and the first 16
bytes of data; an ORPHANED exchange is freed with no report. A frame of the exchange that is on the line goes on to its end, and a retry's
frame that is held and not started is dropped, which R66 says of half duplex and which is the model's reading on full duplex (log 17). A
reply with another seq, or with nothing in flight, is stray and counted (R27, R40, R63, R64, R66, R67, R68, R70, R76, R95, R96, R145). That
Lr is the one that stands at the last check byte is the model's reading (log 32). -/
def Obligations.RepliesEndOrStray : Prop :=
  ∀ (p : PortId) (seq code : Byte) (data : List Byte) (c : RxChar) (s : State), PoolLaw s →
    s.ports[p].state = .ready → Completes p (lineReply :: seq :: code :: data) c s → seq ≠ 0 →
    data.length + 7 ≤ s.ports[p].config.replyLimit.toNat → s.ports[p].config.replyLimit.toNat ≤ 64 →
    (∀ i : RecId, s.pool[i].port = some p → s.pool[i].state = .sending ∨ s.pool[i].state = .awaiting →
      s.pool[i].origin = some .workstation → s.pool[i].group = none → s.pool[i].seq = seq →
      exec (.lineFrameReceived p c) s =
        .next (replyHeld p i .done code data 0 { s.ports[p] with asm := .hunting false, gap := none } s)) ∧
    (∀ i : RecId, s.pool[i].port = some p → s.pool[i].seq = seq →
      (s.pool[i].state = .sending ∨ s.pool[i].state = .awaiting → PositionLaw s →
        exec (.lineFrameReceived p c) s = .next (ended p i .done code data (sampled p s))) ∧
      (s.pool[i].state = .orphaned → exec (.lineFrameReceived p c) s = .next (orphanEnded p i 0 (sampled p s)))) ∧
    ((∀ i : RecId, s.pool[i].port = some p → isInFlight s.pool[i] = true → s.pool[i].seq ≠ seq) →
      exec (.lineFrameReceived p c) s =
        .next (withPort p { s.ports[p] with
          asm := .hunting false, gap := none
          counters := { s.ports[p].counters with strayReplies := counted s.ports[p].counters.strayReplies } } s))

/-- The hold timer of a HELD record expires: its UNIT REPLY leaves the outbound list, the others keeping their order, the record is
FREE with every field cleared, REPLIES_DISCARDED is counted and REPLY_DISCARDED raised; one that has been granted, its timer
stopped, is not reached (R51, R69, R71). -/
def Obligations.HoldLimitDiscardsReply : Prop :=
  ∀ (i : RecId) (p : PortId) (s : State), s.pool[i].state = .held → s.pool[i].port = some p →
    (∀ ms, s.pool[i].hold = some ms → ∃ t : State, exec (.holdTimerExpiry i) s = .next t ∧
      Raised (.replyDiscarded p)
        { withPort p { s.ports[p] with
            outbound := s.ports[p].outbound.filter (fun f => !isReplyOf i f)
            counters := { s.ports[p].counters with
              repliesDiscarded := counted s.ports[p].counters.repliesDiscarded } } s with
          pool := s.pool.set i freeExchange } t) ∧
    (s.pool[i].hold = none → exec (.holdTimerExpiry i) s = .next s)

/-- A usable IDENTIFY reply moves the port to READY with the device's identity and no failures, and raises PORT_READY, and CLASS_MISMATCH
where the sound entry of the port's owner expects another class, and in no other case. The owner is then re-evaluated: TABLE_FAULT is
raised where its entry is faulted, and where it is not usable the entry in collection of its position ends ABANDONED with READER_LOST or
KEYPAD_LOST; nothing else changes. That more units than the owner are re-evaluated where an UPSET section names the port is the model's
choice (log 12). That Lr is the one that stands at the last check byte is the model's reading (log 32). An unusable one, of another status
than 00, of fewer than five data bytes or of a class byte outside 1-3, is followed by another attempt while attempts remain, its frame with
the same seq handed over at once where the DPC holds none and as soon as it holds none otherwise, without a TIMEOUTS count; on the last
attempt the port enters FAULT with cause NO_IDENTITY and PORT_FAULT is raised. A REPLY with another seq is stray and counted (R5, R12, R37,
R38, R39, R41, R147). -/
def Obligations.IdentifyReplyMakesReady : Prop :=
  ∀ (p : PortId) (d : Identify) (c : RxChar) (s : State), s.ports[p].state = .identifying → s.ports[p].identify = some d →
    (∀ (dc : DeviceClass) (m1 m0 v1 v0 : Byte) (extra : List Byte), d.seq ≠ 0 →
      extra.length + 12 ≤ s.ports[p].config.replyLimit.toNat → s.ports[p].config.replyLimit.toNat ≤ 64 →
      Completes p (lineReply :: d.seq :: 0x00 :: deviceClassCode dc :: m1 :: m0 :: v1 :: v0 :: extra) c s →
      let entered : Port := { s.ports[p] with
        state := .ready, identity := some ⟨dc, m1 ++ m0, v1 ++ v0⟩, failures := 0, identify := none, tx := .idle
        asm := .hunting false, gap := none }
      let sound (u : UnitId) := s.routes[u].portsCheck = .good ∧ s.routes[u].classCheck = .good
      let mismatch := ∃ u : UnitId, s.owners[p] = some u ∧ sound u ∧ ¬ Agrees s.routes[u].expected dc
      ∃ t : State, exec (.lineFrameReceived p c) s = .next t ∧ t.ports[p] = entered ∧
        (∀ r : PortId, r ≠ p → t.ports[r] = s.ports[r]) ∧ Notice.portReady p ∈ t.notices ∧
        (∀ u : UnitId, s.owners[p] = some u → s.routes[u].portsCheck = .good → s.routes[u].classCheck = .good →
          ¬ Agrees s.routes[u].expected dc → Notice.classMismatch p ∈ t.notices) ∧
        (∀ n ∈ s.notices, n ∈ t.notices) ∧
        (∀ r : PortId, Notice.classMismatch r ∈ t.notices ↔ Notice.classMismatch r ∈ s.notices ∨ (r = p ∧ mismatch)) ∧
        (PortsLaw s → PositionLaw s → ∃ x y : State, Raised (.portReady p) (withPort p entered s) x ∧
          (mismatch → Raised (.classMismatch p) x y) ∧ (¬ mismatch → y = x) ∧ Reevaluated p (List.finRange 24) y t)) ∧
    ∀ (seq code : Byte) (data : List Byte), seq ≠ 0 →
      data.length + 7 ≤ s.ports[p].config.replyLimit.toNat → s.ports[p].config.replyLimit.toNat ≤ 64 →
      Completes p (lineReply :: seq :: code :: data) c s →
      let usable := code = 0 ∧ 5 ≤ data.length ∧ (data.head? = some 1 ∨ data.head? = some 2 ∨ data.head? = some 3)
      let q : Port := { s.ports[p] with asm := .hunting false, gap := none }
      let more := d.attempt < 1 + q.config.retryLimit.toNat
      (seq = d.seq → ¬ usable →
        (more → q.tx = .idle → exec (.lineFrameReceived p c) s = .next (withPort p { q with
          identify := some ⟨d.attempt + 1, d.seq, none, false⟩, tx := .holding .identify (requestBytes d.seq 0 []) } s)) ∧
        (more → q.tx ≠ .idle → exec (.lineFrameReceived p c) s = .next (withPort p { q with
          identify := some ⟨d.attempt + 1, d.seq, none, true⟩ } s)) ∧
        (¬ more → ∃ t : State, exec (.lineFrameReceived p c) s = .next t ∧ Raised (.portFault p)
          (withPort p { quiet q with state := .fault, cause := .noIdentity, pulse := none, resetLine := false } s) t)) ∧
      (seq ≠ d.seq → exec (.lineFrameReceived p c) s =
        .next (withPort p { q with
          counters := { q.counters with strayReplies := counted q.counters.strayReplies } } s))

/-! ### Device events and private entry -/

/-- An event on a READY port: without an owner it is dropped NO_UNIT; of an owner whose entry is faulted it is dropped NO_UNIT too,
TABLE_FAULT is raised, and a COLLECTING entry of the position the owner is assigned to ends ABANDONED with READER_LOST or KEYPAD_LOST; of
a unit in no position it is dropped FILTERED outside the pass set, dropped for overrun with eight events waiting (counted, the lost count
up to 255, EVENT_OVERRUN raised), and appended otherwise with session number 0 and the lost count, which returns to 0 (R5, R8, R12, R102,
R108, R109, R110, R112, R147). -/
def Obligations.EventsOfAUnitInNoPosition : Prop :=
  ∀ (p : PortId) (code : Byte) (data : List Byte) (c : RxChar) (s : State), s.ports[p].state = .ready →
    Completes p (lineEvent :: 0 :: code :: data) c s → data.length ≤ 57 →
    let q : Port := { s.ports[p] with asm := .hunting false, gap := none }
    let waiting := q.outbound.countP isEvent
    let passed := q.passSet.getLsbD (classBit (eventClass code data)) = true
    (s.owners[p] = none → exec (.lineFrameReceived p c) s = .next
      (withPort p { q with counters := { q.counters with noUnit := counted q.counters.noUnit } } s)) ∧
    (∀ u : UnitId, s.owners[p] = some u → s.routes[u].valid = true →
      s.routes[u].portsCheck ≠ .good ∨ s.routes[u].classCheck ≠ .good → PositionLaw s →
      let run := exec (.lineFrameReceived p c) s
      ∃ b : State,
        Raised (.unitFault u) (withPort p { q with counters := { q.counters with noUnit := counted q.counters.noUnit } } s) b ∧
        ((∀ (k : PosId) (e : Entry), Assigned s.positions[k] u → s.positions[k].entry = some e → e.state ≠ .collecting) →
          run = .next b) ∧
        ∀ (k : PosId) (e : Entry), s.positions[k].entry = some e → e.state = .collecting →
          (s.positions[k].reader = some u → run = .next (entryEnded k e .abandoned .readerLost 0 [] b)) ∧
          (s.positions[k].keypad = some u → run = .next (entryEnded k e .abandoned .keypadLost 0 [] b))) ∧
    ∀ u : UnitId, s.owners[p] = some u → s.routes[u].portsCheck = .good → s.routes[u].classCheck = .good →
      Unassigned u s →
      (¬ passed → exec (.lineFrameReceived p c) s = .next
        (withPort p { q with counters := { q.counters with filtered := counted q.counters.filtered } } s)) ∧
      (passed → waiting < 8 → exec (.lineFrameReceived p c) s = .next
        (withPort p { q with outbound := q.outbound ++ [.event u 0 code q.lost data], lost := 0 } s)) ∧
      (passed → 8 ≤ waiting → ∃ t : State, exec (.lineFrameReceived p c) s = .next t ∧
        Raised (.eventOverrun p)
          (withPort p { q with
            lost := if q.lost = 255 then 255 else q.lost + 1
            counters := { q.counters with overrunLost := counted q.counters.overrunLost } } s) t)

/-- Events of a unit of a CLOSED position are stopped: a KEY CALL raises CALL and the lamp flashes, every other event is counted
GATED; nothing is appended, and the card state follows the reader all the same (R103, R105, R127, R129). -/
def Obligations.ClosedPositionStopsEvents : Prop :=
  ∀ (p : PortId) (u : UnitId) (k : PosId) (code : Byte) (data : List Byte) (c : RxChar) (s : State),
    LampLaw s → PositionLaw s → s.ports[p].state = .ready → Completes p (lineEvent :: 0 :: code :: data) c s →
    data.length ≤ 57 → s.owners[p] = some u → s.routes[u].portsCheck = .good → s.routes[u].classCheck = .good →
    Assigned s.positions[k] u → s.positions[k].state = .closed →
    ∃ t : State, exec (.lineFrameReceived p c) s = .next t ∧ t.control = s.control ∧ t.pool = s.pool ∧
      (∀ r : PortId, t.ports[r].outbound = s.ports[r].outbound) ∧
      (code = 0x20 ∧ data.head? = some 0x3F →
        (∀ m, m ∈ t.notices ↔ m = .call k ∨ m ∈ s.notices) ∧ t.positions[k].lamp = .flash ∧ t.ports = (sampled p s).ports) ∧
      (¬ (code = 0x20 ∧ data.head? = some 0x3F) →
        t.notices = s.notices ∧ t.ports[p].counters = { s.ports[p].counters with
          gated := counted s.ports[p].counters.gated } ∧
        t.positions[k] = (if s.positions[k].reader = some u ∧ code = 0x10 then { s.positions[k] with card := .cardIn }
          else if s.positions[k].reader = some u ∧ code = 0x11 then { s.positions[k] with card := .noCard }
          else s.positions[k]))

/-- Events of a unit of an OPEN position or of one in SESSION. Card events of the reader unit, their class in the pass set and fewer than
eight events waiting: CARD_DATA is GATED at OPEN and appended with the session number in SESSION; CARD_INSERTED sets CARD_IN, raises
CARD_WAITING at OPEN, and is appended; CARD_REMOVED sets NO_CARD, ends an entry in collection ABANDONED with cause CARD_REMOVED, and is
appended. Every event of either unit that is neither gated so nor a KEY captured by an entry, whatever its code: a card event of the
reader has those effects on card state, entry and notice first, and no other event has any, a KEY CALL and the card events of the keypad
unit included; then it is dropped FILTERED outside the pass set, dropped for overrun with eight events waiting (counted, the lost count
up to 255, EVENT_OVERRUN raised), and appended otherwise, with the lost count and the session number, 0 at OPEN (R103, R104, R105, R106,
R107, R108, R109, R110, R127, R146, R147). -/
def Obligations.CardEventsFollowThePosition : Prop :=
  (∀ (p : PortId) (u : UnitId) (k : PosId) (data : List Byte) (c : RxChar) (s : State), PositionLaw s →
    s.ports[p].state = .ready → data.length ≤ 57 → s.owners[p] = some u →
    s.routes[u].portsCheck = .good → s.routes[u].classCheck = .good → s.positions[k].reader = some u →
    s.positions[k].state ≠ .closed → s.ports[p].outbound.countP isEvent < 8 →
    let q : Port := { s.ports[p] with asm := .hunting false, gap := none }
    let session : Byte := if s.positions[k].state = .session then s.positions[k].session else 0
    let sent (code : Byte) : Port :=
      { q with outbound := q.outbound ++ [.event u session code q.lost data], lost := 0 }
    (Completes p (lineEvent :: 0 :: 0x12 :: data) c s → s.positions[k].state = .open → exec (.lineFrameReceived p c) s =
      .next (withPort p { q with counters := { q.counters with gated := counted q.counters.gated } } s)) ∧
    (Completes p (lineEvent :: 0 :: 0x12 :: data) c s → s.positions[k].state = .session → q.passSet.getLsbD 1 = true →
      exec (.lineFrameReceived p c) s = .next (withPort p (sent 0x12) s)) ∧
    (Completes p (lineEvent :: 0 :: 0x11 :: data) c s → q.passSet.getLsbD 0 = true →
      ((∀ e, s.positions[k].entry = some e → e.state ≠ .collecting) → exec (.lineFrameReceived p c) s =
        .next (withPort p (sent 0x11) (withPos k { s.positions[k] with card := .noCard } s))) ∧
      ∀ e, s.positions[k].entry = some e → e.state = .collecting → exec (.lineFrameReceived p c) s =
        .next (withPort p (sent 0x11)
          (entryEnded k e .abandoned .cardRemoved 0 [] (withPos k { s.positions[k] with card := .noCard } s)))) ∧
    (Completes p (lineEvent :: 0 :: 0x10 :: data) c s → q.passSet.getLsbD 0 = true → s.positions[k].state = .session →
      exec (.lineFrameReceived p c) s =
        .next (withPort p (sent 0x10) (withPos k { s.positions[k] with card := .cardIn } s))) ∧
    (Completes p (lineEvent :: 0 :: 0x10 :: data) c s → q.passSet.getLsbD 0 = true → s.positions[k].state = .open →
      ∃ t : State, exec (.lineFrameReceived p c) s = .next t ∧
        Raised (.cardWaiting k) (withPort p (sent 0x10) (withPos k { s.positions[k] with card := .cardIn } s)) t)) ∧
  ∀ (p : PortId) (u : UnitId) (k : PosId) (code : Byte) (data : List Byte) (c : RxChar) (s : State), PositionLaw s →
    s.ports[p].state = .ready → data.length ≤ 57 → s.owners[p] = some u →
    s.routes[u].portsCheck = .good → s.routes[u].classCheck = .good → Assigned s.positions[k] u →
    s.positions[k].state ≠ .closed → Completes p (lineEvent :: 0 :: code :: data) c s →
    let run := exec (.lineFrameReceived p c) s
    let q : Port := { s.ports[p] with asm := .hunting false, gap := none }
    let reads := s.positions[k].reader = some u
    let gated := code = 0x12 ∧ reads ∧ s.positions[k].state = .open
    let captured := code = 0x20 ∧ s.positions[k].keypad = some u ∧ s.positions[k].entry ≠ none
    let waits := code = 0x10 ∧ reads ∧ s.positions[k].state = .open
    let card (x : CardState) : State := withPos k { s.positions[k] with card := x } s
    let tracked : State :=
      if code = 0x10 ∧ reads then card .cardIn
      else if code = 0x11 ∧ reads then
        match s.positions[k].entry with
        | some e => if e.state = .collecting then entryEnded k e .abandoned .cardRemoved 0 [] (card .noCard) else card .noCard
        | none => card .noCard
      else s
    let session : Byte := if s.positions[k].state = .session then s.positions[k].session else 0
    let waiting := q.outbound.countP isEvent
    let passed := q.passSet.getLsbD (classBit (eventClass code data)) = true
    (gated → run = .next (withPort p { q with counters := { q.counters with gated := counted q.counters.gated } } s)) ∧
    (¬ gated → ¬ captured → ∃ b : State, (waits → Raised (.cardWaiting k) tracked b) ∧ (¬ waits → b = tracked) ∧
      (¬ passed → run = .next
        (withPort p { q with counters := { q.counters with filtered := counted q.counters.filtered } } b)) ∧
      (passed → waiting < 8 → run = .next
        (withPort p { q with outbound := q.outbound ++ [.event u session code q.lost data], lost := 0 } b)) ∧
      (passed → 8 ≤ waiting → ∃ t : State, run = .next t ∧
        Raised (.eventOverrun p)
          (withPort p { q with
            lost := if q.lost = 255 then 255 else q.lost + 1
            counters := { q.counters with overrunLost := counted q.counters.overrunLost } } b) t))

/-- Captured digits stay in the entry: two states that differ only in the keypad port's assembler, with one digit key in the one and
another digit key in the other about to be captured, lead to states that differ only in the digit list of that entry; no outbound list
gains a frame (R104, R136, R140, R143). -/
def Obligations.TypedDigitsStayInTheEntry : Prop :=
  ∀ (p : PortId) (u : UnitId) (k : PosId) (e : Entry) (a b : Byte) (rest : List Byte) (c d : RxChar) (other : Assembler)
    (s : State), PositionLaw s → s.ports[p].state = .ready → s.owners[p] = some u →
    s.routes[u].portsCheck = .good → s.routes[u].classCheck = .good → s.positions[k].keypad = some u →
    s.positions[k].entry = some e → isDigitKey a = true → isDigitKey b = true → rest.length ≤ 56 →
    let s' := withPort p { s.ports[p] with asm := other } s
    Completes p (lineEvent :: 0 :: 0x20 :: a :: rest) c s → Completes p (lineEvent :: 0 :: 0x20 :: b :: rest) d s' →
    ∃ t t' : State, exec (.lineFrameReceived p c) s = .next t ∧ exec (.lineFrameReceived p d) s' = .next t' ∧
      t' = { t with positions := t'.positions } ∧ (∀ r : PortId, t.ports[r].outbound = s.ports[r].outbound) ∧
      (∀ j : PosId, j ≠ k → t'.positions[j] = t.positions[j]) ∧
      { t'.positions[k] with entry := none } = { t.positions[k] with entry := none } ∧
      t'.positions[k].entry.map (fun x => { x with digits := [] }) =
        t.positions[k].entry.map (fun x => { x with digits := [] })

/-- Keys of the keypad unit of a position whose entry is COLLECTING: a digit below max is appended, a digit at max changes no list and
shows FULL, CLEAR empties the list, and an ENTER below min shows SHORT, each with the inter-key timer started and an ENTRY PROGRESS, which
updates the waiting one in place, or takes a free slot, or is skipped and counted PROGRESS_SKIPPED; CANCEL ends the entry CANCELLED with
cause KEY; an unlisted key changes nothing. For an ENTER at or above min see `Obligations.CompleteEnterDelivers`. A KEY event without a
data byte, and every KEY event while the entry is DELIVERING, is handed to the entry and dropped: nothing changes and nothing is sent
upstream (R104, R139, R140, R141, R143, R146). -/
def Obligations.KeysOfACollectingEntry : Prop :=
  (∀ (p : PortId) (u : UnitId) (k : PosId) (e : Entry) (key : Byte) (rest : List Byte) (c : RxChar) (s : State),
    PositionLaw s → s.ports[p].state = .ready → s.owners[p] = some u → s.routes[u].portsCheck = .good →
    s.routes[u].classCheck = .good → s.positions[k].keypad = some u → s.positions[k].entry = some e →
    e.state = .collecting → rest.length ≤ 56 → Completes p (lineEvent :: 0 :: 0x20 :: key :: rest) c s →
    let b := sampled p s
    let progress (f : Entry) (short full : Bool) : State :=
      progressShown k f.count short full (withPos k { s.positions[k] with
        entry := some { f with timing := .interKey, timer := some (e.interKeyLimit * 1000) } } b)
    (isDigitKey key = true → e.digits.length < e.max → exec (.lineFrameReceived p c) s =
      .next (progress { e with digits := e.digits ++ [key], count := e.digits.length + 1 } false false)) ∧
    (isDigitKey key = true → e.max ≤ e.digits.length → exec (.lineFrameReceived p c) s = .next (progress e false true)) ∧
    (key = 0x43 → exec (.lineFrameReceived p c) s = .next (progress { e with digits := [], count := 0 } false false)) ∧
    (key = 0x0D → e.digits.length < e.min → exec (.lineFrameReceived p c) s = .next (progress e true false)) ∧
    (key = 0x58 → exec (.lineFrameReceived p c) s = .next (entryEnded k e .cancelled .key 0 [] b)) ∧
    (isDigitKey key = false → key ≠ 0x43 → key ≠ 0x58 → key ≠ 0x0D → exec (.lineFrameReceived p c) s = .next b)) ∧
  ∀ (p : PortId) (u : UnitId) (k : PosId) (e : Entry) (data : List Byte) (c : RxChar) (s : State),
    PositionLaw s → s.ports[p].state = .ready → s.owners[p] = some u → s.routes[u].portsCheck = .good →
    s.routes[u].classCheck = .good → s.positions[k].keypad = some u → s.positions[k].entry = some e →
    e.state = .delivering ∨ data = [] → data.length ≤ 57 → Completes p (lineEvent :: 0 :: 0x20 :: data) c s →
    exec (.lineFrameReceived p c) s = .next (sampled p s)

/-- A complete ENTER: with NO_CARD the entry ends NOT_DELIVERED with cause NO_CARD; with a card and the reader usable on port `r`
the reserved record becomes a delivery with the digits, QUEUED at the head of that port's queue, and the entry is DELIVERING with an
empty list and its lamp OFF; with a card and the reader not usable, TABLE_FAULT is raised where its entry is faulted, and the entry ends
NOT_DELIVERED with cause READER_UNAVAILABLE, once, and not READER_LOST (R5, R12, R55, R130, R144, R146, R147). -/
def Obligations.CompleteEnterDelivers : Prop :=
  ∀ (p : PortId) (u : UnitId) (k : PosId) (e : Entry) (rest : List Byte) (c : RxChar) (s : State),
    PositionLaw s → s.ports[p].state = .ready → s.owners[p] = some u → s.routes[u].portsCheck = .good →
    s.routes[u].classCheck = .good → s.positions[k].keypad = some u → s.positions[k].entry = some e →
    e.state = .collecting → e.min ≤ e.digits.length → rest.length ≤ 56 →
    Completes p (lineEvent :: 0 :: 0x20 :: 0x0D :: rest) c s →
    let b := sampled p s
    (s.positions[k].card = .noCard →
      exec (.lineFrameReceived p c) s = .next (entryEnded k e .notDelivered .noCard 0 [] b)) ∧
    (∀ v : UnitId, s.positions[k].card = .cardIn → s.positions[k].reader = some v → (∀ r, ¬ Serves v r b) → PortsLaw s →
      let faulted := s.routes[v].valid = true ∧ (s.routes[v].portsCheck ≠ .good ∨ s.routes[v].classCheck ≠ .good)
      ∃ x : State, (faulted → Raised (.unitFault v) b x) ∧ (¬ faulted → x = b) ∧
        exec (.lineFrameReceived p c) s = .next (entryEnded k e .notDelivered .readerUnavailable 0 [] x)) ∧
    ∀ (v : UnitId) (r : PortId), s.positions[k].card = .cardIn → s.positions[k].reader = some v → Serves v r b →
      exec (.lineFrameReceived p c) s =
        .next { withPort r { b.ports[r] with queue := e.record :: b.ports[r].queue }
            (withPos k (lit .off { s.positions[k] with
              entry := some { e with state := .delivering, digits := [], count := e.digits.length, timer := none } }) b) with
          pool := s.pool.set e.record { freeExchange with
            state := .queued, origin := some .delivery, unit := some v, port := some r, position := some k
            command := e.command, data := e.digits } }

/-- The running timer of a COLLECTING entry expires: the entry ends TIMED_OUT with the cause of its timing; with no entry, or one that is
DELIVERING, nothing changes. CANCEL ENTRY: NOT_IN_SESSION outside SESSION; "no entry" without one; a COLLECTING entry ends CANCELLED with
cause REQUEST, its ENTRY END ahead of the reply, which gives the opening tag; so does a DELIVERING one whose delivery is QUEUED, which
leaves its port's queue and is freed; one whose delivery is SENDING or AWAITING is refused BUSY (R75, R142, R146, R149). An opening tag may
be 0 by the model's reading (log 33). -/
def Obligations.EntriesEndUndelivered : Prop :=
  (∀ (k : PosId) (s : State),
     (∀ (e : Entry) (ms : Nat), s.positions[k].state = .session → s.positions[k].entry = some e →
       e.state = .collecting → e.timer = some ms →
       exec (.entryTimerExpiry k) s = .next (entryEnded k e .timedOut
         (match e.timing with | .firstKey => .firstKey | .interKey => .interKey) 0 [] s)) ∧
     (s.positions[k].entry = none → exec (.entryTimerExpiry k) s = .next s) ∧
     (∀ e : Entry, s.positions[k].entry = some e → e.state = .delivering → exec (.entryTimerExpiry k) s = .next s)) ∧
  ∀ (k : PosId) (tag : Byte) (s : State), HasSlot s →
    let q := s.positions[k]
    let run := exec (.cancelEntry tag [posAddr k]) s
    (q.state ≠ .session → run = .next (answered tag .notInSession [] s)) ∧
    (q.state = .session → q.entry = none → run = .next (answered tag .ok [0, 0] s)) ∧
    ∀ e : Entry, q.state = .session → q.entry = some e →
      (e.state = .collecting → 1 ≤ s.reservations →
        run = .next (answered tag .ok [1, e.tag] (entryEnded k e .cancelled .request 0 [] s))) ∧
      (∀ p : PortId, e.state = .delivering → s.pool[e.record].state = .queued → s.pool[e.record].port = some p →
        1 ≤ s.reservations →
        run = .next (answered tag .ok [1, e.tag] (entryEnded k e .cancelled .request 0 [] (withdrawn p e.record s)))) ∧
      (e.state = .delivering → s.pool[e.record].state = .sending ∨ s.pool[e.record].state = .awaiting →
        run = .next (answered tag .busy [] s))

/-! ### Received characters -/

/-- A character received while an assembler hunts: the start mark without an error begins a frame and its gap timer; any other byte is
discarded, and the first of a run is counted; on a device port that is sending half duplex it is lost as talk-over, counted once for
the frame; a port outside IDENTIFYING and READY samples nothing. During a frame a character error, and a length byte outside its range,
abandon it and count it once; any other byte before the last check byte joins it and starts the gap timer afresh. A complete line frame
is counted LINE_ERRORS and has no other effect where its check differs, its kind is neither REPLY nor EVENT, its seq is 0 in a REPLY or
not in an EVENT, its size is above Lr or 64, or it is an EVENT while IDENTIFYING. A gap timer that expires during a frame abandons the
frame and counts it once; an expiry of a gap timer that does not run changes nothing (R24, R25, R26, R27, R28, R30, R83, R154, R183).
Which of the assembler's two hunting conditions each case leaves is the model's reading (log 15), and so is that a frame in assembly while
Lr changes is tested against the Lr that stands at its last check byte (log 32). -/
def Obligations.CharactersAndGapExpiries : Prop :=
  ((∀ (p : PortId) (c : RxChar) (run : Bool) (s : State),
     let q := s.ports[p]
     let on := q.state = .identifying ∨ q.state = .ready
     let listens := ∀ o b talked, q.tx ≠ .sending o b true talked
     (on → listens → q.asm = .hunting run → c.data = 0x3C → charError q.config.charLen c = false →
       exec (.deviceCharacterReceived p c) s =
         .next (withPort p { q with asm := .collecting [0x3C], gap := some (max 2 (lineMs q.config 3)) } s)) ∧
     (on → listens → q.asm = .hunting run → c.data ≠ 0x3C ∨ charError q.config.charLen c = true →
       exec (.deviceCharacterReceived p c) s =
         .next (withPort p { q with
           asm := .hunting true, gap := none
           counters := { q.counters with
             lineErrors := if run then q.counters.lineErrors else counted q.counters.lineErrors } } s)) ∧
     (∀ (n : Byte) (rest : List Byte), on → listens →
       let lost := .next (withPort p { q with
         asm := .hunting true, gap := none
         counters := { q.counters with lineErrors := counted q.counters.lineErrors } } s)
       let joined (bytes : List Byte) :=
         .next (withPort p { q with asm := .collecting bytes, gap := some (max 2 (lineMs q.config 3)) } s)
       (∀ bytes, q.asm = .collecting bytes → charError q.config.charLen c = true →
         exec (.deviceCharacterReceived p c) s = lost) ∧
       (q.asm = .collecting [0x3C] → charError q.config.charLen c = false →
         (c.data.toNat < 3 ∨ 253 < c.data.toNat → exec (.deviceCharacterReceived p c) s = lost) ∧
         (3 ≤ c.data.toNat → c.data.toNat ≤ 253 → exec (.deviceCharacterReceived p c) s = joined [0x3C, c.data])) ∧
       (q.asm = .collecting (0x3C :: n :: rest) → charError q.config.charLen c = false → 3 ≤ n.toNat → n.toNat ≤ 253 →
         rest.length + 1 < n.toNat + 2 →
         exec (.deviceCharacterReceived p c) s = joined (0x3C :: n :: rest ++ [c.data]))) ∧
     (∀ (n kind seq code hi : Byte) (data : List Byte), on → listens → charError q.config.charLen c = false →
       n.toNat = data.length + 3 → n.toNat ≤ 253 →
       q.asm = .collecting (0x3C :: n :: kind :: seq :: code :: data ++ [hi]) →
       let good := checkOf (n :: kind :: seq :: code :: data) = hi ++ c.data ∧
         ((kind = 0x02 ∧ seq ≠ 0 ∧ n.toNat + 4 ≤ q.config.replyLimit.toNat) ∨
           (kind = 0x03 ∧ seq = 0 ∧ n.toNat + 4 ≤ 64 ∧ q.state = .ready))
       ¬ good → exec (.lineFrameReceived p c) s = .next (withPort p { q with
         asm := .hunting false, gap := none
         counters := { q.counters with lineErrors := counted q.counters.lineErrors } } s)) ∧
     (∀ o b, on → q.tx = .sending o b true false → exec (.deviceCharacterReceived p c) s =
       .next (withPort p { q with
         tx := .sending o b true true, asm := .hunting false, gap := none
         counters := { q.counters with talkOver := counted q.counters.talkOver } } s)) ∧
     (∀ o b, on → q.tx = .sending o b true true → exec (.deviceCharacterReceived p c) s = .next s) ∧
     (¬ on → exec (.deviceCharacterReceived p c) s = .next s)) ∧
   ∀ (b : Byte) (stop run : Bool) (s : State), s.wsAsm = .hunting run →
     (b = 0xC3 → stop = true → exec (.workstationCharacterReceived b stop) s =
       .next { s with wsAsm := .collecting [0xC3], wsGap := some 50 }) ∧
     (b ≠ 0xC3 ∨ stop = false → exec (.workstationCharacterReceived b stop) s =
       .next { s with
         wsAsm := .hunting true, wsGap := none
         link := { s.link with rxFormatErrors := if run then s.link.rxFormatErrors else counted s.link.rxFormatErrors } })) ∧
  (∀ (b n : Byte) (stop : Bool) (rest : List Byte) (s : State),
     let lost := .next { s with
       wsAsm := .hunting true, wsGap := none
       link := { s.link with rxFormatErrors := counted s.link.rxFormatErrors } }
     let run := exec (.workstationCharacterReceived b stop) s
     (∀ bytes, s.wsAsm = .collecting bytes → stop = false → run = lost) ∧
     (s.wsAsm = .collecting [0xC3] → stop = true →
       (b.toNat < 4 → run = lost) ∧
       (4 ≤ b.toNat → run = .next { s with wsAsm := .collecting [0xC3, b], wsGap := some 50 })) ∧
     (s.wsAsm = .collecting (0xC3 :: n :: rest) → stop = true → 4 ≤ n.toNat → rest.length + 1 < n.toNat + 2 →
       run = .next { s with wsAsm := .collecting (0xC3 :: n :: rest ++ [b]), wsGap := some 50 })) ∧
  (∀ (p : PortId) (s : State),
    let q := s.ports[p]
    (q.gap ≠ none → exec (.deviceReceiveGapExpiry p) s = .next (withPort p { q with
      asm := .hunting true, gap := none
      counters := { q.counters with lineErrors := counted q.counters.lineErrors } } s)) ∧
    (q.gap = none → exec (.deviceReceiveGapExpiry p) s = .next s)) ∧
  ∀ s : State,
    (s.wsGap ≠ none → exec .workstationGapExpiry s = .next { s with
      wsAsm := .hunting true, wsGap := none
      link := { s.link with rxFormatErrors := counted s.link.rxFormatErrors } }) ∧
    (s.wsGap = none → exec .workstationGapExpiry s = .next s)

/-- The last check byte of a counter frame with a good check, whatever its flags byte: RX_FRAMES_GOOD is counted and the command the
frame carries runs (R154, R155, R156, R183, Tables 12.1, 12.3, 12.7). That a request row is that frame after its check is the model's
reading (log 3). -/
def Obligations.CounterFramesRunTheirCommand : Prop :=
  ∀ (i : Instr) (kind unit tag flags c : Byte) (payload : List Byte) (s : State),
    requestFrame i = some (kind, unit, tag, payload) → i.wf = true →
    s.wsAsm = .collecting (frameBytes 0xC3 (kind :: flags :: unit :: tag :: payload)).dropLast →
    (frameBytes 0xC3 (kind :: flags :: unit :: tag :: payload)).getLast? = some c →
    ∃ t : State, exec (.counterFrameReceived c true) s = .next t ∧ exec i { s with
      wsAsm := .hunting false, wsGap := none
      link := { s.link with rxFramesGood := counted s.link.rxFramesGood } } = .next t

/-- A complete counter frame whose check bytes are not its check is discarded: RX_CHECK_ERRORS is counted, LINK_ERROR is raised, and
nothing is dispatched (R155, R183). -/
def Obligations.BadChecksRaiseLinkError : Prop :=
  ∀ (length hi lo : Byte) (body : List Byte) (s : State), 4 ≤ length.toNat → body.length = length.toNat →
    s.wsAsm = .collecting (0xC3 :: length :: body ++ [hi]) → checkOf (length :: body) ≠ hi ++ lo →
    ∃ t : State, exec (.counterFrameReceived lo true) s = .next t ∧
      Raised .linkError { s with
        wsAsm := .hunting false, wsGap := none
        link := { s.link with rxCheckErrors := counted s.link.rxCheckErrors } } t

/-! ### The workstation transmitter -/

/-- WREADY_ASSERTED and WREADY_NEGATED set the level and change nothing else. A grant needs an idle transmitter, WREADY and a candidate; the
head of the control queue is granted first, with ATTENTION as it stands, and changes neither pointer nor the starvation count. It goes out
with the kind, unit, tag, flags and payload that Tables 12.1, 12.3, 12.4 and 12.6 give each kind, its length and its check (R160, R161,
R164, R183, R185). That a STARTED granted after a notice was raised carries ATTENTION is the model's reading (log 31). -/
def Obligations.GrantServesControlFirst : Prop :=
  (∀ s : State, exec .wreadyAsserted s = .next { s with wready := true } ∧
     exec .wreadyNegated s = .next { s with wready := false }) ∧
  ∀ s : State,
    (s.tx ≠ .idle ∨ s.wready = false ∨ (s.control = [] ∧ ∀ p : PortId, s.ports[p].outbound = []) →
      exec .grant s = .next s) ∧
    ∀ (f : ControlFrame) (rest : List ControlFrame) (a : Bool), s.tx = .idle → s.wready = true → s.control = f :: rest →
      Attends s a →
      exec .grant s = .next { s with tx := .sending .control (controlLayout a f) (wire (controlLayout a f)) }

/-- A port grant: with the control queue empty, the group is chosen by the starvation count and the port by the group's pointer; the
pointer names the port, a LOW grant clears the count, a HIGH grant past a waiting LOW port raises it where K is not 0, and the hold
timer of a granted UNIT REPLY stops. The UNIT REPLY or UNIT EVENT goes out with the kind, unit, tag, flags and payload that Tables 12.1,
12.3, 12.4 and 12.6 give it, its length and its check (R69, R161, R162, R164, R183, R185). -/
def Obligations.GrantTakesPortsInTurn : Prop :=
  ∀ (g : Priority) (p : PortId) (f : OutFrame) (rest : List OutFrame) (a : Bool) (s : State),
    s.tx = .idle → s.wready = true → s.control = [] → s.ports[p].outbound = f :: rest → Attends s a →
    (match g with | .high => HighChosen s | .low => LowChosen s) → Waits g p s →
    (∀ r : PortId, Waits g r s →
      behind (match g with | .high => s.highPtr | .low => s.lowPtr) p ≤
        behind (match g with | .high => s.highPtr | .low => s.lowPtr) r) →
    exec .grant s = .next { s with
      tx := .sending (.port p) (outLayout a f) (wire (outLayout a f))
      highPtr := (match g with | .high => some p | .low => s.highPtr)
      lowPtr := (match g with | .high => s.lowPtr | .low => some p)
      starvation := (match g with
        | .low => 0
        | .high => if s.line.k ≠ 0 ∧ s.ports.toList.any (fun q => q.config.group = .low ∧ q.outbound ≠ []) then
            s.starvation + 1 else s.starvation)
      pool := (match f with
        | .reply i _ _ _ _ _ _ _ => s.pool.set i { s.pool[i] with hold := none }
        | .event _ _ _ _ _ => s.pool) }

/-- The last byte of a granted frame: a control frame leaves the queue, a UNIT REPLY its list with its record freed, a UNIT EVENT its
list with FORWARDED_EVENTS counted; a copy leaves none; and the transmitter is idle (R69, R111, R160, R163, R168). That the command
changes nothing while the transmitter is idle is the model's choice (log 27, log 18). -/
def Obligations.FrameEndsFreeTheirSource : Prop :=
  ∀ (fr : CounterFrame) (bytes : List LineChar) (s : State),
    (∀ f rest, s.tx = .sending .control fr bytes → s.control = f :: rest →
      exec .workstationFrameEnd s = .next { s with tx := .idle, control := rest }) ∧
    (∀ (p : PortId) (i : RecId) (u : UnitId) (tag : Byte) (m a : Bool) (st : EndStatus) (ds : Byte) (d : List Byte)
      (rest : List OutFrame), s.tx = .sending (.port p) fr bytes →
      s.ports[p].outbound = .reply i u tag m a st ds d :: rest →
      exec .workstationFrameEnd s = .next { withPort p { s.ports[p] with outbound := rest } s with
        tx := .idle, pool := s.pool.set i freeExchange }) ∧
    (∀ (p : PortId) (u : UnitId) (n code lost : Byte) (d : List Byte) (rest : List OutFrame),
      s.tx = .sending (.port p) fr bytes → s.ports[p].outbound = .event u n code lost d :: rest →
      exec .workstationFrameEnd s = .next { withPort p { s.ports[p] with
          outbound := rest
          counters := { s.ports[p].counters with
            forwardedEvents := counted s.ports[p].counters.forwardedEvents } } s with tx := .idle }) ∧
    (s.tx = .sending .copy fr bytes → exec .workstationFrameEnd s = .next { s with tx := .idle }) ∧
    (s.tx = .idle → exec .workstationFrameEnd s = .next s)

/-! ### Unit requests, group requests and evaluations -/

/-- A UNIT REQUEST for a unit served by port `p`, its tag free, its command not 00, with a FREE record and fewer than four WORKSTATION
exchanges QUEUED on `p`: a FREE record is filled and QUEUED at the tail of that port's queue, and no frame is produced, whatever the
control queue holds (R56, R57, R159, R166). -/
def Obligations.UnitRequestsAreQueued : Prop :=
  ∀ (u : UnitId) (p : PortId) (tag command : Byte) (data : List Byte) (s : State), tag ≠ 0 → command ≠ 0 → TagFree tag s →
    Serves u p s → (∃ i : RecId, s.pool[i].state = .free) → queuedWorkstation p s < 4 →
    ∃ i : RecId, s.pool[i].state = .free ∧
      exec (.unitRequest (unitAddr u) tag (command :: data)) s =
        .next { withPort p { s.ports[p] with queue := s.ports[p].queue ++ [i] } s with
          pool := s.pool.set i
            ⟨.queued, some .workstation, some tag, some u, some p, none, none, command, data, 0, 0, none, 0, [], none, none⟩
          silence := freshSilence s }

/-- The ordered refusals of a UNIT REQUEST: the first check that fails gives the status, and nothing else changes but what the usable-unit
test itself does, which is `evaluate`. The ordered refusals of a GROUP REQUEST: TABLE_FAULT raises its notice; the three checks after the
tests of the members, taken once each in ascending order, leave the effects of those tests, on which they count the FREE records, the
QUEUED exchanges and the slots; and OUTPUT_FULL, which finds no slot for itself, is discarded and counted CONTROL_OVERFLOW. A frame the
WLU itself refuses: BAD_LENGTH for a management request without a code, BAD_REQUEST for one whose unit field is not 0 or whose code is not
listed, and for any other kind (R5, R12, R56, R58, R88, R93, R156, R159, R166, Table 9.2). -/
def Obligations.RequestsAreRefused : Prop :=
  (∀ (unit tag : Byte) (s : State),
     exec (.unitRequest unit tag []) s = .next (refused tag .badLength s) ∧
     ∀ (command : Byte) (data : List Byte),
       let run := exec (.unitRequest unit tag (command :: data)) s
       (tag = 0 → run = .next (refused tag .badParameter s)) ∧
       (tag ≠ 0 → ¬ TagFree tag s → run = .next (refused tag .duplicateTag s)) ∧
       (tag ≠ 0 → TagFree tag s →
         (unit.toNat = 0 ∨ 24 < unit.toNat → run = .next (refused tag .noRoute s)) ∧
         ∀ u : UnitId, unit = unitAddr u →
           let e := s.routes[u]
           let sound := e.valid = true ∧ e.portsCheck = .good ∧ e.classCheck = .good
           (e.valid = false → run = .next (refused tag .noRoute (evaluate u s))) ∧
           (e.valid = true → ¬ sound → run = .next (refused tag .tableFault (evaluate u s))) ∧
           (sound → (∀ p, ¬ Active e p s) → run = .next (refused tag .unitUnavailable (evaluate u s))) ∧
           ∀ (p : PortId) (d : Identity), sound → Active e p s → s.ports[p].identity = some d →
             (¬ Agrees e.expected d.cls → run = .next (refused tag .wrongClass (evaluate u s))) ∧
             (Agrees e.expected d.cls →
               (command = 0 → run = .next (refused tag .badParameter s)) ∧
               (command ≠ 0 → (∀ i : RecId, s.pool[i].state ≠ .free) → run = .next (refused tag .noExchange s)) ∧
               (command ≠ 0 → (∃ i : RecId, s.pool[i].state = .free) → 4 ≤ queuedWorkstation p s →
                 run = .next (refused tag .queueFull s))))) ∧
  (∀ (unit tag : Byte) (s : State),
     exec (.groupRequest unit tag []) s = .next (refused tag .badLength s) ∧
     ∀ (command : Byte) (data : List Byte),
       let run := exec (.groupRequest unit tag (command :: data)) s
       (tag = 0 ∨ command = 0 → run = .next (refused tag .badParameter s)) ∧
       (tag ≠ 0 → command ≠ 0 → ¬ TagFree tag s → run = .next (refused tag .duplicateTag s)) ∧
       (tag ≠ 0 → command ≠ 0 → TagFree tag s →
         (unit.toNat < 25 ∨ 31 < unit.toNat → run = .next (refused tag .noRoute s)) ∧
         ∀ g : GroupId, unit = groupAddr g →
           let e := s.groups[g]
           let sound := e.valid = true ∧ e.membersCheck = .good ∧ e.countCheck = .good
           let tested : State := ((List.finRange 24).filter fun u => u ∈ e.members).foldl (fun t u => evaluate u t) s
           (e.valid = false → run = .next (refused tag .noRoute s)) ∧
           (e.valid = true → ¬ sound → ∃ t : State, Raised (.groupFault g) s t ∧ run = .next (refused tag .tableFault t)) ∧
           (sound → 4 ≤ s.groupRecords.length → run = .next (refused tag .limit s)) ∧
           ∀ usable : List (UnitId × PortId), sound → s.groupRecords.length < 4 → PortsLaw s →
             (usable.map Prod.fst).Nodup → (∀ u p, (u, p) ∈ usable ↔ u ∈ e.members ∧ Serves u p s) →
             let records := tested.pool.toList.countP fun r => r.state = .free
             let full := ∃ m ∈ usable, 4 ≤ queuedWorkstation m.2 tested
             (usable = [] → run = .next (refused tag .unitUnavailable tested)) ∧
             (usable ≠ [] → records < usable.length → run = .next (refused tag .noExchange tested)) ∧
             (usable ≠ [] → usable.length ≤ records → full → run = .next (refused tag .queueFull tested)) ∧
             (usable ≠ [] → usable.length ≤ records → ¬ full → ¬ HasSlot tested → run = .next (discarded tested)))) ∧
  ∀ (kind unit tag : Byte) (payload : List Byte) (s : State), kind ≠ 0x01 → kind ≠ 0x02 →
    (kind = 0x03 → payload = [] → exec (.dispatchRefusal kind unit tag payload) s = .next (refused tag .badLength s)) ∧
    (kind ≠ 0x03 → exec (.dispatchRefusal kind unit tag payload) s = .next (refused tag .badRequest s)) ∧
    ∀ (code : Byte) (params : List Byte), kind = 0x03 → payload = code :: params → unit ≠ 0 ∨ code ∉ managementCodes →
      exec (.dispatchRefusal kind unit tag payload) s = .next (refused tag .badRequest s)

/-- What an evaluation for use does, where READY ports hold identities: nothing where the unit is usable; a faulted valid entry raises
TABLE_FAULT; and where the unit is assigned to a position whose entry is COLLECTING, every other outcome than USABLE ends that entry
ABANDONED with READER_LOST or KEYPAD_LOST (R5, R11, R12, R147). -/
def Obligations.EvaluationsReportUnusableUnits : Prop :=
  ∀ (u : UnitId) (s : State), PositionLaw s → (∀ p, Active s.routes[u] p s → s.ports[p].identity ≠ none) →
    Evaluated u s (evaluate u s)

/-- A GROUP REQUEST that passes its checks in a legal state, the last three on the state `tested` that the tests of the members leave: a
group record opens with the expected count, the members issued and those skipped; every usable member has an exchange QUEUED at the tail of
its port's queue with the request's tag, command and data, in a record of its own that was FREE; with an expected count of 0 GROUP END
COMPLETE is placed at once, and otherwise nothing is placed for it and exactly one slot is reserved. Every other record and queue, and
everything else but the silence timer, is as the tests leave it (R93, R94, R96, R166). Which FREE records are taken is not stated. -/
def Obligations.GroupRequestsIssueMembers : Prop :=
  ∀ (g : GroupId) (tag command : Byte) (data : List Byte) (issued : List (UnitId × PortId)) (s : State), RouteLaw s →
    PortsLaw s → SlotLaw s → PoolLaw s → PositionLaw s →
    let e := s.groups[g]
    let tested : State := ((List.finRange 24).filter fun u => u ∈ e.members).foldl (fun t u => evaluate u t) s
    let skipped := e.members.length - issued.length
    tag ≠ 0 → command ≠ 0 → TagFree tag s → e.valid = true → e.membersCheck = .good → e.countCheck = .good →
    e.members.Nodup →
    s.groupRecords.length < 4 → issued ≠ [] → (issued.map Prod.fst).Nodup →
    (∀ u p, (u, p) ∈ issued ↔ u ∈ e.members ∧ Serves u p s) →
    issued.length ≤ tested.pool.toList.countP (fun r => r.state = .free) →
    (∀ m ∈ issued, queuedWorkstation m.2 tested < 4) → HasSlot tested →
    ∃ (t : State) (record : UnitId → RecId), exec (.groupRequest (groupAddr g) tag (command :: data)) s = .next t ∧
      t = { tested with
        ports := t.ports
        pool := t.pool
        groupRecords := s.groupRecords ++ [⟨tag, g, e.expected.toNat, issued.length, skipped, 0, decide (e.expected = 0)⟩]
        control := tested.control ++ if e.expected = 0 then [.groupEnd g tag .complete 0 issued.length skipped 0] else []
        reservations := tested.reservations + if e.expected = 0 then 0 else 1
        silence := freshSilence s } ∧
      (∀ m ∈ issued, ∀ n ∈ issued, record m.1 = record n.1 → m = n) ∧
      (∀ u p, (u, p) ∈ issued → tested.pool[record u].state = .free ∧
        t.ports[p] = { s.ports[p] with queue := s.ports[p].queue ++ [record u] } ∧ t.pool[record u] =
        ⟨.queued, some .workstation, some tag, some u, some p, some tag, none, command, data, 0, 0, none, 0, [], none, none⟩) ∧
      (∀ p : PortId, (∀ u, (u, p) ∉ issued) → t.ports[p] = s.ports[p]) ∧
      (∀ i : RecId, (∀ m ∈ issued, record m.1 ≠ i) → t.pool[i] = tested.pool[i]) ∧
      (e.expected ≠ 0 → ∀ o x i k a, ControlFrame.groupEnd g tag o x i k a ∈ t.control →
        ControlFrame.groupEnd g tag o x i k a ∈ s.control)

/-- Each end report of a member adds one to the answered count of its group record; where GROUP END is not queued yet it is placed
COMPLETE when the count equals the expected count, otherwise SHORT when it equals the issued count; and the record is freed once GROUP
END is queued and every member has ended (R96, R97). -/
def Obligations.MemberEndsAreCounted : Prop :=
  ∀ (g : GroupRecord) (before after : List GroupRecord) (s : State), SlotLaw s → s.groupRecords = before ++ g :: after →
    let n := g.answered + 1
    let stored (queued : Bool) : List GroupRecord :=
      if queued = true ∧ n = g.issued then before ++ after
      else before ++ { g with answered := n, endQueued := queued } :: after
    let ended (o : GroupOutcome) : State := { s with
      control := s.control ++ [.groupEnd g.group g.tag o g.expected g.issued g.skipped n]
      reservations := s.reservations - 1
      groupRecords := stored true }
    (g.endQueued = true → memberEnded g.tag s = { s with groupRecords := stored true }) ∧
    (g.endQueued = false → n = g.expected → memberEnded g.tag s = ended .complete) ∧
    (g.endQueued = false → n ≠ g.expected → n = g.issued → memberEnded g.tag s = ended .short) ∧
    (g.endQueued = false → n ≠ g.expected → n ≠ g.issued → memberEnded g.tag s = { s with groupRecords := stored false })

/-! ### Management requests -/

/-- A management request dispatched without a free unreserved slot is discarded: CONTROL_OVERFLOW is counted, the silence timer starts
afresh, and nothing else changes. One with a slot whose parameter length differs from the one its code, selection and member count give
is answered BAD_LENGTH, and one of the right length whose parameters are out of range, for every code that has ranges, BAD_PARAMETER;
nothing else changes, whatever the state (R15, R19, R20, R43, R45, R47, R72, R89, R90, R114, R117, R118, R125, R137, R149, R158, R159,
R165, R166, R169, R170, R172, R173, R180, R184). -/
def Obligations.DiscardsAndWrongLengths : Prop :=
  (∀ (i : Instr) (tag code : Byte) (params : List Byte) (s : State), reservedRequest i = some (tag, code, params) →
     ¬ HasSlot s → exec i s = .next (discarded s)) ∧
  ∀ (i : Instr) (tag code : Byte) (params : List Byte) (s : State), reservedRequest i = some (tag, code, params) → HasSlot s →
    (expectedLength code params ≠ some params.length → exec i s = .next (answered tag .badLength [] s)) ∧
    (expectedLength code params = some params.length → outOfRange code params = true →
      exec i s = .next (answered tag .badParameter [] s))

/-- A management request with a slot is answered by exactly one CONTROL REPLY of its tag, placed last, and a reply that carries another
status than OK carries no result (R158, R169, R170). -/
def Obligations.EveryRequestHasOneReply : Prop :=
  ∀ (i : Instr) (tag code : Byte) (params : List Byte) (s : State), reservedRequest i = some (tag, code, params) → HasSlot s →
    ∃ (t : State) (st : Status) (result : List Byte) (ends : List ControlFrame),
      exec i s = .next t ∧ t.control = ends ++ [.reply tag st result] ∧ (st ≠ .ok → result = []) ∧
      t.silence = freshSilence t ∧
      ∀ x y z, ControlFrame.reply x y z ∈ ends → ControlFrame.reply x y z ∈ s.control

/-- An accepted SET ROUTE: the map gives up the unit's ports and names the new ones for it, the selected sections are stored with the check
state of their force option, a PORTS write makes the entry valid, and CLASS_MISMATCH is raised for each READY port of a valid entry then
sound whose identity disagrees. A busy write is refused BUSY, one that names a port of another unit CONFLICT, changing nothing. An
accepted CLEAR ROUTE returns the entry to its cold values and withdraws the unit's ports from the map; a busy one is refused BUSY and a
unit outside 1-24 BAD_PARAMETER (R3, R7, R15, R16, R17, R18, R19). -/
def Obligations.RouteWritesSetEntryAndMap : Prop :=
  (∀ (u : UnitId) (ports : Option (PortId × Option PortId)) (cls : Option ExpectedClass) (fp fc : Bool) (tag : Byte) (s : State),
     HasSlot s → ports ≠ none ∨ cls ≠ none → (fp = true → ports ≠ none) → (fc = true → cls ≠ none) →
     (∀ p q, ports = some (p, some q) → p ≠ q) →
     let run := exec (.setRoute tag (routeLayout u ports cls fp fc)) s
     let busy := (ports ≠ none ∧ RouteBusy u s) ∨ (ports = none ∧ ¬ Unassigned u s)
     let claims (r : PortId) := ∃ p q, ports = some (p, q) ∧ (r = p ∨ q = some r)
     let conflict := ∃ r v, claims r ∧ s.owners[r] = some v ∧ v ≠ u
     (busy → run = .next (answered tag .busy [] s)) ∧
     (¬ busy → conflict → run = .next (answered tag .conflict [] s)) ∧
     (¬ busy → ¬ conflict → ∃ t : State, run = .next (answered tag .ok [] t) ∧
       t = { s with routes := s.routes.set u t.routes[u], owners := t.owners, notices := t.notices, wattn := t.wattn } ∧
       (∀ p q, ports = some (p, q) → t.routes[u].valid = true ∧ t.routes[u].primary = p ∧ t.routes[u].standby = q ∧
         t.routes[u].portsCheck = if fp then .forced else .good) ∧
       (ports = none → t.owners = s.owners ∧ t.routes[u].valid = s.routes[u].valid ∧
         t.routes[u].primary = s.routes[u].primary ∧ t.routes[u].standby = s.routes[u].standby ∧
         t.routes[u].portsCheck = s.routes[u].portsCheck) ∧
       (∀ c, cls = some c → t.routes[u].expected = c ∧ t.routes[u].classCheck = if fc then .forced else .good) ∧
       (cls = none → t.routes[u].expected = s.routes[u].expected ∧ t.routes[u].classCheck = s.routes[u].classCheck) ∧
       (∀ r : PortId, ports ≠ none → (claims r → t.owners[r] = some u) ∧
         (¬ claims r → t.owners[r] = if s.owners[r] = some u then none else s.owners[r])) ∧
       ∀ n, n ∈ t.notices ↔ n ∈ s.notices ∨ ∃ (r : PortId) (d : Identity), n = .classMismatch r ∧
         t.routes[u].valid = true ∧ t.routes[u].portsCheck = .good ∧ t.routes[u].classCheck = .good ∧
         (t.routes[u].primary = r ∨ t.routes[u].standby = some r) ∧ s.ports[r].state = .ready ∧
         s.ports[r].identity = some d ∧ ¬ Agrees t.routes[u].expected d.cls)) ∧
  ∀ (b tag : Byte) (s : State), HasSlot s →
    (b.toNat = 0 ∨ 24 < b.toNat → exec (.clearRoute tag [b]) s = .next (answered tag .badParameter [] s)) ∧
    ∀ u : UnitId, b = unitAddr u →
      (RouteBusy u s → exec (.clearRoute tag [b]) s = .next (answered tag .busy [] s)) ∧
      (¬ RouteBusy u s → ∃ t : State, exec (.clearRoute tag [b]) s = .next (answered tag .ok [] t) ∧
        t = { s with routes := s.routes.set u ⟨false, 0, none, .good, .any, .good⟩, owners := t.owners } ∧
        ∀ r : PortId, t.owners[r] = if s.owners[r] = some u then none else s.owners[r])

/-- An accepted SET GROUP stores the sections selected with the check state of their force option, and a MEMBERS write makes the entry
valid; a member named twice or a count above 24 is refused BAD_PARAMETER, changing nothing (R87, R88, R89). The set is held as the list the
request gave (log 9). -/
def Obligations.SetGroupWritesTheEntry : Prop :=
  ∀ (g : GroupId) (members : Option (List UnitId)) (count : Option Byte) (fm fc : Bool) (tag : Byte) (s : State), HasSlot s →
    members ≠ none ∨ count ≠ none → (fm = true → members ≠ none) → (fc = true → count ≠ none) →
    (∀ us, members = some us → us.length ≤ 255) →
    let run := exec (.setGroup tag (groupLayout g members count fm fc)) s
    let bad := (∃ us, members = some us ∧ ¬ us.Nodup) ∨ ∃ n : Byte, count = some n ∧ 24 < n.toNat
    (bad → run = .next (answered tag .badParameter [] s)) ∧
    (¬ bad → ∃ e : GroupEntry, run = .next (answered tag .ok [] { s with groups := s.groups.set g e }) ∧
      (∀ us, members = some us → e.valid = true ∧ e.members = us ∧ e.membersCheck = if fm then .forced else .good) ∧
      (members = none → e.valid = s.groups[g].valid ∧ e.members = s.groups[g].members ∧
        e.membersCheck = s.groups[g].membersCheck) ∧
      (∀ n, count = some n → e.expected = n ∧ e.countCheck = if fc then .forced else .good) ∧
      (count = none → e.expected = s.groups[g].expected ∧ e.countCheck = s.groups[g].countCheck))

/-- SET PORT with values in range: a line setting is refused BUSY while an exchange of the port is QUEUED or in flight or the port is
IDENTIFYING, changing nothing; otherwise every selected setting is stored, a rate or C other than the one that stands (log 14) drops a
frame in assembly without a count, a frame on the line goes on as it began, power ON brings a port from OFF or FAULT to EMPTY, or to
SETTLING where presence is asserted, and power OFF puts a port that is not READY in OFF (R31, R32, R45, R46). For a READY port that is
switched off, alone or with other settings, see `Obligations.DepartureEndsExchanges`. What power OFF makes of the failure count of a port
in FAULT is the model's reading (log 16), and so is the hunting condition that the dropped frame leaves, with nothing counted yet, while
an assembler that hunts keeps its own (log 15). -/
def Obligations.SetPortWritesSettings : Prop :=
  ∀ (w : PortWrite) (tag : Byte) (s : State), HasSlot s → portLayout w ≠ [portCode w.port, 0] → SettingsFit w →
    let run := exec (.setPort tag (portLayout w)) s
    let q := s.ports[w.port]
    let busy := SettingsBusy w s
    let c := settingsAfter w q.config
    let stored : Port := if c.rate = q.config.rate ∧ c.charLen = q.config.charLen then { q with config := c }
      else { q with
        config := c, gap := none
        asm := (match q.asm with | .hunting run => .hunting run | .collecting _ => .hunting false) }
    let started (x : Port) : Port :=
      if q.present then { x with state := .settling, settle := some 100, identity := none, supply := true }
      else { x with state := .empty, identity := none, supply := true }
    (busy → run = .next (answered tag .busy [] s)) ∧
    (¬ busy →
      (w.power = none ∨ (w.power = some true ∧ q.state ≠ .off ∧ q.state ≠ .fault) ∨ (w.power = some false ∧ q.state = .off) →
        run = .next (answered tag .ok [] (withPort w.port stored s))) ∧
      (w.power = some true → q.state = .off → run = .next (answered tag .ok [] (withPort w.port (started stored) s))) ∧
      (w.power = some true → q.state = .fault →
        run = .next (answered tag .ok [] (withPort w.port { started stored with cause := .none, failures := 0 } s))) ∧
      (w.power = some false → q.state ≠ .off → q.state ≠ .ready → ∃ n : Nat,
        run = .next (answered tag .ok [] (withPort w.port { quiet stored with
          state := .off, supply := false, identity := none, cause := .none, pulse := none, resetLine := false
          failures := n } s)) ∧ (q.state ≠ .fault → n = q.failures)))

/-- RESET PORT on a port that is not READY: in EMPTY, SETTLING and IDENTIFYING DRSTn is asserted for 50 ms, the port is SETTLING with
the pulse in progress, and its line work stops; in OFF and FAULT it is refused BUSY (R43, R44, R74). For a READY port see
`Obligations.DepartureEndsExchanges`. -/
def Obligations.ResetPortStartsThePulse : Prop :=
  ∀ (p : PortId) (tag : Byte) (s : State), HasSlot s →
    let q := s.ports[p]
    (q.state = .off ∨ q.state = .fault → exec (.resetPort tag [portCode p]) s = .next (answered tag .busy [] s)) ∧
    (q.state = .empty ∨ q.state = .settling ∨ q.state = .identifying → exec (.resetPort tag [portCode p]) s =
      .next (answered tag .ok []
        (withPort p { quiet q with state := .settling, pulse := some 50, resetLine := true } s)))

/-- ABORT PORT: every WORKSTATION exchange QUEUED on the port is HELD with end status ABORTED and its UNIT REPLY appended in queue
order, a delivery stays in the queue, the exchange in flight and every other record stay, and the reply gives the number aborted. The
next state is that of the ends in queue order, each counted by its group record where it is a member, with the MEMBER and AFTER_END flags
and GROUP END so given (R67, R68, R72, R95, R96). -/
def Obligations.AbortPortEndsTheQueue : Prop :=
  ∀ (p : PortId) (tag : Byte) (s : State), HasSlot s → PoolLaw s →
    let aborted := s.ports[p].queue.filter fun i => s.pool[i].origin = some .workstation
    s.ports[p].queue.all (fun i => s.pool[i].origin = some .workstation ∨ s.pool[i].origin = some .delivery) = true →
    ∃ t : State, exec (.abortPort tag [portCode p]) s = .next t ∧
      t.control.getLast? = some (.reply tag .ok [byteOf aborted.length]) ∧
      t.ports[p].queue = s.ports[p].queue.filter (fun i => s.pool[i].origin = some .delivery) ∧
      (∃ l, t.ports[p].outbound = s.ports[p].outbound ++ l ∧ l.length = aborted.length ∧
        ∀ (n : Nat) (i : RecId), aborted[n]? = some i → ∃ a, l[n]? = some (endReply i s.pool[i] a .aborted 0 [])) ∧
      (∀ i ∈ aborted, t.pool[i].state = .held ∧ t.pool[i].endStatus = some .aborted) ∧
      (∀ i : RecId, i ∉ aborted → t.pool[i] = s.pool[i]) ∧ (∀ r : PortId, r ≠ p → t.ports[r] = s.ports[r]) ∧
      t = answered tag .ok [byteOf aborted.length] (endedAll p .aborted aborted
        (withPort p { s.ports[p] with queue := s.ports[p].queue.filter (fun i => s.pool[i].origin = some .delivery) } s))

/-- SET PASS: a port above 11 or a pass set with a value that is none of the nine classes is refused BAD_PARAMETER, changing nothing;
otherwise the pass set is replaced, in every port state, and the reply carries the set that stood before (R114). -/
def Obligations.SetPassReplacesTheSet : Prop :=
  ∀ (b hi lo tag : Byte) (s : State), HasSlot s →
    (11 < b.toNat ∨ 512 ≤ (hi ++ lo).toNat →
      exec (.setPass tag [b, hi, lo]) s = .next (answered tag .badParameter [] s)) ∧
    ∀ p : PortId, b = portCode p → (hi ++ lo).toNat < 512 →
      exec (.setPass tag [b, hi, lo]) s =
        .next (answered tag .ok (halfBytes (s.ports[p].passSet.setWidth 16))
          (withPort p { s.ports[p] with passSet := (hi ++ lo).setWidth 9 } s))

/-- SET POSITION in a legal state: the checks in their order, a faulted unit raising TABLE_FAULT, and on acceptance both units replaced
and the card state NO_CARD (R5, R116, R118, R119). That a faulted unit found here is not reported to the EU, so that an entry in collection
of another position of the unit stays, is the model's reading (log 13). -/
def Obligations.SetPositionAssignsUnits : Prop :=
  ∀ (k : PosId) (reader keypad : Option UnitId) (tag : Byte) (s : State), HasSlot s → PositionLaw s →
    let run := exec (.setPosition tag [posAddr k, optUnitCode reader, optUnitCode keypad]) s
    let named (u : UnitId) := reader = some u ∨ keypad = some u
    let invalid := ∃ u, named u ∧ s.routes[u].valid = false
    let faulted := ∃ u, named u ∧ s.routes[u].valid = true ∧ (s.routes[u].portsCheck ≠ .good ∨ s.routes[u].classCheck ≠ .good)
    let wrong := (∃ u, reader = some u ∧ s.routes[u].expected ≠ .reader) ∨ ∃ u, keypad = some u ∧ s.routes[u].expected ≠ .keypad
    let elsewhere := ∃ u j, named u ∧ j ≠ k ∧ Assigned s.positions[j] u
    (reader = keypad → reader ≠ none → run = .next (answered tag .badParameter [] s)) ∧
    (reader ≠ keypad ∨ reader = none →
      (s.positions[k].state ≠ .closed → run = .next (answered tag .busy [] s)) ∧
      (s.positions[k].state = .closed → faulted → ∃ t : State,
        run = .next (answered tag (if ∃ u, named u ∧ s.routes[u].valid = false then .noRoute else .tableFault) [] t) ∧
        t = { s with notices := t.notices, wattn := t.wattn } ∧
        ∀ n, n ∈ t.notices ↔ n ∈ s.notices ∨ ∃ u, n = .unitFault u ∧ named u ∧ s.routes[u].valid = true ∧
          (s.routes[u].portsCheck ≠ .good ∨ s.routes[u].classCheck ≠ .good)) ∧
      (s.positions[k].state = .closed → ¬ faulted →
        (invalid → run = .next (answered tag .noRoute [] s)) ∧
        (¬ invalid → wrong → run = .next (answered tag .wrongClass [] s)) ∧
        (¬ invalid → ¬ wrong → elsewhere → run = .next (answered tag .conflict [] s)) ∧
        (¬ invalid → ¬ wrong → ¬ elsewhere → run = .next (answered tag .ok []
          (withPos k { s.positions[k] with reader := reader, keypad := keypad, card := .noCard } s)))))

/-- OPEN POSITION and CLOSE POSITION: a CLOSED position with both units enters OPEN, lamp STEADY, and
without one is refused BAD_PARAMETER; an OPEN position enters CLOSED, its lamp FLASH while CALL is in the notice set and OFF otherwise;
a request for the state that stands changes nothing; SESSION is refused BUSY (R120, R121, R129, R130). -/
def Obligations.PositionsOpenAndClose : Prop :=
  ∀ (k : PosId) (tag : Byte) (s : State), HasSlot s →
    let q := s.positions[k]
    let opened := exec (.openPosition tag [posAddr k]) s
    let closed := exec (.closePosition tag [posAddr k]) s
    let both := q.reader ≠ none ∧ q.keypad ≠ none
    (q.state = .closed → both →
      opened = .next (answered tag .ok [] (withPos k (lit .steady { q with state := .open }) s))) ∧
    (q.state = .closed → ¬ both → opened = .next (answered tag .badParameter [] s)) ∧
    (q.state = .open → opened = .next (answered tag .ok [] s)) ∧
    (q.state = .session → opened = .next (answered tag .busy [] s)) ∧
    (q.state = .open → closed = .next (answered tag .ok []
      (withPos k (lit (if Notice.call k ∈ s.notices then .flash else .off) { q with state := .closed }) s))) ∧
    (q.state = .closed → closed = .next (answered tag .ok [] s)) ∧
    (q.state = .session → closed = .next (answered tag .busy [] s))

/-- OPEN SESSION: refused BUSY outside OPEN and LIMIT at the session limit; accepted otherwise, the position then in SESSION with the
lamp OFF and the number given in the reply, which is the first, counting on from the next session number and from 255 to 1, that no
position in SESSION holds; the number after it is the next session number (R122, R123, R130). -/
def Obligations.SessionsGetFreshNumbers : Prop :=
  ∀ (k : PosId) (tag : Byte) (s : State), HasSlot s → PositionLaw s →
    let q := s.positions[k]
    let run := exec (.openSession tag [posAddr k]) s
    let holds (n : Byte) := ∃ j : PosId, s.positions[j].state = .session ∧ s.positions[j].session = n
    let after (n : Byte) : Byte := if n = 255 then 1 else n + 1
    (q.state ≠ .open → run = .next (answered tag .busy [] s)) ∧
    (q.state = .open → sessionCount s = s.sessionLimit.toNat → run = .next (answered tag .limit [] s)) ∧
    (q.state = .open → q.entry = none → sessionCount s < s.sessionLimit.toNat → ∃ m : Nat,
      let n := after^[m] s.nextSession
      m ≤ 3 ∧ ¬ holds n ∧ (∀ i < m, holds (after^[i] s.nextSession)) ∧
      run = .next (answered tag .ok [n]
        { withPos k (lit .off { q with state := .session, session := n }) s with nextSession := after n }))

/-- CLOSE SESSION: refused NOT_IN_SESSION outside SESSION; otherwise the position enters OPEN with session number 0 and lamp STEADY, and
the reply gives the number closed. An entry ends first, ABANDONED with cause SESSION_CLOSED, its ENTRY END ahead of the reply. The
delivery of a DELIVERING entry leaves its port's queue and is freed where it is QUEUED, and is ORPHANED where it is SENDING or AWAITING,
or dropped and freed where its frame had not been started (R75, R76, R124, R146, R148). That a frame not started is dropped on full
duplex too is the model's reading (log 17). -/
def Obligations.SessionsClose : Prop :=
  ∀ (k : PosId) (tag : Byte) (s : State), HasSlot s →
    let q := s.positions[k]
    let run := exec (.closeSession tag [posAddr k]) s
    let shut (x : Position) : Position := lit .steady { x with state := .open, session := 0 }
    (q.state ≠ .session → run = .next (answered tag .notInSession [] s)) ∧
    (q.state = .session → q.entry = none → run = .next (answered tag .ok [q.session] (withPos k (shut q) s))) ∧
    (∀ e : Entry, q.state = .session → q.entry = some e → e.state = .collecting → 1 ≤ s.reservations →
      let b := entryEnded k e .abandoned .sessionClosed 0 [] s
      run = .next (answered tag .ok [q.session] (withPos k (shut b.positions[k]) b))) ∧
    ∀ (e : Entry) (p : PortId), q.state = .session → q.entry = some e → e.state = .delivering →
      s.pool[e.record].port = some p → 1 ≤ s.reservations →
      let ends (x : State) : State :=
        let b := entryEnded k e .abandoned .sessionClosed 0 [] x
        answered tag .ok [q.session] (withPos k (shut b.positions[k]) b)
      let waits := ∃ bytes, s.ports[p].tx = .holding (.exchange e.record) bytes
      let sent := s.pool[e.record].state = .sending ∨ s.pool[e.record].state = .awaiting
      (s.pool[e.record].state = .queued → run = .next (ends (withdrawn p e.record s))) ∧
      (sent → waits → run = .next (ends { withPort p { s.ports[p] with tx := .idle } s with
        pool := s.pool.set e.record freeExchange })) ∧
      (sent → ¬ waits → run = .next (ends { s with
        pool := s.pool.set e.record { s.pool[e.record] with state := .orphaned } }))

/-- SET SESSION LIMIT: another parameter length than 1 is refused BAD_LENGTH, a limit outside 1-4 BAD_PARAMETER, one while a position is in
SESSION BUSY; an accepted one, the stored one too, is stored and answered with the limit before. Every OPEN SESSION that passes its first
check is refused LIMIT where the positions in SESSION equal the limit, and neither request takes their count above it. A counter restart
and a stand-down keep the limit, and cold reset and RESTART ALL return it to 2 (R125). -/
def Obligations.SessionLimitIsSetWhileNoSession : Prop :=
  (∀ (b tag : Byte) (s : State), HasSlot s →
    let run := exec (.setSessionLimit tag [b]) s
    let busy := ∃ k : PosId, s.positions[k].state = .session
    (∀ params : List Byte, params.length ≠ 1 → exec (.setSessionLimit tag params) s = .next (answered tag .badLength [] s)) ∧
    (b.toNat = 0 ∨ 4 < b.toNat → run = .next (answered tag .badParameter [] s)) ∧
    (1 ≤ b.toNat → b.toNat ≤ 4 → busy → run = .next (answered tag .busy [] s)) ∧
    (1 ≤ b.toNat → b.toNat ≤ 4 → ¬ busy →
      run = .next (answered tag .ok [s.sessionLimit] { s with sessionLimit := b })) ∧
    ∀ k : PosId, s.positions[k].state = .open → sessionCount s = s.sessionLimit.toNat →
      exec (.openSession tag [posAddr k]) s = .next (answered tag .limit [] s)) ∧
  (∀ (tag : Byte) (params : List Byte) (s t : State), sessionCount s ≤ s.sessionLimit.toNat →
    exec (.setSessionLimit tag params) s = .next t ∨ exec (.openSession tag params) s = .next t →
    sessionCount t ≤ t.sessionLimit.toNat) ∧
  ∀ (s t : State) (tag : Byte) (cause : ColdCause) (r1 r0 : Bool),
    (exec (.restartTraffic tag [0x01]) s = .next t → t.sessionLimit = s.sessionLimit) ∧
    (exec .silenceTimerExpiry s = .next t → t.sessionLimit = s.sessionLimit) ∧
    (exec (.restartAll tag) s = .next t → t.sessionLimit = 2) ∧
    (exec (.coldReset cause r1 r0) s = .next t → t.sessionLimit = 2)

/-- OPEN ENTRY at a position in SESSION without an entry, its parameters in range, both units usable, a record FREE, and a slot free
besides the reply's own: a FREE record is RESERVED, a slot is reserved, the entry collects with its first-key timer running, the lamp is
FLASH, and the reply carries the position and its session number. With exactly one slot it is refused OUTPUT_FULL. The refusals before it,
in their order: BAD_PARAMETER outside the eight positions, NOT_IN_SESSION, BUSY with an entry, BAD_PARAMETER out of range, UNIT_UNAVAILABLE
after the tests of the keypad unit and then the reader unit, whose effects stay, and NO_EXCHANGE (R12, R137, R138). That a request of tag
0 opens an entry with opening tag 0 is the model's reading (log 33). -/
def Obligations.EntriesOpen : Prop :=
  (∀ (b mn mx fk ik cmd tag : Byte) (s : State), HasSlot s →
    let run := exec (.openEntry tag [b, mn, mx, fk, ik, cmd]) s
    (b.toNat = 0 ∨ 8 < b.toNat → run = .next (answered tag .badParameter [] s)) ∧
    ∀ k : PosId, b = posAddr k →
      let q := s.positions[k]
      let inRange := 1 ≤ mn.toNat ∧ mn.toNat ≤ mx.toNat ∧ mx.toNat ≤ 12 ∧ 1 ≤ fk.toNat ∧ fk.toNat ≤ 120 ∧
        1 ≤ ik.toNat ∧ ik.toNat ≤ 30 ∧ cmd ≠ 0
      (q.state ≠ .session → run = .next (answered tag .notInSession [] s)) ∧
      (q.state = .session → q.entry ≠ none → run = .next (answered tag .busy [] s)) ∧
      (q.state = .session → q.entry = none → ¬ inRange → run = .next (answered tag .badParameter [] s)) ∧
      ∀ u v : UnitId, q.state = .session → q.entry = none → inRange → q.keypad = some u → q.reader = some v → PortsLaw s →
        let usable := (∃ p, Serves u p s) ∧ ∃ r, Serves v r s
        (¬ usable → run = .next (answered tag .unitUnavailable [] (evaluate v (evaluate u s)))) ∧
        (usable → (∀ i : RecId, s.pool[i].state ≠ .free) → run = .next (answered tag .noExchange [] s))) ∧
  ∀ (k : PosId) (mn mx fk ik cmd tag : Byte) (u v : UnitId) (p r : PortId) (s : State),
    s.positions[k].state = .session → s.positions[k].entry = none →
    1 ≤ mn.toNat → mn.toNat ≤ mx.toNat → mx.toNat ≤ 12 → 1 ≤ fk.toNat → fk.toNat ≤ 120 → 1 ≤ ik.toNat → ik.toNat ≤ 30 →
    cmd ≠ 0 → s.positions[k].keypad = some u → s.positions[k].reader = some v → Serves u p s → Serves v r s →
    (∃ i : RecId, s.pool[i].state = .free) →
    let run := exec (.openEntry tag [posAddr k, mn, mx, fk, ik, cmd]) s
    (s.control.length + s.reservations = 15 → run = .next (answered tag .outputFull [] s)) ∧
    (s.control.length + s.reservations < 15 → ∃ i : RecId, s.pool[i].state = .free ∧
      run = .next (answered tag .ok [posAddr k, s.positions[k].session]
        { withPos k (lit .flash { s.positions[k] with
            entry := some ⟨.collecting, [], 0, mn.toNat, mx.toNat, fk.toNat, ik.toNat, .firstKey,
              some (fk.toNat * 1000), cmd, i, tag⟩ }) s with
          pool := s.pool.set i { s.pool[i] with state := .reserved }
          reservations := s.reservations + 1 }))

/-- SET LINE with values in range writes the selected settings, sets the starvation count to 0 where K is selected, moves WATTN with the
enable set, and answers with the settings before the write and the line rate; selecting nothing changes none of them (R164, R165). -/
def Obligations.SetLineWritesSettings : Prop :=
  ∀ (w : LineWrite) (tag : Byte) (a : Bool) (s : State), HasSlot s →
    (∀ n : Byte, w.silence = some n → n.toNat ≤ 60) → (∀ n : Byte, w.k = some n → n.toNat ≤ 15) →
    let b : State := { s with
      line := ⟨w.hold.getD s.line.hold, w.silence.getD s.line.silenceLimit, w.k.getD s.line.k, w.enable.getD s.line.enable⟩
      starvation := if w.k.isSome then 0 else s.starvation }
    Attends b a →
    exec (.setLine tag (lineLayout w)) s = .next (answered tag .ok
      ([holdCode s.line.hold, s.line.silenceLimit, s.line.k] ++ halfBytes (s.line.enable.setWidth 16) ++
        [lineRateCode s.lineRate]) { b with wattn := a })

/-- TAKE NOTICE removes the pair of the highest priority, then of the lowest subject, moves WATTN and the lamp of a CALL's position, and
answers kind, subject and the pairs left; on an empty set it answers "none" and changes nothing (R164, R176, R177). -/
def Obligations.TakeNoticeTakesTheFirst : Prop :=
  ∀ (tag : Byte) (s : State), HasSlot s → NoticeLaw s → LampLaw s →
    (s.notices = [] → exec (.takeNotice tag []) s = .next (answered tag .ok [0xFF, 0, 0] s)) ∧
    ∀ n ∈ s.notices, (∀ m ∈ s.notices, kindPriority (noticeKind n) < kindPriority (noticeKind m) ∨
        (kindPriority (noticeKind n) = kindPriority (noticeKind m) ∧ noticeSubject n ≤ noticeSubject m)) →
      ∃ t : State, exec (.takeNotice tag []) s = .next (answered tag .ok
          [byteOf (kindPriority (noticeKind n)), byteOf (noticeSubject n), byteOf (s.notices.length - 1)] t) ∧
        t = { s with notices := t.notices, wattn := t.wattn, positions := t.positions } ∧
        (∀ m, m ∈ t.notices ↔ m ∈ s.notices ∧ m ≠ n) ∧ Attends t t.wattn ∧
        ∀ k : PosId, t.positions[k] =
          if n = .call k ∧ s.positions[k].state = .closed then lit .off s.positions[k] else s.positions[k]

/-- A counter restart by RESTART TRAFFIC, answered with the number of orphans, and the stand-down at the expiry of the silence timer, which
raises STAND_DOWN and leaves the timer stopped; an expiry while the timer is stopped changes nothing; a frame held and not started is
dropped on full duplex too by the model's reading (log 17) (R49, R77, R99, R134, R151, R166,
R167, R180). -/
def Obligations.RestartAndStandDown : Prop :=
  ∀ s : State, PoolLaw s → PositionLaw s → LampLaw s →
    (∀ tag : Byte, HasSlot s → ∃ t : State, Restarted s t ∧ exec (.restartTraffic tag [0x01]) s =
      .next (answered tag .ok [byteOf (t.pool.toList.countP fun r => r.state = .orphaned)] t)) ∧
    (s.silence ≠ none → ∃ t u : State, Restarted s t ∧ t.silence = none ∧ exec .silenceTimerExpiry s = .next u ∧
      Raised .standDown t u) ∧
    (s.silence = none → exec .silenceTimerExpiry s = .next s)

/-- READ ROUTE of every unit, with each outcome of the usable-unit test and every assignment, READ PORT, READ STATUS and READ COUNTERS
answer from the state as it stands and change nothing, no notice and no entry, but for the counters that READ COUNTERS with CLEAR sets to
0; READ STATUS with parameters is refused BAD_LENGTH (R20, R47, R171, R173, Table 12.8). -/
def Obligations.ReadsAnswerFromTheState : Prop :=
  ∀ (tag : Byte) (s : State), HasSlot s →
    (∀ (u : UnitId) (p : PortId), Serves u p s → Unassigned u s →
      let e := s.routes[u]
      exec (.readRoute tag [unitAddr u]) s = .next (answered tag .ok
        [unitAddr u, 1, portCode e.primary, optPortCode e.standby, expectedCode e.expected, 0, 0, 0, portCode p, 0, 0,
          byteOf (s.pool.toList.countP fun r => decide (r.unit = some u) && isOpen r)] s)) ∧
    (∀ u : UnitId, s.routes[u].valid = false → Unassigned u s →
      let e := s.routes[u]
      exec (.readRoute tag [unitAddr u]) s = .next (answered tag .ok
        [unitAddr u, 0, portCode e.primary, optPortCode e.standby, expectedCode e.expected, checkCode e.portsCheck,
          checkCode e.classCheck, 1, 0xFF, 0, 0,
          byteOf (s.pool.toList.countP fun r => decide (r.unit = some u) && isOpen r)] s)) ∧
    (∀ (u : UnitId) (outcome port position role : Byte), PositionLaw s → HasOutcome u s outcome port → HasPlace u s position role →
      let e := s.routes[u]
      exec (.readRoute tag [unitAddr u]) s = .next (answered tag .ok
        [unitAddr u, boolCode e.valid, portCode e.primary, optPortCode e.standby, expectedCode e.expected, checkCode e.portsCheck,
          checkCode e.classCheck, outcome, port, position, role,
          byteOf (s.pool.toList.countP fun r => decide (r.unit = some u) && isOpen r)] s)) ∧
    (∀ p : PortId,
      let q := s.ports[p]
      exec (.readPort tag [portCode p]) s = .next (answered tag .ok
        ([portCode p, rateCode q.config.rate, charLenCode q.config.charLen, duplexCode q.config.duplex, q.config.allowance,
          q.config.replyLimit, q.config.retryLimit, priorityCode q.config.group, boolCode q.config.power,
          portStateCode q.state, boolCode q.pulse.isSome, faultCauseCode q.cause] ++
          (match q.identity with
            | some d => deviceClassCode d.cls :: halfBytes d.model ++ halfBytes d.firmware
            | none => [0, 0, 0, 0, 0]) ++
          [byteOf q.queue.length,
            boolCode (s.pool.toList.any fun r => decide (r.port = some p) && isInFlight r),
            byteOf (q.outbound.countP isEvent)]) s)) ∧
    (∀ params : List Byte, params ≠ [] → exec (.readStatus tag params) s = .next (answered tag .badLength [] s)) ∧
    exec (.readStatus tag []) s = .next (answered tag .ok
      (s.ports.toList.map (fun q => portStateCode q.state) ++ s.positions.toList.map (fun q => positionStateCode q.state) ++
        [byteOf (s.pool.toList.countP fun r => r.state = .free), byteOf (15 - s.control.length - s.reservations),
          byteOf s.groupRecords.length, byteOf s.notices.length]) s) ∧
    (∀ (p : PortId) (clear : Bool),
      let c := s.ports[p].counters
      exec (.readCounters tag [portCode p, boolCode clear]) s = .next (answered tag .ok
        (portCode p :: [c.forwardedEvents, c.filtered, c.gated, c.noUnit, c.overrunLost, c.lineErrors, c.strayReplies,
          c.timeouts, c.talkOver, c.repliesDiscarded].flatMap halfBytes)
        (if clear then withPort p { s.ports[p] with counters := ⟨0, 0, 0, 0, 0, 0, 0, 0, 0, 0⟩ } s else s))) ∧
    ∀ clear : Bool,
      exec (.readCounters tag [0xFF, boolCode clear]) s = .next (answered tag .ok
        (0xFF :: [s.link.rxFramesGood, s.link.rxCheckErrors, s.link.rxFormatErrors, s.link.controlOverflow,
          s.link.progressSkipped].flatMap halfBytes)
        (if clear then { s with link := ⟨0, 0, 0, 0, 0⟩ } else s))

/-- READ POSITION and READ GROUP answer from the state and change nothing of the part. The order of the members in READ GROUP, and the
digit count of READ POSITION without an entry, are free: the spec gives none, and the statement holds for every one (log 9, log 10). That
READ GROUP lists the open group records in the order of their acceptance is the model's reading (log 9) (R90, R126, Table 12.8). -/
def Obligations.ReadsWithFreeValues : Prop :=
  ∀ (tag : Byte) (s : State), HasSlot s →
    (∀ k : PosId,
      let q := s.positions[k]
      let outcome (u : Option UnitId) : List Byte := match u with
        | some v => [usableCode (usableTest v s), optPortCode (usablePort (usableTest v s))]
        | none => [0xFF, 0xFF]
      ∃ (count : Byte) (n : Nat), (∀ e, q.entry = some e → count = byteOf e.count) ∧
        exec (.readPosition tag [posAddr k]) s = .next (answered tag .ok
          ([posAddr k, positionStateCode q.state, optUnitCode q.reader, optUnitCode q.keypad, q.session, cardCode q.card,
            (match q.entry with | some e => entryStateCode e.state | none => 0), count, lampCode q.lamp] ++
            outcome q.reader ++ outcome q.keypad ++ [s.sessionLimit, byteOf (sessionCount s), s.nextSession])
          { s with draws := n })) ∧
    ∀ g : GroupId,
      let e := s.groups[g]
      let usable : Nat := if e.valid = true ∧ e.membersCheck = .good ∧ e.countCheck = .good then
        (List.finRange 24).countP (fun u => decide (u ∈ e.members) && isUsable (usableTest u s)) else 0
      let records := s.groupRecords.filter fun r => r.group = g
      ∃ order : List UnitId, order.Perm e.members ∧
        exec (.readGroup tag [groupAddr g]) s = .next (answered tag .ok
          ([groupAddr g, boolCode e.valid, e.expected, checkCode e.membersCheck, checkCode e.countCheck, byteOf usable,
            byteOf e.members.length] ++ order.map unitAddr ++ byteOf records.length ::
            records.flatMap (fun r => [r.tag, byteOf r.expected, byteOf r.issued, byteOf r.skipped, byteOf r.answered,
              boolCode r.endQueued])) s)
end

