-- ==== Sys2Proof/Laws/State.lean ====
section
/-! SUPPORT. One lemma for each field that an update of one part of the state leaves as it was, and how a replaced record reads. -/

namespace Sys2Proof.Machine

variable (s : State)

/-! ### modPort -/

@[simp] theorem modPort_lineRate (p : PortId) (f : Port → Port) : (modPort p f s).lineRate = s.lineRate := rfl
@[simp] theorem modPort_wready (p : PortId) (f : Port → Port) : (modPort p f s).wready = s.wready := rfl
@[simp] theorem modPort_wattn (p : PortId) (f : Port → Port) : (modPort p f s).wattn = s.wattn := rfl
@[simp] theorem modPort_wsAsm (p : PortId) (f : Port → Port) : (modPort p f s).wsAsm = s.wsAsm := rfl
@[simp] theorem modPort_wsGap (p : PortId) (f : Port → Port) : (modPort p f s).wsGap = s.wsGap := rfl
@[simp] theorem modPort_tx (p : PortId) (f : Port → Port) : (modPort p f s).tx = s.tx := rfl
@[simp] theorem modPort_control (p : PortId) (f : Port → Port) : (modPort p f s).control = s.control := rfl
@[simp] theorem modPort_reservations (p : PortId) (f : Port → Port) : (modPort p f s).reservations = s.reservations := rfl
@[simp] theorem modPort_highPtr (p : PortId) (f : Port → Port) : (modPort p f s).highPtr = s.highPtr := rfl
@[simp] theorem modPort_lowPtr (p : PortId) (f : Port → Port) : (modPort p f s).lowPtr = s.lowPtr := rfl
@[simp] theorem modPort_starvation (p : PortId) (f : Port → Port) : (modPort p f s).starvation = s.starvation := rfl
@[simp] theorem modPort_silence (p : PortId) (f : Port → Port) : (modPort p f s).silence = s.silence := rfl
@[simp] theorem modPort_line (p : PortId) (f : Port → Port) : (modPort p f s).line = s.line := rfl
@[simp] theorem modPort_routes (p : PortId) (f : Port → Port) : (modPort p f s).routes = s.routes := rfl
@[simp] theorem modPort_owners (p : PortId) (f : Port → Port) : (modPort p f s).owners = s.owners := rfl
@[simp] theorem modPort_pool (p : PortId) (f : Port → Port) : (modPort p f s).pool = s.pool := rfl
@[simp] theorem modPort_groups (p : PortId) (f : Port → Port) : (modPort p f s).groups = s.groups := rfl
@[simp] theorem modPort_groupRecords (p : PortId) (f : Port → Port) : (modPort p f s).groupRecords = s.groupRecords := rfl
@[simp] theorem modPort_positions (p : PortId) (f : Port → Port) : (modPort p f s).positions = s.positions := rfl
@[simp] theorem modPort_sessionLimit (p : PortId) (f : Port → Port) : (modPort p f s).sessionLimit = s.sessionLimit := rfl
@[simp] theorem modPort_nextSession (p : PortId) (f : Port → Port) : (modPort p f s).nextSession = s.nextSession := rfl
@[simp] theorem modPort_link (p : PortId) (f : Port → Port) : (modPort p f s).link = s.link := rfl
@[simp] theorem modPort_notices (p : PortId) (f : Port → Port) : (modPort p f s).notices = s.notices := rfl
@[simp] theorem modPort_pending (p : PortId) (f : Port → Port) : (modPort p f s).pending = s.pending := rfl
@[simp] theorem modPort_draws (p : PortId) (f : Port → Port) : (modPort p f s).draws = s.draws := rfl

/-! ### modRec -/

@[simp] theorem modRec_lineRate (i : RecId) (f : Exchange → Exchange) : (modRec i f s).lineRate = s.lineRate := rfl
@[simp] theorem modRec_wready (i : RecId) (f : Exchange → Exchange) : (modRec i f s).wready = s.wready := rfl
@[simp] theorem modRec_wattn (i : RecId) (f : Exchange → Exchange) : (modRec i f s).wattn = s.wattn := rfl
@[simp] theorem modRec_wsAsm (i : RecId) (f : Exchange → Exchange) : (modRec i f s).wsAsm = s.wsAsm := rfl
@[simp] theorem modRec_wsGap (i : RecId) (f : Exchange → Exchange) : (modRec i f s).wsGap = s.wsGap := rfl
@[simp] theorem modRec_tx (i : RecId) (f : Exchange → Exchange) : (modRec i f s).tx = s.tx := rfl
@[simp] theorem modRec_control (i : RecId) (f : Exchange → Exchange) : (modRec i f s).control = s.control := rfl
@[simp] theorem modRec_reservations (i : RecId) (f : Exchange → Exchange) : (modRec i f s).reservations = s.reservations := rfl
@[simp] theorem modRec_highPtr (i : RecId) (f : Exchange → Exchange) : (modRec i f s).highPtr = s.highPtr := rfl
@[simp] theorem modRec_lowPtr (i : RecId) (f : Exchange → Exchange) : (modRec i f s).lowPtr = s.lowPtr := rfl
@[simp] theorem modRec_starvation (i : RecId) (f : Exchange → Exchange) : (modRec i f s).starvation = s.starvation := rfl
@[simp] theorem modRec_silence (i : RecId) (f : Exchange → Exchange) : (modRec i f s).silence = s.silence := rfl
@[simp] theorem modRec_line (i : RecId) (f : Exchange → Exchange) : (modRec i f s).line = s.line := rfl
@[simp] theorem modRec_routes (i : RecId) (f : Exchange → Exchange) : (modRec i f s).routes = s.routes := rfl
@[simp] theorem modRec_owners (i : RecId) (f : Exchange → Exchange) : (modRec i f s).owners = s.owners := rfl
@[simp] theorem modRec_ports (i : RecId) (f : Exchange → Exchange) : (modRec i f s).ports = s.ports := rfl
@[simp] theorem modRec_groups (i : RecId) (f : Exchange → Exchange) : (modRec i f s).groups = s.groups := rfl
@[simp] theorem modRec_groupRecords (i : RecId) (f : Exchange → Exchange) : (modRec i f s).groupRecords = s.groupRecords := rfl
@[simp] theorem modRec_positions (i : RecId) (f : Exchange → Exchange) : (modRec i f s).positions = s.positions := rfl
@[simp] theorem modRec_sessionLimit (i : RecId) (f : Exchange → Exchange) : (modRec i f s).sessionLimit = s.sessionLimit := rfl
@[simp] theorem modRec_nextSession (i : RecId) (f : Exchange → Exchange) : (modRec i f s).nextSession = s.nextSession := rfl
@[simp] theorem modRec_link (i : RecId) (f : Exchange → Exchange) : (modRec i f s).link = s.link := rfl
@[simp] theorem modRec_notices (i : RecId) (f : Exchange → Exchange) : (modRec i f s).notices = s.notices := rfl
@[simp] theorem modRec_pending (i : RecId) (f : Exchange → Exchange) : (modRec i f s).pending = s.pending := rfl
@[simp] theorem modRec_draws (i : RecId) (f : Exchange → Exchange) : (modRec i f s).draws = s.draws := rfl

/-! ### modPos -/

@[simp] theorem modPos_lineRate (k : PosId) (f : Position → Position) : (modPos k f s).lineRate = s.lineRate := rfl
@[simp] theorem modPos_wready (k : PosId) (f : Position → Position) : (modPos k f s).wready = s.wready := rfl
@[simp] theorem modPos_wattn (k : PosId) (f : Position → Position) : (modPos k f s).wattn = s.wattn := rfl
@[simp] theorem modPos_wsAsm (k : PosId) (f : Position → Position) : (modPos k f s).wsAsm = s.wsAsm := rfl
@[simp] theorem modPos_wsGap (k : PosId) (f : Position → Position) : (modPos k f s).wsGap = s.wsGap := rfl
@[simp] theorem modPos_tx (k : PosId) (f : Position → Position) : (modPos k f s).tx = s.tx := rfl
@[simp] theorem modPos_control (k : PosId) (f : Position → Position) : (modPos k f s).control = s.control := rfl
@[simp] theorem modPos_reservations (k : PosId) (f : Position → Position) : (modPos k f s).reservations = s.reservations := rfl
@[simp] theorem modPos_highPtr (k : PosId) (f : Position → Position) : (modPos k f s).highPtr = s.highPtr := rfl
@[simp] theorem modPos_lowPtr (k : PosId) (f : Position → Position) : (modPos k f s).lowPtr = s.lowPtr := rfl
@[simp] theorem modPos_starvation (k : PosId) (f : Position → Position) : (modPos k f s).starvation = s.starvation := rfl
@[simp] theorem modPos_silence (k : PosId) (f : Position → Position) : (modPos k f s).silence = s.silence := rfl
@[simp] theorem modPos_line (k : PosId) (f : Position → Position) : (modPos k f s).line = s.line := rfl
@[simp] theorem modPos_routes (k : PosId) (f : Position → Position) : (modPos k f s).routes = s.routes := rfl
@[simp] theorem modPos_owners (k : PosId) (f : Position → Position) : (modPos k f s).owners = s.owners := rfl
@[simp] theorem modPos_ports (k : PosId) (f : Position → Position) : (modPos k f s).ports = s.ports := rfl
@[simp] theorem modPos_pool (k : PosId) (f : Position → Position) : (modPos k f s).pool = s.pool := rfl
@[simp] theorem modPos_groups (k : PosId) (f : Position → Position) : (modPos k f s).groups = s.groups := rfl
@[simp] theorem modPos_groupRecords (k : PosId) (f : Position → Position) : (modPos k f s).groupRecords = s.groupRecords := rfl
@[simp] theorem modPos_sessionLimit (k : PosId) (f : Position → Position) : (modPos k f s).sessionLimit = s.sessionLimit := rfl
@[simp] theorem modPos_nextSession (k : PosId) (f : Position → Position) : (modPos k f s).nextSession = s.nextSession := rfl
@[simp] theorem modPos_link (k : PosId) (f : Position → Position) : (modPos k f s).link = s.link := rfl
@[simp] theorem modPos_notices (k : PosId) (f : Position → Position) : (modPos k f s).notices = s.notices := rfl
@[simp] theorem modPos_pending (k : PosId) (f : Position → Position) : (modPos k f s).pending = s.pending := rfl
@[simp] theorem modPos_draws (k : PosId) (f : Position → Position) : (modPos k f s).draws = s.draws := rfl

/-! ### modRoute -/

@[simp] theorem modRoute_lineRate (u : UnitId) (f : RouteEntry → RouteEntry) : (modRoute u f s).lineRate = s.lineRate := rfl
@[simp] theorem modRoute_wready (u : UnitId) (f : RouteEntry → RouteEntry) : (modRoute u f s).wready = s.wready := rfl
@[simp] theorem modRoute_wattn (u : UnitId) (f : RouteEntry → RouteEntry) : (modRoute u f s).wattn = s.wattn := rfl
@[simp] theorem modRoute_wsAsm (u : UnitId) (f : RouteEntry → RouteEntry) : (modRoute u f s).wsAsm = s.wsAsm := rfl
@[simp] theorem modRoute_wsGap (u : UnitId) (f : RouteEntry → RouteEntry) : (modRoute u f s).wsGap = s.wsGap := rfl
@[simp] theorem modRoute_tx (u : UnitId) (f : RouteEntry → RouteEntry) : (modRoute u f s).tx = s.tx := rfl
@[simp] theorem modRoute_control (u : UnitId) (f : RouteEntry → RouteEntry) : (modRoute u f s).control = s.control := rfl
@[simp] theorem modRoute_reservations (u : UnitId) (f : RouteEntry → RouteEntry) : (modRoute u f s).reservations = s.reservations := rfl
@[simp] theorem modRoute_highPtr (u : UnitId) (f : RouteEntry → RouteEntry) : (modRoute u f s).highPtr = s.highPtr := rfl
@[simp] theorem modRoute_lowPtr (u : UnitId) (f : RouteEntry → RouteEntry) : (modRoute u f s).lowPtr = s.lowPtr := rfl
@[simp] theorem modRoute_starvation (u : UnitId) (f : RouteEntry → RouteEntry) : (modRoute u f s).starvation = s.starvation := rfl
@[simp] theorem modRoute_silence (u : UnitId) (f : RouteEntry → RouteEntry) : (modRoute u f s).silence = s.silence := rfl
@[simp] theorem modRoute_line (u : UnitId) (f : RouteEntry → RouteEntry) : (modRoute u f s).line = s.line := rfl
@[simp] theorem modRoute_owners (u : UnitId) (f : RouteEntry → RouteEntry) : (modRoute u f s).owners = s.owners := rfl
@[simp] theorem modRoute_ports (u : UnitId) (f : RouteEntry → RouteEntry) : (modRoute u f s).ports = s.ports := rfl
@[simp] theorem modRoute_pool (u : UnitId) (f : RouteEntry → RouteEntry) : (modRoute u f s).pool = s.pool := rfl
@[simp] theorem modRoute_groups (u : UnitId) (f : RouteEntry → RouteEntry) : (modRoute u f s).groups = s.groups := rfl
@[simp] theorem modRoute_groupRecords (u : UnitId) (f : RouteEntry → RouteEntry) : (modRoute u f s).groupRecords = s.groupRecords := rfl
@[simp] theorem modRoute_positions (u : UnitId) (f : RouteEntry → RouteEntry) : (modRoute u f s).positions = s.positions := rfl
@[simp] theorem modRoute_sessionLimit (u : UnitId) (f : RouteEntry → RouteEntry) : (modRoute u f s).sessionLimit = s.sessionLimit := rfl
@[simp] theorem modRoute_nextSession (u : UnitId) (f : RouteEntry → RouteEntry) : (modRoute u f s).nextSession = s.nextSession := rfl
@[simp] theorem modRoute_link (u : UnitId) (f : RouteEntry → RouteEntry) : (modRoute u f s).link = s.link := rfl
@[simp] theorem modRoute_notices (u : UnitId) (f : RouteEntry → RouteEntry) : (modRoute u f s).notices = s.notices := rfl
@[simp] theorem modRoute_pending (u : UnitId) (f : RouteEntry → RouteEntry) : (modRoute u f s).pending = s.pending := rfl
@[simp] theorem modRoute_draws (u : UnitId) (f : RouteEntry → RouteEntry) : (modRoute u f s).draws = s.draws := rfl

/-! ### modGroup -/

@[simp] theorem modGroup_lineRate (g : GroupId) (f : GroupEntry → GroupEntry) : (modGroup g f s).lineRate = s.lineRate := rfl
@[simp] theorem modGroup_wready (g : GroupId) (f : GroupEntry → GroupEntry) : (modGroup g f s).wready = s.wready := rfl
@[simp] theorem modGroup_wattn (g : GroupId) (f : GroupEntry → GroupEntry) : (modGroup g f s).wattn = s.wattn := rfl
@[simp] theorem modGroup_wsAsm (g : GroupId) (f : GroupEntry → GroupEntry) : (modGroup g f s).wsAsm = s.wsAsm := rfl
@[simp] theorem modGroup_wsGap (g : GroupId) (f : GroupEntry → GroupEntry) : (modGroup g f s).wsGap = s.wsGap := rfl
@[simp] theorem modGroup_tx (g : GroupId) (f : GroupEntry → GroupEntry) : (modGroup g f s).tx = s.tx := rfl
@[simp] theorem modGroup_control (g : GroupId) (f : GroupEntry → GroupEntry) : (modGroup g f s).control = s.control := rfl
@[simp] theorem modGroup_reservations (g : GroupId) (f : GroupEntry → GroupEntry) : (modGroup g f s).reservations = s.reservations := rfl
@[simp] theorem modGroup_highPtr (g : GroupId) (f : GroupEntry → GroupEntry) : (modGroup g f s).highPtr = s.highPtr := rfl
@[simp] theorem modGroup_lowPtr (g : GroupId) (f : GroupEntry → GroupEntry) : (modGroup g f s).lowPtr = s.lowPtr := rfl
@[simp] theorem modGroup_starvation (g : GroupId) (f : GroupEntry → GroupEntry) : (modGroup g f s).starvation = s.starvation := rfl
@[simp] theorem modGroup_silence (g : GroupId) (f : GroupEntry → GroupEntry) : (modGroup g f s).silence = s.silence := rfl
@[simp] theorem modGroup_line (g : GroupId) (f : GroupEntry → GroupEntry) : (modGroup g f s).line = s.line := rfl
@[simp] theorem modGroup_routes (g : GroupId) (f : GroupEntry → GroupEntry) : (modGroup g f s).routes = s.routes := rfl
@[simp] theorem modGroup_owners (g : GroupId) (f : GroupEntry → GroupEntry) : (modGroup g f s).owners = s.owners := rfl
@[simp] theorem modGroup_ports (g : GroupId) (f : GroupEntry → GroupEntry) : (modGroup g f s).ports = s.ports := rfl
@[simp] theorem modGroup_pool (g : GroupId) (f : GroupEntry → GroupEntry) : (modGroup g f s).pool = s.pool := rfl
@[simp] theorem modGroup_groupRecords (g : GroupId) (f : GroupEntry → GroupEntry) : (modGroup g f s).groupRecords = s.groupRecords := rfl
@[simp] theorem modGroup_positions (g : GroupId) (f : GroupEntry → GroupEntry) : (modGroup g f s).positions = s.positions := rfl
@[simp] theorem modGroup_sessionLimit (g : GroupId) (f : GroupEntry → GroupEntry) : (modGroup g f s).sessionLimit = s.sessionLimit := rfl
@[simp] theorem modGroup_nextSession (g : GroupId) (f : GroupEntry → GroupEntry) : (modGroup g f s).nextSession = s.nextSession := rfl
@[simp] theorem modGroup_link (g : GroupId) (f : GroupEntry → GroupEntry) : (modGroup g f s).link = s.link := rfl
@[simp] theorem modGroup_notices (g : GroupId) (f : GroupEntry → GroupEntry) : (modGroup g f s).notices = s.notices := rfl
@[simp] theorem modGroup_pending (g : GroupId) (f : GroupEntry → GroupEntry) : (modGroup g f s).pending = s.pending := rfl
@[simp] theorem modGroup_draws (g : GroupId) (f : GroupEntry → GroupEntry) : (modGroup g f s).draws = s.draws := rfl

/-! ### countPort -/

@[simp] theorem countPort_lineRate (n : PortCounter) (p : PortId) : (countPort n p s).lineRate = s.lineRate := rfl
@[simp] theorem countPort_wready (n : PortCounter) (p : PortId) : (countPort n p s).wready = s.wready := rfl
@[simp] theorem countPort_wattn (n : PortCounter) (p : PortId) : (countPort n p s).wattn = s.wattn := rfl
@[simp] theorem countPort_wsAsm (n : PortCounter) (p : PortId) : (countPort n p s).wsAsm = s.wsAsm := rfl
@[simp] theorem countPort_wsGap (n : PortCounter) (p : PortId) : (countPort n p s).wsGap = s.wsGap := rfl
@[simp] theorem countPort_tx (n : PortCounter) (p : PortId) : (countPort n p s).tx = s.tx := rfl
@[simp] theorem countPort_control (n : PortCounter) (p : PortId) : (countPort n p s).control = s.control := rfl
@[simp] theorem countPort_reservations (n : PortCounter) (p : PortId) : (countPort n p s).reservations = s.reservations := rfl
@[simp] theorem countPort_highPtr (n : PortCounter) (p : PortId) : (countPort n p s).highPtr = s.highPtr := rfl
@[simp] theorem countPort_lowPtr (n : PortCounter) (p : PortId) : (countPort n p s).lowPtr = s.lowPtr := rfl
@[simp] theorem countPort_starvation (n : PortCounter) (p : PortId) : (countPort n p s).starvation = s.starvation := rfl
@[simp] theorem countPort_silence (n : PortCounter) (p : PortId) : (countPort n p s).silence = s.silence := rfl
@[simp] theorem countPort_line (n : PortCounter) (p : PortId) : (countPort n p s).line = s.line := rfl
@[simp] theorem countPort_routes (n : PortCounter) (p : PortId) : (countPort n p s).routes = s.routes := rfl
@[simp] theorem countPort_owners (n : PortCounter) (p : PortId) : (countPort n p s).owners = s.owners := rfl
@[simp] theorem countPort_pool (n : PortCounter) (p : PortId) : (countPort n p s).pool = s.pool := rfl
@[simp] theorem countPort_groups (n : PortCounter) (p : PortId) : (countPort n p s).groups = s.groups := rfl
@[simp] theorem countPort_groupRecords (n : PortCounter) (p : PortId) : (countPort n p s).groupRecords = s.groupRecords := rfl
@[simp] theorem countPort_positions (n : PortCounter) (p : PortId) : (countPort n p s).positions = s.positions := rfl
@[simp] theorem countPort_sessionLimit (n : PortCounter) (p : PortId) : (countPort n p s).sessionLimit = s.sessionLimit := rfl
@[simp] theorem countPort_nextSession (n : PortCounter) (p : PortId) : (countPort n p s).nextSession = s.nextSession := rfl
@[simp] theorem countPort_link (n : PortCounter) (p : PortId) : (countPort n p s).link = s.link := rfl
@[simp] theorem countPort_notices (n : PortCounter) (p : PortId) : (countPort n p s).notices = s.notices := rfl
@[simp] theorem countPort_pending (n : PortCounter) (p : PortId) : (countPort n p s).pending = s.pending := rfl
@[simp] theorem countPort_draws (n : PortCounter) (p : PortId) : (countPort n p s).draws = s.draws := rfl

/-! ### countLink -/

@[simp] theorem countLink_lineRate (n : LinkCounter) : (countLink n s).lineRate = s.lineRate := rfl
@[simp] theorem countLink_wready (n : LinkCounter) : (countLink n s).wready = s.wready := rfl
@[simp] theorem countLink_wattn (n : LinkCounter) : (countLink n s).wattn = s.wattn := rfl
@[simp] theorem countLink_wsAsm (n : LinkCounter) : (countLink n s).wsAsm = s.wsAsm := rfl
@[simp] theorem countLink_wsGap (n : LinkCounter) : (countLink n s).wsGap = s.wsGap := rfl
@[simp] theorem countLink_tx (n : LinkCounter) : (countLink n s).tx = s.tx := rfl
@[simp] theorem countLink_control (n : LinkCounter) : (countLink n s).control = s.control := rfl
@[simp] theorem countLink_reservations (n : LinkCounter) : (countLink n s).reservations = s.reservations := rfl
@[simp] theorem countLink_highPtr (n : LinkCounter) : (countLink n s).highPtr = s.highPtr := rfl
@[simp] theorem countLink_lowPtr (n : LinkCounter) : (countLink n s).lowPtr = s.lowPtr := rfl
@[simp] theorem countLink_starvation (n : LinkCounter) : (countLink n s).starvation = s.starvation := rfl
@[simp] theorem countLink_silence (n : LinkCounter) : (countLink n s).silence = s.silence := rfl
@[simp] theorem countLink_line (n : LinkCounter) : (countLink n s).line = s.line := rfl
@[simp] theorem countLink_routes (n : LinkCounter) : (countLink n s).routes = s.routes := rfl
@[simp] theorem countLink_owners (n : LinkCounter) : (countLink n s).owners = s.owners := rfl
@[simp] theorem countLink_ports (n : LinkCounter) : (countLink n s).ports = s.ports := rfl
@[simp] theorem countLink_pool (n : LinkCounter) : (countLink n s).pool = s.pool := rfl
@[simp] theorem countLink_groups (n : LinkCounter) : (countLink n s).groups = s.groups := rfl
@[simp] theorem countLink_groupRecords (n : LinkCounter) : (countLink n s).groupRecords = s.groupRecords := rfl
@[simp] theorem countLink_positions (n : LinkCounter) : (countLink n s).positions = s.positions := rfl
@[simp] theorem countLink_sessionLimit (n : LinkCounter) : (countLink n s).sessionLimit = s.sessionLimit := rfl
@[simp] theorem countLink_nextSession (n : LinkCounter) : (countLink n s).nextSession = s.nextSession := rfl
@[simp] theorem countLink_notices (n : LinkCounter) : (countLink n s).notices = s.notices := rfl
@[simp] theorem countLink_pending (n : LinkCounter) : (countLink n s).pending = s.pending := rfl
@[simp] theorem countLink_draws (n : LinkCounter) : (countLink n s).draws = s.draws := rfl

/-! ### refreshLamp -/

@[simp] theorem refreshLamp_lineRate (k : PosId) : (refreshLamp k s).lineRate = s.lineRate := rfl
@[simp] theorem refreshLamp_wready (k : PosId) : (refreshLamp k s).wready = s.wready := rfl
@[simp] theorem refreshLamp_wattn (k : PosId) : (refreshLamp k s).wattn = s.wattn := rfl
@[simp] theorem refreshLamp_wsAsm (k : PosId) : (refreshLamp k s).wsAsm = s.wsAsm := rfl
@[simp] theorem refreshLamp_wsGap (k : PosId) : (refreshLamp k s).wsGap = s.wsGap := rfl
@[simp] theorem refreshLamp_tx (k : PosId) : (refreshLamp k s).tx = s.tx := rfl
@[simp] theorem refreshLamp_control (k : PosId) : (refreshLamp k s).control = s.control := rfl
@[simp] theorem refreshLamp_reservations (k : PosId) : (refreshLamp k s).reservations = s.reservations := rfl
@[simp] theorem refreshLamp_highPtr (k : PosId) : (refreshLamp k s).highPtr = s.highPtr := rfl
@[simp] theorem refreshLamp_lowPtr (k : PosId) : (refreshLamp k s).lowPtr = s.lowPtr := rfl
@[simp] theorem refreshLamp_starvation (k : PosId) : (refreshLamp k s).starvation = s.starvation := rfl
@[simp] theorem refreshLamp_silence (k : PosId) : (refreshLamp k s).silence = s.silence := rfl
@[simp] theorem refreshLamp_line (k : PosId) : (refreshLamp k s).line = s.line := rfl
@[simp] theorem refreshLamp_routes (k : PosId) : (refreshLamp k s).routes = s.routes := rfl
@[simp] theorem refreshLamp_owners (k : PosId) : (refreshLamp k s).owners = s.owners := rfl
@[simp] theorem refreshLamp_ports (k : PosId) : (refreshLamp k s).ports = s.ports := rfl
@[simp] theorem refreshLamp_pool (k : PosId) : (refreshLamp k s).pool = s.pool := rfl
@[simp] theorem refreshLamp_groups (k : PosId) : (refreshLamp k s).groups = s.groups := rfl
@[simp] theorem refreshLamp_groupRecords (k : PosId) : (refreshLamp k s).groupRecords = s.groupRecords := rfl
@[simp] theorem refreshLamp_sessionLimit (k : PosId) : (refreshLamp k s).sessionLimit = s.sessionLimit := rfl
@[simp] theorem refreshLamp_nextSession (k : PosId) : (refreshLamp k s).nextSession = s.nextSession := rfl
@[simp] theorem refreshLamp_link (k : PosId) : (refreshLamp k s).link = s.link := rfl
@[simp] theorem refreshLamp_notices (k : PosId) : (refreshLamp k s).notices = s.notices := rfl
@[simp] theorem refreshLamp_pending (k : PosId) : (refreshLamp k s).pending = s.pending := rfl
@[simp] theorem refreshLamp_draws (k : PosId) : (refreshLamp k s).draws = s.draws := rfl

/-! ### refreshAttention -/

@[simp] theorem refreshAttention_lineRate : (refreshAttention s).lineRate = s.lineRate := rfl
@[simp] theorem refreshAttention_wready : (refreshAttention s).wready = s.wready := rfl
@[simp] theorem refreshAttention_wsAsm : (refreshAttention s).wsAsm = s.wsAsm := rfl
@[simp] theorem refreshAttention_wsGap : (refreshAttention s).wsGap = s.wsGap := rfl
@[simp] theorem refreshAttention_tx : (refreshAttention s).tx = s.tx := rfl
@[simp] theorem refreshAttention_control : (refreshAttention s).control = s.control := rfl
@[simp] theorem refreshAttention_reservations : (refreshAttention s).reservations = s.reservations := rfl
@[simp] theorem refreshAttention_highPtr : (refreshAttention s).highPtr = s.highPtr := rfl
@[simp] theorem refreshAttention_lowPtr : (refreshAttention s).lowPtr = s.lowPtr := rfl
@[simp] theorem refreshAttention_starvation : (refreshAttention s).starvation = s.starvation := rfl
@[simp] theorem refreshAttention_silence : (refreshAttention s).silence = s.silence := rfl
@[simp] theorem refreshAttention_line : (refreshAttention s).line = s.line := rfl
@[simp] theorem refreshAttention_routes : (refreshAttention s).routes = s.routes := rfl
@[simp] theorem refreshAttention_owners : (refreshAttention s).owners = s.owners := rfl
@[simp] theorem refreshAttention_ports : (refreshAttention s).ports = s.ports := rfl
@[simp] theorem refreshAttention_pool : (refreshAttention s).pool = s.pool := rfl
@[simp] theorem refreshAttention_groups : (refreshAttention s).groups = s.groups := rfl
@[simp] theorem refreshAttention_groupRecords : (refreshAttention s).groupRecords = s.groupRecords := rfl
@[simp] theorem refreshAttention_positions : (refreshAttention s).positions = s.positions := rfl
@[simp] theorem refreshAttention_sessionLimit : (refreshAttention s).sessionLimit = s.sessionLimit := rfl
@[simp] theorem refreshAttention_nextSession : (refreshAttention s).nextSession = s.nextSession := rfl
@[simp] theorem refreshAttention_link : (refreshAttention s).link = s.link := rfl
@[simp] theorem refreshAttention_notices : (refreshAttention s).notices = s.notices := rfl
@[simp] theorem refreshAttention_pending : (refreshAttention s).pending = s.pending := rfl
@[simp] theorem refreshAttention_draws : (refreshAttention s).draws = s.draws := rfl

/-! ### reserveSlot -/

@[simp] theorem reserveSlot_lineRate : (reserveSlot s).lineRate = s.lineRate := rfl
@[simp] theorem reserveSlot_wready : (reserveSlot s).wready = s.wready := rfl
@[simp] theorem reserveSlot_wattn : (reserveSlot s).wattn = s.wattn := rfl
@[simp] theorem reserveSlot_wsAsm : (reserveSlot s).wsAsm = s.wsAsm := rfl
@[simp] theorem reserveSlot_wsGap : (reserveSlot s).wsGap = s.wsGap := rfl
@[simp] theorem reserveSlot_tx : (reserveSlot s).tx = s.tx := rfl
@[simp] theorem reserveSlot_control : (reserveSlot s).control = s.control := rfl
@[simp] theorem reserveSlot_highPtr : (reserveSlot s).highPtr = s.highPtr := rfl
@[simp] theorem reserveSlot_lowPtr : (reserveSlot s).lowPtr = s.lowPtr := rfl
@[simp] theorem reserveSlot_starvation : (reserveSlot s).starvation = s.starvation := rfl
@[simp] theorem reserveSlot_silence : (reserveSlot s).silence = s.silence := rfl
@[simp] theorem reserveSlot_line : (reserveSlot s).line = s.line := rfl
@[simp] theorem reserveSlot_routes : (reserveSlot s).routes = s.routes := rfl
@[simp] theorem reserveSlot_owners : (reserveSlot s).owners = s.owners := rfl
@[simp] theorem reserveSlot_ports : (reserveSlot s).ports = s.ports := rfl
@[simp] theorem reserveSlot_pool : (reserveSlot s).pool = s.pool := rfl
@[simp] theorem reserveSlot_groups : (reserveSlot s).groups = s.groups := rfl
@[simp] theorem reserveSlot_groupRecords : (reserveSlot s).groupRecords = s.groupRecords := rfl
@[simp] theorem reserveSlot_positions : (reserveSlot s).positions = s.positions := rfl
@[simp] theorem reserveSlot_sessionLimit : (reserveSlot s).sessionLimit = s.sessionLimit := rfl
@[simp] theorem reserveSlot_nextSession : (reserveSlot s).nextSession = s.nextSession := rfl
@[simp] theorem reserveSlot_link : (reserveSlot s).link = s.link := rfl
@[simp] theorem reserveSlot_notices : (reserveSlot s).notices = s.notices := rfl
@[simp] theorem reserveSlot_pending : (reserveSlot s).pending = s.pending := rfl
@[simp] theorem reserveSlot_draws : (reserveSlot s).draws = s.draws := rfl

/-! ### placeReserved -/

@[simp] theorem placeReserved_lineRate (f : ControlFrame) : (placeReserved f s).lineRate = s.lineRate := rfl
@[simp] theorem placeReserved_wready (f : ControlFrame) : (placeReserved f s).wready = s.wready := rfl
@[simp] theorem placeReserved_wattn (f : ControlFrame) : (placeReserved f s).wattn = s.wattn := rfl
@[simp] theorem placeReserved_wsAsm (f : ControlFrame) : (placeReserved f s).wsAsm = s.wsAsm := rfl
@[simp] theorem placeReserved_wsGap (f : ControlFrame) : (placeReserved f s).wsGap = s.wsGap := rfl
@[simp] theorem placeReserved_tx (f : ControlFrame) : (placeReserved f s).tx = s.tx := rfl
@[simp] theorem placeReserved_highPtr (f : ControlFrame) : (placeReserved f s).highPtr = s.highPtr := rfl
@[simp] theorem placeReserved_lowPtr (f : ControlFrame) : (placeReserved f s).lowPtr = s.lowPtr := rfl
@[simp] theorem placeReserved_starvation (f : ControlFrame) : (placeReserved f s).starvation = s.starvation := rfl
@[simp] theorem placeReserved_silence (f : ControlFrame) : (placeReserved f s).silence = s.silence := rfl
@[simp] theorem placeReserved_line (f : ControlFrame) : (placeReserved f s).line = s.line := rfl
@[simp] theorem placeReserved_routes (f : ControlFrame) : (placeReserved f s).routes = s.routes := rfl
@[simp] theorem placeReserved_owners (f : ControlFrame) : (placeReserved f s).owners = s.owners := rfl
@[simp] theorem placeReserved_ports (f : ControlFrame) : (placeReserved f s).ports = s.ports := rfl
@[simp] theorem placeReserved_pool (f : ControlFrame) : (placeReserved f s).pool = s.pool := rfl
@[simp] theorem placeReserved_groups (f : ControlFrame) : (placeReserved f s).groups = s.groups := rfl
@[simp] theorem placeReserved_groupRecords (f : ControlFrame) : (placeReserved f s).groupRecords = s.groupRecords := rfl
@[simp] theorem placeReserved_positions (f : ControlFrame) : (placeReserved f s).positions = s.positions := rfl
@[simp] theorem placeReserved_sessionLimit (f : ControlFrame) : (placeReserved f s).sessionLimit = s.sessionLimit := rfl
@[simp] theorem placeReserved_nextSession (f : ControlFrame) : (placeReserved f s).nextSession = s.nextSession := rfl
@[simp] theorem placeReserved_link (f : ControlFrame) : (placeReserved f s).link = s.link := rfl
@[simp] theorem placeReserved_notices (f : ControlFrame) : (placeReserved f s).notices = s.notices := rfl
@[simp] theorem placeReserved_pending (f : ControlFrame) : (placeReserved f s).pending = s.pending := rfl
@[simp] theorem placeReserved_draws (f : ControlFrame) : (placeReserved f s).draws = s.draws := rfl

/-! ### placeFrame -/

@[simp] theorem placeFrame_lineRate (f : ControlFrame) : (placeFrame f s).lineRate = s.lineRate := rfl
@[simp] theorem placeFrame_wready (f : ControlFrame) : (placeFrame f s).wready = s.wready := rfl
@[simp] theorem placeFrame_wattn (f : ControlFrame) : (placeFrame f s).wattn = s.wattn := rfl
@[simp] theorem placeFrame_wsAsm (f : ControlFrame) : (placeFrame f s).wsAsm = s.wsAsm := rfl
@[simp] theorem placeFrame_wsGap (f : ControlFrame) : (placeFrame f s).wsGap = s.wsGap := rfl
@[simp] theorem placeFrame_tx (f : ControlFrame) : (placeFrame f s).tx = s.tx := rfl
@[simp] theorem placeFrame_reservations (f : ControlFrame) : (placeFrame f s).reservations = s.reservations := rfl
@[simp] theorem placeFrame_highPtr (f : ControlFrame) : (placeFrame f s).highPtr = s.highPtr := rfl
@[simp] theorem placeFrame_lowPtr (f : ControlFrame) : (placeFrame f s).lowPtr = s.lowPtr := rfl
@[simp] theorem placeFrame_starvation (f : ControlFrame) : (placeFrame f s).starvation = s.starvation := rfl
@[simp] theorem placeFrame_silence (f : ControlFrame) : (placeFrame f s).silence = s.silence := rfl
@[simp] theorem placeFrame_line (f : ControlFrame) : (placeFrame f s).line = s.line := rfl
@[simp] theorem placeFrame_routes (f : ControlFrame) : (placeFrame f s).routes = s.routes := rfl
@[simp] theorem placeFrame_owners (f : ControlFrame) : (placeFrame f s).owners = s.owners := rfl
@[simp] theorem placeFrame_ports (f : ControlFrame) : (placeFrame f s).ports = s.ports := rfl
@[simp] theorem placeFrame_pool (f : ControlFrame) : (placeFrame f s).pool = s.pool := rfl
@[simp] theorem placeFrame_groups (f : ControlFrame) : (placeFrame f s).groups = s.groups := rfl
@[simp] theorem placeFrame_groupRecords (f : ControlFrame) : (placeFrame f s).groupRecords = s.groupRecords := rfl
@[simp] theorem placeFrame_positions (f : ControlFrame) : (placeFrame f s).positions = s.positions := rfl
@[simp] theorem placeFrame_sessionLimit (f : ControlFrame) : (placeFrame f s).sessionLimit = s.sessionLimit := rfl
@[simp] theorem placeFrame_nextSession (f : ControlFrame) : (placeFrame f s).nextSession = s.nextSession := rfl
@[simp] theorem placeFrame_link (f : ControlFrame) : (placeFrame f s).link = s.link := rfl
@[simp] theorem placeFrame_notices (f : ControlFrame) : (placeFrame f s).notices = s.notices := rfl
@[simp] theorem placeFrame_pending (f : ControlFrame) : (placeFrame f s).pending = s.pending := rfl
@[simp] theorem placeFrame_draws (f : ControlFrame) : (placeFrame f s).draws = s.draws := rfl

/-! ### removeProgress -/

@[simp] theorem removeProgress_lineRate (k : PosId) : (removeProgress k s).lineRate = s.lineRate := rfl
@[simp] theorem removeProgress_wready (k : PosId) : (removeProgress k s).wready = s.wready := rfl
@[simp] theorem removeProgress_wattn (k : PosId) : (removeProgress k s).wattn = s.wattn := rfl
@[simp] theorem removeProgress_wsAsm (k : PosId) : (removeProgress k s).wsAsm = s.wsAsm := rfl
@[simp] theorem removeProgress_wsGap (k : PosId) : (removeProgress k s).wsGap = s.wsGap := rfl
@[simp] theorem removeProgress_tx (k : PosId) : (removeProgress k s).tx = s.tx := rfl
@[simp] theorem removeProgress_reservations (k : PosId) : (removeProgress k s).reservations = s.reservations := rfl
@[simp] theorem removeProgress_highPtr (k : PosId) : (removeProgress k s).highPtr = s.highPtr := rfl
@[simp] theorem removeProgress_lowPtr (k : PosId) : (removeProgress k s).lowPtr = s.lowPtr := rfl
@[simp] theorem removeProgress_starvation (k : PosId) : (removeProgress k s).starvation = s.starvation := rfl
@[simp] theorem removeProgress_silence (k : PosId) : (removeProgress k s).silence = s.silence := rfl
@[simp] theorem removeProgress_line (k : PosId) : (removeProgress k s).line = s.line := rfl
@[simp] theorem removeProgress_routes (k : PosId) : (removeProgress k s).routes = s.routes := rfl
@[simp] theorem removeProgress_owners (k : PosId) : (removeProgress k s).owners = s.owners := rfl
@[simp] theorem removeProgress_ports (k : PosId) : (removeProgress k s).ports = s.ports := rfl
@[simp] theorem removeProgress_pool (k : PosId) : (removeProgress k s).pool = s.pool := rfl
@[simp] theorem removeProgress_groups (k : PosId) : (removeProgress k s).groups = s.groups := rfl
@[simp] theorem removeProgress_groupRecords (k : PosId) : (removeProgress k s).groupRecords = s.groupRecords := rfl
@[simp] theorem removeProgress_positions (k : PosId) : (removeProgress k s).positions = s.positions := rfl
@[simp] theorem removeProgress_sessionLimit (k : PosId) : (removeProgress k s).sessionLimit = s.sessionLimit := rfl
@[simp] theorem removeProgress_nextSession (k : PosId) : (removeProgress k s).nextSession = s.nextSession := rfl
@[simp] theorem removeProgress_link (k : PosId) : (removeProgress k s).link = s.link := rfl
@[simp] theorem removeProgress_notices (k : PosId) : (removeProgress k s).notices = s.notices := rfl
@[simp] theorem removeProgress_pending (k : PosId) : (removeProgress k s).pending = s.pending := rfl
@[simp] theorem removeProgress_draws (k : PosId) : (removeProgress k s).draws = s.draws := rfl

/-! ### restartSilence -/

@[simp] theorem restartSilence_lineRate : (restartSilence s).lineRate = s.lineRate := rfl
@[simp] theorem restartSilence_wready : (restartSilence s).wready = s.wready := rfl
@[simp] theorem restartSilence_wattn : (restartSilence s).wattn = s.wattn := rfl
@[simp] theorem restartSilence_wsAsm : (restartSilence s).wsAsm = s.wsAsm := rfl
@[simp] theorem restartSilence_wsGap : (restartSilence s).wsGap = s.wsGap := rfl
@[simp] theorem restartSilence_tx : (restartSilence s).tx = s.tx := rfl
@[simp] theorem restartSilence_control : (restartSilence s).control = s.control := rfl
@[simp] theorem restartSilence_reservations : (restartSilence s).reservations = s.reservations := rfl
@[simp] theorem restartSilence_highPtr : (restartSilence s).highPtr = s.highPtr := rfl
@[simp] theorem restartSilence_lowPtr : (restartSilence s).lowPtr = s.lowPtr := rfl
@[simp] theorem restartSilence_starvation : (restartSilence s).starvation = s.starvation := rfl
@[simp] theorem restartSilence_line : (restartSilence s).line = s.line := rfl
@[simp] theorem restartSilence_routes : (restartSilence s).routes = s.routes := rfl
@[simp] theorem restartSilence_owners : (restartSilence s).owners = s.owners := rfl
@[simp] theorem restartSilence_ports : (restartSilence s).ports = s.ports := rfl
@[simp] theorem restartSilence_pool : (restartSilence s).pool = s.pool := rfl
@[simp] theorem restartSilence_groups : (restartSilence s).groups = s.groups := rfl
@[simp] theorem restartSilence_groupRecords : (restartSilence s).groupRecords = s.groupRecords := rfl
@[simp] theorem restartSilence_positions : (restartSilence s).positions = s.positions := rfl
@[simp] theorem restartSilence_sessionLimit : (restartSilence s).sessionLimit = s.sessionLimit := rfl
@[simp] theorem restartSilence_nextSession : (restartSilence s).nextSession = s.nextSession := rfl
@[simp] theorem restartSilence_link : (restartSilence s).link = s.link := rfl
@[simp] theorem restartSilence_notices : (restartSilence s).notices = s.notices := rfl
@[simp] theorem restartSilence_pending : (restartSilence s).pending = s.pending := rfl
@[simp] theorem restartSilence_draws : (restartSilence s).draws = s.draws := rfl

/-! ### freeRecord -/

@[simp] theorem freeRecord_lineRate (i : RecId) : (freeRecord i s).lineRate = s.lineRate := rfl
@[simp] theorem freeRecord_wready (i : RecId) : (freeRecord i s).wready = s.wready := rfl
@[simp] theorem freeRecord_wattn (i : RecId) : (freeRecord i s).wattn = s.wattn := rfl
@[simp] theorem freeRecord_wsAsm (i : RecId) : (freeRecord i s).wsAsm = s.wsAsm := rfl
@[simp] theorem freeRecord_wsGap (i : RecId) : (freeRecord i s).wsGap = s.wsGap := rfl
@[simp] theorem freeRecord_tx (i : RecId) : (freeRecord i s).tx = s.tx := rfl
@[simp] theorem freeRecord_control (i : RecId) : (freeRecord i s).control = s.control := rfl
@[simp] theorem freeRecord_reservations (i : RecId) : (freeRecord i s).reservations = s.reservations := rfl
@[simp] theorem freeRecord_highPtr (i : RecId) : (freeRecord i s).highPtr = s.highPtr := rfl
@[simp] theorem freeRecord_lowPtr (i : RecId) : (freeRecord i s).lowPtr = s.lowPtr := rfl
@[simp] theorem freeRecord_starvation (i : RecId) : (freeRecord i s).starvation = s.starvation := rfl
@[simp] theorem freeRecord_silence (i : RecId) : (freeRecord i s).silence = s.silence := rfl
@[simp] theorem freeRecord_line (i : RecId) : (freeRecord i s).line = s.line := rfl
@[simp] theorem freeRecord_routes (i : RecId) : (freeRecord i s).routes = s.routes := rfl
@[simp] theorem freeRecord_owners (i : RecId) : (freeRecord i s).owners = s.owners := rfl
@[simp] theorem freeRecord_ports (i : RecId) : (freeRecord i s).ports = s.ports := rfl
@[simp] theorem freeRecord_groups (i : RecId) : (freeRecord i s).groups = s.groups := rfl
@[simp] theorem freeRecord_groupRecords (i : RecId) : (freeRecord i s).groupRecords = s.groupRecords := rfl
@[simp] theorem freeRecord_positions (i : RecId) : (freeRecord i s).positions = s.positions := rfl
@[simp] theorem freeRecord_sessionLimit (i : RecId) : (freeRecord i s).sessionLimit = s.sessionLimit := rfl
@[simp] theorem freeRecord_nextSession (i : RecId) : (freeRecord i s).nextSession = s.nextSession := rfl
@[simp] theorem freeRecord_link (i : RecId) : (freeRecord i s).link = s.link := rfl
@[simp] theorem freeRecord_notices (i : RecId) : (freeRecord i s).notices = s.notices := rfl
@[simp] theorem freeRecord_pending (i : RecId) : (freeRecord i s).pending = s.pending := rfl
@[simp] theorem freeRecord_draws (i : RecId) : (freeRecord i s).draws = s.draws := rfl

/-! ### reportToPort -/

@[simp] theorem reportToPort_lineRate (p : PortId) (i : RecId) (st : EndStatus) : (reportToPort p i st s).lineRate = s.lineRate := rfl
@[simp] theorem reportToPort_wready (p : PortId) (i : RecId) (st : EndStatus) : (reportToPort p i st s).wready = s.wready := rfl
@[simp] theorem reportToPort_wattn (p : PortId) (i : RecId) (st : EndStatus) : (reportToPort p i st s).wattn = s.wattn := rfl
@[simp] theorem reportToPort_wsAsm (p : PortId) (i : RecId) (st : EndStatus) : (reportToPort p i st s).wsAsm = s.wsAsm := rfl
@[simp] theorem reportToPort_wsGap (p : PortId) (i : RecId) (st : EndStatus) : (reportToPort p i st s).wsGap = s.wsGap := rfl
@[simp] theorem reportToPort_tx (p : PortId) (i : RecId) (st : EndStatus) : (reportToPort p i st s).tx = s.tx := rfl
@[simp] theorem reportToPort_control (p : PortId) (i : RecId) (st : EndStatus) : (reportToPort p i st s).control = s.control := rfl
@[simp] theorem reportToPort_reservations (p : PortId) (i : RecId) (st : EndStatus) : (reportToPort p i st s).reservations = s.reservations := rfl
@[simp] theorem reportToPort_highPtr (p : PortId) (i : RecId) (st : EndStatus) : (reportToPort p i st s).highPtr = s.highPtr := rfl
@[simp] theorem reportToPort_lowPtr (p : PortId) (i : RecId) (st : EndStatus) : (reportToPort p i st s).lowPtr = s.lowPtr := rfl
@[simp] theorem reportToPort_starvation (p : PortId) (i : RecId) (st : EndStatus) : (reportToPort p i st s).starvation = s.starvation := rfl
@[simp] theorem reportToPort_silence (p : PortId) (i : RecId) (st : EndStatus) : (reportToPort p i st s).silence = s.silence := rfl
@[simp] theorem reportToPort_line (p : PortId) (i : RecId) (st : EndStatus) : (reportToPort p i st s).line = s.line := rfl
@[simp] theorem reportToPort_routes (p : PortId) (i : RecId) (st : EndStatus) : (reportToPort p i st s).routes = s.routes := rfl
@[simp] theorem reportToPort_owners (p : PortId) (i : RecId) (st : EndStatus) : (reportToPort p i st s).owners = s.owners := rfl
@[simp] theorem reportToPort_pool (p : PortId) (i : RecId) (st : EndStatus) : (reportToPort p i st s).pool = s.pool := rfl
@[simp] theorem reportToPort_groups (p : PortId) (i : RecId) (st : EndStatus) : (reportToPort p i st s).groups = s.groups := rfl
@[simp] theorem reportToPort_groupRecords (p : PortId) (i : RecId) (st : EndStatus) : (reportToPort p i st s).groupRecords = s.groupRecords := rfl
@[simp] theorem reportToPort_positions (p : PortId) (i : RecId) (st : EndStatus) : (reportToPort p i st s).positions = s.positions := rfl
@[simp] theorem reportToPort_sessionLimit (p : PortId) (i : RecId) (st : EndStatus) : (reportToPort p i st s).sessionLimit = s.sessionLimit := rfl
@[simp] theorem reportToPort_nextSession (p : PortId) (i : RecId) (st : EndStatus) : (reportToPort p i st s).nextSession = s.nextSession := rfl
@[simp] theorem reportToPort_link (p : PortId) (i : RecId) (st : EndStatus) : (reportToPort p i st s).link = s.link := rfl
@[simp] theorem reportToPort_notices (p : PortId) (i : RecId) (st : EndStatus) : (reportToPort p i st s).notices = s.notices := rfl
@[simp] theorem reportToPort_pending (p : PortId) (i : RecId) (st : EndStatus) : (reportToPort p i st s).pending = s.pending := rfl
@[simp] theorem reportToPort_draws (p : PortId) (i : RecId) (st : EndStatus) : (reportToPort p i st s).draws = s.draws := rfl

/-! ### restartPort -/

@[simp] theorem restartPort_lineRate (p : PortId) : (restartPort p s).lineRate = s.lineRate := rfl
@[simp] theorem restartPort_wready (p : PortId) : (restartPort p s).wready = s.wready := rfl
@[simp] theorem restartPort_wattn (p : PortId) : (restartPort p s).wattn = s.wattn := rfl
@[simp] theorem restartPort_wsAsm (p : PortId) : (restartPort p s).wsAsm = s.wsAsm := rfl
@[simp] theorem restartPort_wsGap (p : PortId) : (restartPort p s).wsGap = s.wsGap := rfl
@[simp] theorem restartPort_tx (p : PortId) : (restartPort p s).tx = s.tx := rfl
@[simp] theorem restartPort_control (p : PortId) : (restartPort p s).control = s.control := rfl
@[simp] theorem restartPort_reservations (p : PortId) : (restartPort p s).reservations = s.reservations := rfl
@[simp] theorem restartPort_highPtr (p : PortId) : (restartPort p s).highPtr = s.highPtr := rfl
@[simp] theorem restartPort_lowPtr (p : PortId) : (restartPort p s).lowPtr = s.lowPtr := rfl
@[simp] theorem restartPort_starvation (p : PortId) : (restartPort p s).starvation = s.starvation := rfl
@[simp] theorem restartPort_silence (p : PortId) : (restartPort p s).silence = s.silence := rfl
@[simp] theorem restartPort_line (p : PortId) : (restartPort p s).line = s.line := rfl
@[simp] theorem restartPort_routes (p : PortId) : (restartPort p s).routes = s.routes := rfl
@[simp] theorem restartPort_owners (p : PortId) : (restartPort p s).owners = s.owners := rfl
@[simp] theorem restartPort_pool (p : PortId) : (restartPort p s).pool = s.pool := rfl
@[simp] theorem restartPort_groups (p : PortId) : (restartPort p s).groups = s.groups := rfl
@[simp] theorem restartPort_groupRecords (p : PortId) : (restartPort p s).groupRecords = s.groupRecords := rfl
@[simp] theorem restartPort_positions (p : PortId) : (restartPort p s).positions = s.positions := rfl
@[simp] theorem restartPort_sessionLimit (p : PortId) : (restartPort p s).sessionLimit = s.sessionLimit := rfl
@[simp] theorem restartPort_nextSession (p : PortId) : (restartPort p s).nextSession = s.nextSession := rfl
@[simp] theorem restartPort_link (p : PortId) : (restartPort p s).link = s.link := rfl
@[simp] theorem restartPort_notices (p : PortId) : (restartPort p s).notices = s.notices := rfl
@[simp] theorem restartPort_pending (p : PortId) : (restartPort p s).pending = s.pending := rfl
@[simp] theorem restartPort_draws (p : PortId) : (restartPort p s).draws = s.draws := rfl

/-! ### transmit -/

@[simp] theorem transmit_lineRate (src : TxSource) (f : CounterFrame) : (transmit src f s).lineRate = s.lineRate := rfl
@[simp] theorem transmit_wready (src : TxSource) (f : CounterFrame) : (transmit src f s).wready = s.wready := rfl
@[simp] theorem transmit_wattn (src : TxSource) (f : CounterFrame) : (transmit src f s).wattn = s.wattn := rfl
@[simp] theorem transmit_wsAsm (src : TxSource) (f : CounterFrame) : (transmit src f s).wsAsm = s.wsAsm := rfl
@[simp] theorem transmit_wsGap (src : TxSource) (f : CounterFrame) : (transmit src f s).wsGap = s.wsGap := rfl
@[simp] theorem transmit_control (src : TxSource) (f : CounterFrame) : (transmit src f s).control = s.control := rfl
@[simp] theorem transmit_reservations (src : TxSource) (f : CounterFrame) : (transmit src f s).reservations = s.reservations := rfl
@[simp] theorem transmit_highPtr (src : TxSource) (f : CounterFrame) : (transmit src f s).highPtr = s.highPtr := rfl
@[simp] theorem transmit_lowPtr (src : TxSource) (f : CounterFrame) : (transmit src f s).lowPtr = s.lowPtr := rfl
@[simp] theorem transmit_starvation (src : TxSource) (f : CounterFrame) : (transmit src f s).starvation = s.starvation := rfl
@[simp] theorem transmit_silence (src : TxSource) (f : CounterFrame) : (transmit src f s).silence = s.silence := rfl
@[simp] theorem transmit_line (src : TxSource) (f : CounterFrame) : (transmit src f s).line = s.line := rfl
@[simp] theorem transmit_routes (src : TxSource) (f : CounterFrame) : (transmit src f s).routes = s.routes := rfl
@[simp] theorem transmit_owners (src : TxSource) (f : CounterFrame) : (transmit src f s).owners = s.owners := rfl
@[simp] theorem transmit_ports (src : TxSource) (f : CounterFrame) : (transmit src f s).ports = s.ports := rfl
@[simp] theorem transmit_pool (src : TxSource) (f : CounterFrame) : (transmit src f s).pool = s.pool := rfl
@[simp] theorem transmit_groups (src : TxSource) (f : CounterFrame) : (transmit src f s).groups = s.groups := rfl
@[simp] theorem transmit_groupRecords (src : TxSource) (f : CounterFrame) : (transmit src f s).groupRecords = s.groupRecords := rfl
@[simp] theorem transmit_positions (src : TxSource) (f : CounterFrame) : (transmit src f s).positions = s.positions := rfl
@[simp] theorem transmit_sessionLimit (src : TxSource) (f : CounterFrame) : (transmit src f s).sessionLimit = s.sessionLimit := rfl
@[simp] theorem transmit_nextSession (src : TxSource) (f : CounterFrame) : (transmit src f s).nextSession = s.nextSession := rfl
@[simp] theorem transmit_link (src : TxSource) (f : CounterFrame) : (transmit src f s).link = s.link := rfl
@[simp] theorem transmit_notices (src : TxSource) (f : CounterFrame) : (transmit src f s).notices = s.notices := rfl
@[simp] theorem transmit_pending (src : TxSource) (f : CounterFrame) : (transmit src f s).pending = s.pending := rfl
@[simp] theorem transmit_draws (src : TxSource) (f : CounterFrame) : (transmit src f s).draws = s.draws := rfl

/-! ### A replaced record, and the others -/

@[simp] theorem modPort_self (p : PortId) (f : Port → Port) : (modPort p f s).ports[p] = f s.ports[p] := by simp [modPort]

theorem modPort_ne {p q : PortId} (h : q ≠ p) (f : Port → Port) : (modPort p f s).ports[q] = s.ports[q] := by
  simp [modPort, Fin.val_ne_of_ne (Ne.symm h)]

@[simp] theorem modRec_self (i : RecId) (f : Exchange → Exchange) : (modRec i f s).pool[i] = f s.pool[i] := by simp [modRec]

theorem modRec_ne {i j : RecId} (h : j ≠ i) (f : Exchange → Exchange) : (modRec i f s).pool[j] = s.pool[j] := by
  simp [modRec, Fin.val_ne_of_ne (Ne.symm h)]

@[simp] theorem modPos_self (k : PosId) (f : Position → Position) : (modPos k f s).positions[k] = f s.positions[k] := by
  simp [modPos]

theorem modPos_ne {j k : PosId} (h : j ≠ k) (f : Position → Position) : (modPos k f s).positions[j] = s.positions[j] := by
  simp [modPos, Fin.val_ne_of_ne (Ne.symm h)]

@[simp] theorem modRoute_self (u : UnitId) (f : RouteEntry → RouteEntry) : (modRoute u f s).routes[u] = f s.routes[u] := by
  simp [modRoute]

theorem modRoute_ne {u v : UnitId} (h : v ≠ u) (f : RouteEntry → RouteEntry) : (modRoute u f s).routes[v] = s.routes[v] := by
  simp [modRoute, Fin.val_ne_of_ne (Ne.symm h)]

@[simp] theorem modGroup_self (g : GroupId) (f : GroupEntry → GroupEntry) : (modGroup g f s).groups[g] = f s.groups[g] := by
  simp [modGroup]

theorem modGroup_ne {g h : GroupId} (n : h ≠ g) (f : GroupEntry → GroupEntry) : (modGroup g f s).groups[h] = s.groups[h] := by
  simp [modGroup, Fin.val_ne_of_ne (Ne.symm n)]

end Sys2Proof.Machine
end

