-- ==== Sys2Proof/Laws/Notices.lean ====
section
/-! SUPPORT. What raising a notice, setting a lamp and refreshing the attention indication do. -/

namespace Sys2Proof.Machine

variable (s : State)

theorem mem_insertNotice (n m : Notice) (l : List Notice) : m ∈ insertNotice n l ↔ m = n ∨ m ∈ l := by
  induction l with
  | nil => simp [insertNotice]
  | cons x xs ih =>
    simp only [insertNotice]
    split
    · simp
    · simp only [List.mem_cons, ih]; tauto

theorem noticeSubject_lt (n : Notice) : noticeSubject n < 256 := by cases n <;> simp only [noticeSubject] <;> omega

theorem noticeRank_inj {m n : Notice} (h : noticeRank m = noticeRank n) : m = n := by
  cases m <;> cases n <;> simp only [noticeRank, noticeKind, kindPriority, noticeSubject] at h <;>
    first | rfl | (exfalso; omega) | (congr 1; exact Fin.ext (by omega))

theorem noticeRank_lt {m n : Notice} : noticeRank m < noticeRank n ↔
    kindPriority (noticeKind m) < kindPriority (noticeKind n) ∨
      (kindPriority (noticeKind m) = kindPriority (noticeKind n) ∧ noticeSubject m < noticeSubject n) := by
  have hm := noticeSubject_lt m
  have hn := noticeSubject_lt n
  simp only [noticeRank]; omega

theorem insertNotice_ordered (n : Notice) (l : List Notice) (hn : n ∉ l)
    (h : l.Pairwise fun a b => noticeRank a < noticeRank b) :
    (insertNotice n l).Pairwise fun a b => noticeRank a < noticeRank b := by
  induction l with
  | nil => simp [insertNotice]
  | cons x xs ih =>
    rw [List.pairwise_cons] at h
    have hx : n ≠ x := fun e => hn (by simp [e])
    have hxs : n ∉ xs := fun e => hn (by simp [e])
    simp only [insertNotice]
    split
    · rename_i hlt
      rw [List.pairwise_cons, List.pairwise_cons]
      refine ⟨fun y hy => ?_, h⟩
      rcases List.mem_cons.mp hy with rfl | hy
      · exact hlt
      · exact hlt.trans (h.1 y hy)
    · rename_i hge
      rw [List.pairwise_cons]
      refine ⟨fun y hy => ?_, ih hxs h.2⟩
      rcases (mem_insertNotice n y xs).mp hy with rfl | hy
      · have : noticeRank y ≠ noticeRank x := fun e => hx (noticeRank_inj e)
        omega
      · exact h.1 y hy

theorem attention_iff : attention s = true ↔ ∃ n ∈ s.notices, s.line.enable.getLsbD (kindPriority (noticeKind n)) = true := by
  simp [attention]

theorem attention_eq {a : Bool} (h : Attends s a) : attention s = a := by
  rw [Bool.eq_iff_iff]; exact (attention_iff s).trans h.symm

theorem attends_attention : Attends s (attention s) := attention_iff s

@[simp] theorem setLamp_eq (m : LampMode) (q : Position) : setLamp m q = lit m q := by
  simp only [setLamp, lit, eq_comm]

theorem refreshLamp_eq (k : PosId) : refreshLamp k s = withPos k (lit (lampMode k s) s.positions[k]) s := by
  simp [refreshLamp, modPos, withPos]

theorem raiseNotice_present {n : Notice} (h : n ∈ s.notices) : raiseNotice n s = s := by simp [raiseNotice, h]

/-- Raising a pair that is no CALL changes the set and WATTN only. -/
theorem raiseNotice_raised (n : Notice) (h : ∀ k, n ≠ .call k) : Raised n s (raiseNotice n s) := by
  by_cases hn : n ∈ s.notices
  · rw [raiseNotice_present s hn]
    exact ⟨rfl, fun m => ⟨Or.inr, fun o => o.elim (fun e => e ▸ hn) id⟩, fun _ => rfl, fun e => absurd hn e⟩
  · have : raiseNotice n s = refreshAttention { s with notices := insertNotice n s.notices } := by
      simp only [raiseNotice, hn, ↓reduceIte]
      cases n with
      | call k => exact absurd rfl (h k)
      | _ => rfl
    rw [this]
    refine ⟨rfl, fun m => mem_insertNotice n m _, fun e => absurd e hn, fun _ => ?_⟩
    exact attention_iff _

end Sys2Proof.Machine
end

