-- ==== Sys2Proof/Laws/Control.lean ====
section
/-! SUPPORT. What the control queue's operations do: refusals, requests taken with a reservation, counters, and the end of an entry. -/

namespace Sys2Proof.Machine

variable (s : State)

@[simp] theorem bump_eq (c : Half) : bump c = counted c := by
  simp only [bump, counted]
  split <;> simp_all

theorem freeSlots_eq_zero : freeSlots s = 0 ↔ ¬ HasSlot s := by
  simp only [freeSlots, HasSlot, Config.controlSlots]; omega

theorem freeSlots_ne_zero {s : State} (h : HasSlot s) : freeSlots s ≠ 0 := fun e => (freeSlots_eq_zero s).mp e h

theorem discard_eq : restartSilence (countLink .controlOverflow s) = discarded s := by
  simp [restartSilence, countLink, bumpLink, discarded, freshSilence]

/-- The whole of a refusal by a request's owner or by the WLU (R159, R166). -/
theorem restartSilence_refuse (tag : Byte) (st : Status) : restartSilence (refuse tag st s) = refused tag st s := by
  by_cases h : HasSlot s
  · have h' : s.control.length + s.reservations < 16 := h
    simp only [refuse, refused, freeSlots_ne_zero h, h', ↓reduceIte]; rfl
  · have h' : ¬ s.control.length + s.reservations < 16 := h
    simp only [refuse, refused, (freeSlots_eq_zero s).mpr h, h', ↓reduceIte, discard_eq]

/-- A request without a slot (R159). -/
theorem manage_full {tag : Byte} {take : State → State × Answer} (h : ¬ HasSlot s) : manage tag take s = discarded s := by
  simp only [manage, (freeSlots_eq_zero s).mpr h, ↓reduceIte, discard_eq]

/-- The CONTROL REPLY of a request that has been taken fills its reservation, and the silence timer starts afresh (R158, R166). -/
def replied (tag : Byte) (r : State × Answer) : State := restartSilence (placeReserved (answerFrame tag r.2) r.1)

/-- A request with a slot: its owner takes it with one slot reserved, and its reply fills that slot (R158). -/
theorem manage_slot {tag : Byte} {take : State → State × Answer} (h : HasSlot s) :
    manage tag take s = replied tag (take (reserveSlot s)) := by
  simp only [manage, freeSlots_ne_zero h, ↓reduceIte]; rfl

/-- A reply whose request changed `b` into `t`, where both are seen without the reservation. -/
theorem replied_ok (tag : Byte) (result : List Byte) (t : State) :
    replied tag (reserveSlot t, .ok result) = answered tag .ok result t := rfl

theorem replied_refuse (tag : Byte) (st : Status) (t : State) :
    replied tag (reserveSlot t, .refuse st) = answered tag st [] t := rfl

/-! ### Operations of a taking do not see the reservation -/

theorem modPort_reserve (p : PortId) (f : Port → Port) : modPort p f (reserveSlot s) = reserveSlot (modPort p f s) := rfl
theorem modPos_reserve (k : PosId) (f : Position → Position) : modPos k f (reserveSlot s) = reserveSlot (modPos k f s) := rfl
theorem modRoute_reserve (u : UnitId) (f : RouteEntry → RouteEntry) :
    modRoute u f (reserveSlot s) = reserveSlot (modRoute u f s) := rfl
theorem modGroup_reserve (g : GroupId) (f : GroupEntry → GroupEntry) :
    modGroup g f (reserveSlot s) = reserveSlot (modGroup g f s) := rfl
theorem refreshLamp_reserve (k : PosId) : refreshLamp k (reserveSlot s) = reserveSlot (refreshLamp k s) := rfl
theorem refreshAttention_reserve : refreshAttention (reserveSlot s) = reserveSlot (refreshAttention s) := rfl

theorem noticeChanged_reserve (n : Notice) : noticeChanged n (reserveSlot s) = reserveSlot (noticeChanged n s) := by
  cases n <;> rfl

theorem raiseNotice_reserve (n : Notice) : raiseNotice n (reserveSlot s) = reserveSlot (raiseNotice n s) := by
  by_cases h : n ∈ s.notices
  · rw [raiseNotice_present s h, raiseNotice_present _ (show n ∈ (reserveSlot s).notices from h)]
  · have h' : n ∉ (reserveSlot s).notices := h
    simp only [raiseNotice, h, h', ↓reduceIte]
    exact noticeChanged_reserve { s with notices := insertNotice n s.notices } n

/-! ### The end of an entry (R146) -/

/-- The end of the entry of a position in SESSION, as one update (R130, R143, R146). -/
theorem endEntry_eq (k : PosId) (e : Entry) (o : EntryOutcome) (c : EntryCause) (st : Byte) (d : List Byte)
    (he : s.positions[k].entry = some e) (hs : s.positions[k].state = .session) :
    endEntry k o c st d s = entryEnded k e o c st d s := by
  simp only [endEntry, he, refreshLamp_eq]
  simp only [entryEnded, withPos, modPos, placeReserved, removeProgress, freeRecord, modRec, lampMode]
  simp only [Fin.getElem_fin] at hs
  split
  · simp [controlInFlight, controlWaiting, controlSending, hs, lampFor, isCollecting]
    rfl
  · simp [controlInFlight, controlWaiting, controlSending, hs, lampFor, isCollecting]

end Sys2Proof.Machine
end

