-- ==== Sys2Proof/Laws/Pool.lean ====
section
/-! SUPPORT. What the exchange pool's operations answer and do. -/

namespace Sys2Proof.Machine

variable (s : State)

/-- The record the XE takes is FREE (R51). -/
theorem firstFree_free {i : RecId} (h : firstFree s = some i) : s.pool[i].state = .free := by
  simpa using List.find?_some h

theorem firstFree_none (h : firstFree s = none) (i : RecId) : s.pool[i].state ≠ .free := by
  simpa using (List.find?_eq_none.mp h) i (List.mem_finRange i)

theorem firstFree_some (h : ∃ i : RecId, s.pool[i].state = .free) : ∃ i, firstFree s = some i ∧ s.pool[i].state = .free := by
  obtain ⟨j, hj⟩ := h
  cases hf : firstFree s with
  | none => exact absurd hj (firstFree_none s hf j)
  | some i => exact ⟨i, rfl, firstFree_free s hf⟩

theorem mem_pool (r : Exchange) : r ∈ s.pool.toList ↔ ∃ i : RecId, s.pool[i] = r := by
  rw [List.mem_iff_getElem]
  constructor
  · rintro ⟨i, hi, rfl⟩; exact ⟨⟨i, by simpa using hi⟩, by simp⟩
  · rintro ⟨i, rfl⟩; exact ⟨i, by simp, by simp⟩

theorem freeRecords_eq_zero : freeRecords s = 0 ↔ ∀ i : RecId, s.pool[i].state ≠ .free := by
  simp only [freeRecords, List.countP_eq_zero, decide_eq_true_eq, mem_pool]
  exact ⟨fun h i => h _ ⟨i, rfl⟩, fun h r hr => by obtain ⟨i, rfl⟩ := hr; exact h i⟩

/-- The exchange in flight on a port is on that port and in flight (R53). -/
theorem inFlight_spec {p : PortId} {i : RecId} (h : inFlight p s = some i) :
    s.pool[i].port = some p ∧ isInFlight s.pool[i] = true := by
  simpa using List.find?_some h

theorem inFlight_none {p : PortId} (h : inFlight p s = none) (i : RecId) (hp : s.pool[i].port = some p) :
    isInFlight s.pool[i] = false := by
  have g := (List.find?_eq_none.mp h) i (List.mem_finRange i)
  rw [hp] at g
  simpa using g

theorem inFlight_eq_none {p : PortId} (h : ∀ i : RecId, s.pool[i].port = some p → isInFlight s.pool[i] = false) :
    inFlight p s = none := by
  cases hf : inFlight p s with
  | none => rfl
  | some i =>
    have g := inFlight_spec s hf
    rw [h i g.1] at g
    exact absurd g.2 (by decide)

/-- At most one exchange of a port is in flight, so it is the one found. -/
theorem inFlight_eq {p : PortId} {i : RecId} (hl : PoolLaw s) (hp : s.pool[i].port = some p)
    (hf : isInFlight s.pool[i] = true) : inFlight p s = some i := by
  cases h : inFlight p s with
  | none => rw [inFlight_none s h i hp] at hf; exact absurd hf (by decide)
  | some j =>
    have g := inFlight_spec s h
    rw [hl.alone j i g.2 hf (g.1.trans hp.symm)]

/-- The end of a workstation exchange that belongs to no group, as one update (R67, R68). -/
theorem endExchange_held {i : RecId} {p : PortId} (st : EndStatus) (status : Byte) (data : List Byte)
    (hp : s.pool[i].port = some p) (ho : s.pool[i].origin = some .workstation) (hg : s.pool[i].group = none) :
    endExchange i st status data s = replyHeld p i st status data (reportFailures st s.ports[p].failures) s.ports[p] s := by
  have hd : s.pool[i].origin ≠ some .delivery := by rw [ho]; decide
  simp only [endExchange, hp, hg, if_neg hd, reportToGroup, endQueuedFor, holdReply, reportToPort, replyHeld, withPort, endReply,
    modPort, modRec]
  simp only [Fin.getElem_fin] at hg ⊢
  simp
  cases s.line.hold <;> rfl

/-- A member's end counted in its group record (R96, R97): only the record, the control queue and the reservations change. -/
theorem memberEnded_frame (tag : Byte) : memberEnded tag s =
    { s with
      control := (memberEnded tag s).control, reservations := (memberEnded tag s).reservations
      groupRecords := (memberEnded tag s).groupRecords } := by
  unfold memberEnded
  split
  · rfl
  · simp only [placeGroupEnd]
    split <;> rfl

end Sys2Proof.Machine
end

