-- ==== Sys2Proof/Laws/Ends.lean ====
section
/-! SUPPORT. The ends of exchanges and the operations beside them, each as the one update the statements speak of; and the frames sent. -/

namespace Sys2Proof.Machine

variable (s : State)

/-- A character as it is sent is the one R21 gives. -/
theorem sentChar_eq (len : CharLen) (b : Byte) : sentChar len b = character (decide (len = .c11)) b := by
  cases len
  · simp [sentChar, parityBits, character, List.range_succ]
  · have h : evenParityBit b = decide ((List.range 8).countP (fun i => b.getLsbD i) % 2 = 1) := by
      revert b; decide +kernel
    simp only [sentChar, parityBits, character, h]
    simp [List.range_succ]

/-- A frame is put on a device line in the characters of R21. -/
theorem sentFrame_eq (c : PortConfig) (bytes : List Byte) :
    sentFrame c bytes = ⟨c.rate, bytes.map (character (decide (c.charLen = .c11)))⟩ := by
  simp only [sentFrame, SentFrame.mk.injEq, true_and]
  exact List.map_congr_left fun b _ => sentChar_eq _ b

/-- The check is the one R183 gives. -/
theorem checkOf_eq (bytes : List Byte) : checkOf bytes = frameCheck bytes := by
  simp only [checkOf, frameCheck, List.foldl_flatMap, List.foldl_map]
  rfl

/-- A counter frame is shifted out in the characters of R153. -/
theorem counterChars_eq (f : CounterFrame) : counterChars f = wire f := by
  have h : sentChar .c10 = character false := funext fun b => sentChar_eq .c10 b
  obtain ⟨_, a, m, e, _, _, _⟩ := f
  simp only [counterChars, wire, counterBytes, frameBytes, h, counterMark, flagsByte, checkOf_eq, halfBytes, highByte, lowByte,
    List.length_cons, List.cons_append]
  cases a <;> cases m <;> cases e <;> rfl

/-- The frames of the control queue are laid out as Table 12.6 gives them. -/
theorem controlFrame_eq (a : Bool) (f : ControlFrame) : controlFrame a f = controlLayout a f := by
  cases f with
  | reply tag st result => cases st <;> rfl
  | groupEnd g tag o x i k n => cases o <;> simp [controlFrame, controlLayout, groupAddr, Nat.add_comm] <;> exact ⟨rfl, rfl⟩
  | progress k n c short full => cases short <;> cases full <;> rfl
  | entryEnd k n o c st data => cases o <;> cases c <;> rfl
  | started c => cases c <;> rfl

/-- The frames of an outbound list are laid out as Table 12.6 gives them. -/
theorem outFrame_eq (a : Bool) (f : OutFrame) : outFrame a f = outLayout a f := by
  cases f with
  | reply i u tag m e st ds data => cases st <;> rfl
  | event u n code lost data => rfl

/-- The whole of a member's end report (R96, R97). -/
theorem memberEnded_eq (tag : Byte) : memberEnded tag s = memberCounted tag s := by
  cases h : s.groupRecords.find? (fun g => decide (g.tag = tag)) with
  | none => simp only [memberEnded, memberCounted, h]
  | some g =>
    have e : (if g.endQueued = true then none else if g.answered + 1 = g.expected then some GroupOutcome.complete
        else if g.answered + 1 = g.issued then some GroupOutcome.short else none) =
        groupTest { g with answered := g.answered + 1 } := rfl
    simp only [memberEnded, memberCounted, h, placeGroupEnd, afterTest, storeRecord, e]
    rcases Option.eq_none_or_eq_some (groupTest { g with answered := g.answered + 1 }) with ho | ⟨o, ho⟩ <;>
      (simp only [ho, Option.isSome, Option.map, Option.toList, List.append_nil, Bool.or_false, Bool.or_true,
        Bool.false_eq_true, ↓reduceIte]
       rfl)

/-- The end of a delivery is the end of its entry (R145). -/
theorem deliveryEnd_eq (k : PosId) (st : EndStatus) (status : Byte) (data : List Byte)
    (hk : ∀ e, s.positions[k].entry = some e → s.positions[k].state = .session) :
    endEntry k (deliveryEnd st status data).1 (deliveryEnd st status data).2.1 (deliveryEnd st status data).2.2.1
      (deliveryEnd st status data).2.2.2 s = deliveryEnded k st status data s := by
  cases he : s.positions[k].entry with
  | none =>
    have h1 : deliveryEnded k st status data s = s := by unfold deliveryEnded; rw [he]
    rw [h1]; unfold endEntry; rw [he]
  | some e =>
    rw [endEntry_eq s k e _ _ _ _ he (hk e he)]
    unfold deliveryEnded
    rw [he]
    cases st <;> rfl

/-- AFTER_END of a member that ends now (R95). -/
theorem endQueuedFor_eq (group : Option Byte) : endQueuedFor group s =
    s.groupRecords.any fun g => decide (group = some g.tag) && g.endQueued := by
  cases group with
  | none => simp [endQueuedFor]
  | some tag =>
    simp only [endQueuedFor, Option.some.injEq]
    congr 1
    funext g
    by_cases h : g.tag = tag
    · simp [h]
    · have h' : tag ≠ g.tag := fun e => h e.symm
      simp [h, h']

/-- What a member's end report leaves alone. -/
theorem memberCounted_frame (tag : Byte) : memberCounted tag s =
    { s with
      control := (memberCounted tag s).control, reservations := (memberCounted tag s).reservations
      groupRecords := (memberCounted tag s).groupRecords } := by
  rw [← memberEnded_eq]; exact memberEnded_frame s tag

/-- A member's end report does not look at the pool. -/
theorem memberCounted_pool (tag : Byte) (x : Vector Exchange 24) :
    memberCounted tag { s with pool := x } = { memberCounted tag s with pool := x } := by
  simp only [memberCounted]
  cases s.groupRecords.find? (fun g => decide (g.tag = tag)) <;> rfl

/-- What is reported to the GU, whatever the pool (R67, R96). -/
theorem reportToGroup_eq (group : Option Byte) (x : Vector Exchange 24) :
    reportToGroup group { s with pool := x } = { groupTold group s with pool := x } := by
  cases group with
  | none => rfl
  | some tag => exact (memberEnded_eq _ tag).trans (memberCounted_pool s tag x)

/-- What a report to the GU leaves alone. -/
theorem groupTold_frame (group : Option Byte) : groupTold group s =
    { s with
      control := (groupTold group s).control, reservations := (groupTold group s).reservations
      groupRecords := (groupTold group s).groupRecords } := by
  cases group with
  | none => rfl
  | some tag => exact memberCounted_frame s tag

/-- What is reported to the DPC, whatever the pool (R40, R67). -/
theorem reportToPort_eq (p : PortId) (i : RecId) (st : EndStatus) (x : Vector Exchange 24) :
    reportToPort p i st { s with pool := x } = { portTold p i st s with pool := x } := by
  cases st <;> rfl

theorem holdMs_eq (h : HoldLimit) : holdMs h = holdTime h := by cases h <;> rfl

/-- The whole of the end of an exchange that is not ORPHANED (R67, R68, R70, R95, R96, R145). -/
theorem endExchange_eq {i : RecId} {p : PortId} (st : EndStatus) (status : Byte) (data : List Byte) (hl : PositionLaw s)
    (hp : s.pool[i].port = some p) : endExchange i st status data s = ended p i st status data s := by
  have hf := groupTold_frame (portTold p i st s) s.pool[i].group
  simp only [endExchange, hp, modRec, reportToPort_eq, reportToGroup_eq, ended]
  generalize groupTold s.pool[i].group (portTold p i st s) = b at hf ⊢
  have hb : b.positions = s.positions := by rw [hf]; rfl
  have hh : b.line = s.line := by rw [hf]; rfl
  split
  · simp only [endDelivery, freeRecord, modRec, Fin.getElem_fin, Vector.getElem_set_self, Vector.set_set, entryTold]
    cases s.pool[i.val].position with
    | none => rfl
    | some k =>
      refine deliveryEnd_eq _ k st status data fun e he => ?_
      simp only [hb] at he ⊢
      exact hl.entry k (by rw [he]; rfl)
  · simp only [holdReply, endQueuedFor_eq, endReply, modPort, modRec, withPort, hh, holdMs_eq,
      Fin.getElem_fin, Vector.getElem_set_self, Vector.set_set]
    rfl

/-- The whole of the silent end of an orphan (R40, R76). -/
theorem endOrphan_eq {i : RecId} {p : PortId} (st : EndStatus) (hp : s.pool[i].port = some p) :
    endOrphan i st s = orphanEnded p i (reportFailures st s.ports[p].failures) s := by
  simp only [endOrphan, hp]; rfl

/-- The whole of a withdrawal of a QUEUED delivery (R75). -/
theorem withdrawQueued_eq {i : RecId} {p : PortId} (hp : s.pool[i].port = some p) :
    withdrawQueued i s = withdrawn p i s := by
  simp only [withdrawQueued, hp]; rfl

/-- The whole of an ENTRY PROGRESS (R143). -/
theorem queueProgress_eq (k : PosId) (count : Nat) (short full : Bool) :
    queueProgress k count short full s = progressShown k count short full s := by
  have hu : updateProgress k count short full = fun f : ControlFrame => match f with
      | .progress j n c sh fu => if j = k then .progress j n count short full else .progress j n c sh fu
      | f => f := by
    funext f; cases f <;> rfl
  by_cases h : HasSlot s
  · have h' : s.control.length + s.reservations < 16 := h
    simp only [queueProgress, progressShown, hu, freeSlots_ne_zero h, h', ↓reduceIte] <;> rfl
  · have h' : ¬ s.control.length + s.reservations < 16 := h
    simp only [queueProgress, progressShown, hu, (freeSlots_eq_zero s).mpr h, h', ↓reduceIte, countLink, bumpLink, bump_eq] <;>
      rfl

end Sys2Proof.Machine
end

