-- ==== Sys2Proof/Laws/Routes.lean ====
section
/-! SUPPORT. What owner resolution, the active port, the usable-unit test and the tag test answer. -/

namespace Sys2Proof.Machine

variable (s : State)

theorem portReady_iff (p : PortId) : portReady p s = true ↔ s.ports[p].state = .ready := by simp [portReady]

theorem routeFaulted_eq_false (e : RouteEntry) : routeFaulted e = false ↔ e.portsCheck = .good ∧ e.classCheck = .good := by
  simp [routeFaulted, checkFaulted]

theorem groupFaulted_eq_false (e : GroupEntry) : groupFaulted e = false ↔ e.membersCheck = .good ∧ e.countCheck = .good := by
  simp [groupFaulted, checkFaulted]

/-- Table 1.3. -/
theorem conflicts_some (c : ExpectedClass) (d : Identity) : conflicts c (some d) = true ↔ ¬ Agrees c d.cls := by
  cases c <;> simp [conflicts, Agrees]

/-- The active port by R9. -/
theorem activePort_iff (e : RouteEntry) (p : PortId) : activePort e s = some p ↔ Active e p s := by
  unfold activePort Active
  by_cases h : s.ports[e.primary].state = .ready
  · rw [if_pos ((portReady_iff s _).mpr h)]
    constructor
    · intro hp; cases hp; exact .inl ⟨rfl, h⟩
    · rintro (⟨rfl, -⟩ | ⟨h', -⟩)
      · rfl
      · exact absurd h h'
  · rw [if_neg (fun g => h ((portReady_iff s _).mp g))]
    cases hq : e.standby with
    | none => simp; rintro rfl; exact h
    | some q =>
      by_cases hr : s.ports[q].state = .ready
      · simp only [(portReady_iff s q).mpr hr, ↓reduceIte, Option.some.injEq]
        constructor
        · rintro rfl; exact .inr ⟨h, rfl, hr⟩
        · rintro (⟨rfl, h'⟩ | ⟨-, h', -⟩)
          · exact absurd h' h
          · exact h'
      · have : portReady q s = false := by rw [Bool.eq_false_iff]; exact fun g => hr ((portReady_iff s q).mp g)
        simp only [this, Bool.false_eq_true, ↓reduceIte, reduceCtorEq, false_iff]
        rintro (⟨rfl, h'⟩ | ⟨-, h', h''⟩)
        · exact h h'
        · cases h'; exact hr h''

/-- The usable-unit test gives USABLE on a port exactly where the unit is usable there by R11, for a port that holds an identity. -/
theorem usableTest_usable {u : UnitId} {p : PortId} (h : Serves u p s) : usableTest u s = .usable p := by
  obtain ⟨hv, hp, hc, ha, d, hd, hg⟩ := h
  have hf := (routeFaulted_eq_false s.routes[u]).mpr ⟨hp, hc⟩
  have hx := (activePort_iff s s.routes[u] p).mpr ha
  have hn : conflicts s.routes[u].expected s.ports[p].identity = false := by
    rw [hd, Bool.eq_false_iff]; exact fun g => (conflicts_some _ _).mp g hg
  simp only [usableTest, hv, hf, hx, hn, Bool.true_eq_false, Bool.false_eq_true, ↓reduceIte]

theorem serves_of_usableTest {u : UnitId} {p : PortId} (h : usableTest u s = .usable p) (hd : s.ports[p].identity ≠ none) :
    Serves u p s := by
  simp only [usableTest] at h
  split at h
  · cases h
  · rename_i hv
    split at h
    · cases h
    · rename_i hf
      have hg := (routeFaulted_eq_false s.routes[u]).mp (by simpa using hf)
      split at h
      · cases h
      · rename_i q hq
        split at h
        · cases h
        · rename_i hc
          cases h
          obtain ⟨d, hd⟩ := Option.ne_none_iff_exists'.mp hd
          refine ⟨by simpa using hv, hg.1, hg.2, (activePort_iff s _ p).mp hq, d, hd, ?_⟩
          by_contra hn
          exact hc (by rw [hd]; exact (conflicts_some _ _).mpr hn)

/-- A unit that is usable has no effect when it is evaluated (R11, R12). -/
theorem evaluate_of_serves {u : UnitId} {p : PortId} (h : Serves u p s) : evaluate u s = s := by
  simp only [evaluate, evaluationEffects, usableTest_usable s h, isUsable, ↓reduceIte]

/-- The duplicate-tag test by R57 and R92. -/
theorem tagTaken_eq_false (tag : Byte) : tagTaken tag s = false ↔ TagFree tag s := by
  simp only [tagTaken, TagFree, Bool.or_eq_false_iff, List.any_eq_false, Bool.and_eq_true, decide_eq_true_eq, not_and]
  constructor
  · rintro ⟨h1, h2⟩
    refine ⟨fun i hi => ?_, fun g hg => h2 g hg⟩
    have := h1 s.pool[i] (by simp) hi
    simpa using this
  · rintro ⟨h1, h2⟩
    refine ⟨fun r hr ht => ?_, fun g hg => h2 g hg⟩
    obtain ⟨i, hi, rfl⟩ := List.mem_iff_getElem.mp hr
    have := h1 ⟨i, by simpa using hi⟩ (by simpa using ht)
    simpa using this

/-- The position and role of a unit, where it is assigned to one position in one role (R116). -/
theorem assignment_reader {u : UnitId} {k : PosId} (hl : PositionLaw s) (h : s.positions[k].reader = some u) :
    assignment u s = some (k, .reader) := by
  unfold assignment
  rw [List.findSome?_eq_some_iff]
  obtain ⟨a, b, hab⟩ := List.append_of_mem (List.mem_finRange k)
  have hn : (List.finRange 8).Nodup := List.nodup_finRange 8
  refine ⟨a, k, b, hab, by rw [if_pos h], fun j hj => ?_⟩
  have hjk : j ≠ k := by
    rintro rfl
    rw [hab] at hn
    exact (List.nodup_append.mp hn).2.2 _ hj _ (by simp) rfl
  have h1 : s.positions[j].reader ≠ some u := fun e => hjk (hl.single j k u (.inl e) (.inl h))
  have h2 : s.positions[j].keypad ≠ some u := fun e => hjk (hl.single j k u (.inr e) (.inl h))
  rw [if_neg h1, if_neg h2]

theorem assignment_keypad {u : UnitId} {k : PosId} (hl : PositionLaw s) (h : s.positions[k].keypad = some u) :
    assignment u s = some (k, .keypad) := by
  unfold assignment
  rw [List.findSome?_eq_some_iff]
  obtain ⟨a, b, hab⟩ := List.append_of_mem (List.mem_finRange k)
  have hn : (List.finRange 8).Nodup := List.nodup_finRange 8
  have h0 : s.positions[k].reader ≠ some u := fun e => hl.roles k u ⟨e, h⟩
  refine ⟨a, k, b, hab, by rw [if_neg h0, if_pos h], fun j hj => ?_⟩
  have hjk : j ≠ k := by
    rintro rfl
    rw [hab] at hn
    exact (List.nodup_append.mp hn).2.2 _ hj _ (by simp) rfl
  have h1 : s.positions[j].reader ≠ some u := fun e => hjk (hl.single j k u (.inl e) (.inr h))
  have h2 : s.positions[j].keypad ≠ some u := fun e => hjk (hl.single j k u (.inr e) (.inr h))
  rw [if_neg h1, if_neg h2]

theorem assignment_none {u : UnitId} (h : Unassigned u s) : assignment u s = none := by
  unfold assignment
  rw [List.findSome?_eq_none_iff]
  intro k _
  rw [if_neg (fun e => h k (.inl e)), if_neg (fun e => h k (.inr e))]

end Sys2Proof.Machine
end

