-- ==== Sys2Proof/Laws/Frames.lean ====
section
/-! SUPPORT. What the last character of a frame does on a device line and on the workstation line. -/

namespace Sys2Proof.Machine

variable (s : State)

theorem byteOf_toNat {n : Nat} (h : n ≤ 255) : (byteOf n).toNat = n := by
  simp only [byteOf, BitVec.toNat_ofNat]; omega

theorem halfBytes_halfOf (hi lo : Byte) : halfBytes (halfOf hi lo) = [hi, lo] := by
  simp only [halfBytes, highByte, lowByte, halfOf]
  congr 1
  · ext i hi'
    simp only [BitVec.getElem_extractLsb', BitVec.getLsbD_append]
    simp [BitVec.getLsbD_eq_getElem hi']
  · congr 1
    ext i hi'
    simp only [BitVec.getElem_extractLsb', BitVec.getLsbD_append]
    simp [hi']

/-- A run of bytes followed by its check is split into itself and a good check (R183). -/
theorem splitCheck_good (body : List Byte) : splitCheck (body ++ halfBytes (checkOf body)) = (body, true) := by
  simp [splitCheck, halfBytes]

/-- The last byte of a frame with `n` bytes between its length and its check joins the frame (R24, R154). -/
theorem assemble_last {mark b : Byte} {lo hi : Nat} {body : List Byte} (h1 : lo ≤ body.length) (h2 : body.length ≤ hi)
    (h3 : hi ≤ 255) (hb : (frameBytes mark body).getLast? = some b) :
    assemble mark lo hi false b (.collecting (frameBytes mark body).dropLast) = (.hunting false, .frame (frameBytes mark body)) := by
  have hj : (frameBytes mark body).dropLast ++ [b] = frameBytes mark body := by
    obtain ⟨ys, hys⟩ := List.getLast?_eq_some_iff.mp hb
    rw [hys, List.dropLast_concat]
  simp only [assemble, Bool.false_eq_true, ↓reduceIte, hj]
  have hf : frameBytes mark body = mark :: byteOf body.length :: (body ++ halfBytes (checkOf (byteOf body.length :: body))) := by
    simp [frameBytes]
  rw [hf]
  simp only [byteOf_toNat (h2.trans h3)]
  rw [if_neg (by omega), if_pos (by simp [halfBytes])]

/-- The fields of a complete line frame with a good check (Table 12.2). -/
theorem readLineFrame_good (kind seq code : Byte) (data : List Byte) (h : data.length + 3 ≤ 255) :
    readLineFrame (frameBytes lineMark (kind :: seq :: code :: data)) =
      some ⟨true, data.length + 3, kind, seq, code, data⟩ := by
  have := splitCheck_good (byteOf (data.length + 3) :: kind :: seq :: code :: data)
  simp only [readLineFrame, frameBytes, List.drop_succ_cons, List.drop_zero, List.length_cons, List.cons_append] at this ⊢
  rw [this]
  simp [byteOf_toNat h]

/-- The fields of a complete counter frame with a good check (Table 12.1). -/
theorem readCounterFrame_good (kind flags unit tag : Byte) (payload : List Byte) :
    readCounterFrame (frameBytes counterMark (kind :: flags :: unit :: tag :: payload)) = some ⟨true, kind, unit, tag, payload⟩ := by
  have := splitCheck_good (byteOf (payload.length + 4) :: kind :: flags :: unit :: tag :: payload)
  simp only [readCounterFrame, frameBytes, List.drop_succ_cons, List.drop_zero, List.length_cons, List.cons_append] at this ⊢
  rw [this]

/-- The last character of a line frame with a good check: the frame is tested by R27 and passed on, on the state in which the
assembler hunts again. -/
theorem receive_line {p : PortId} {kind seq code : Byte} {data : List Byte} {c : RxChar}
    (h : Completes p (kind :: seq :: code :: data) c s) (hd : data.length ≤ 250) :
    receiveCharacter p c s =
      if lineFrameGood s.ports[p].config.replyLimit.toNat ⟨true, data.length + 3, kind, seq, code, data⟩ then
        passFrame p ⟨true, data.length + 3, kind, seq, code, data⟩ (sampled p s)
      else countPort .lineErrors p (sampled p s) := by
  have hr : receiverRuns s.ports[p] = true := by
    rcases h.runs with e | e <;> simp only [receiverRuns, e] <;> rfl
  have ha := assemble_last (mark := lineMark) (lo := 3) (hi := 253) (body := kind :: seq :: code :: data) (b := c.data)
    (by simp) (by simp; omega) (by omega) h.last
  have hs : sampleCharacter p c s =
      if lineFrameGood s.ports[p].config.replyLimit.toNat ⟨true, data.length + 3, kind, seq, code, data⟩ then
        passFrame p ⟨true, data.length + 3, kind, seq, code, data⟩ (sampled p s)
      else countPort .lineErrors p (sampled p s) := by
    have hm : modPort p (fun q => { q with asm := .hunting false, gap := none }) s = sampled p s := rfl
    have hl : (sampled p s).ports[p].config = s.ports[p].config := by simp [sampled, withPort]
    simp only [sampleCharacter, h.sound, h.collected, ha, gapFor, hm, takeAssembled, takeLineFrame,
      readLineFrame_good kind seq code data (by omega), hl]
  simp only [receiveCharacter, hr, ↓reduceIte]
  split
  · rename_i o b ht; exact absurd ht (h.listens _ _ _)
  · rename_i o b ht; exact absurd ht (h.listens _ _ _)
  · exact hs

/-- The last byte of a counter frame with a good check: RX_FRAMES_GOOD is counted and the frame is dispatched, whatever its flags byte
(R154, R155). -/
theorem receive_counter {kind flags unit tag c : Byte} {payload : List Byte} (hp : payload.length ≤ 251)
    (ha : s.wsAsm = .collecting (frameBytes counterMark (kind :: flags :: unit :: tag :: payload)).dropLast)
    (hl : (frameBytes counterMark (kind :: flags :: unit :: tag :: payload)).getLast? = some c) :
    receiveWorkstation c true s = dispatch kind unit tag payload
      { s with wsAsm := .hunting false, wsGap := none
               link := { s.link with rxFramesGood := counted s.link.rxFramesGood } } := by
  have hb := assemble_last (mark := counterMark) (lo := 4) (hi := 255) (body := kind :: flags :: unit :: tag :: payload) (b := c)
    (by simp) (by simp; omega) (by omega) hl
  simp only [receiveWorkstation, ha, Bool.not_true, hb, workstationGap, takeWorkstation, takeCounterFrame, readCounterFrame_good,
    countLink, bumpLink, ↓reduceIte, bump_eq]

theorem lineFrameGood_event {lr : Nat} {code : Byte} {data : List Byte} (hd : data.length ≤ 57) :
    lineFrameGood lr ⟨true, data.length + 3, lineEvent, 0, code, data⟩ = true := by
  have : data.length + 3 ≤ 60 := by omega
  simp only [lineFrameGood, this, decide_true]
  simp [lineEvent, lineReply]

theorem lineFrameGood_reply {lr : Nat} {seq code : Byte} {data : List Byte} (h0 : seq ≠ 0) (h : data.length + 7 ≤ lr) :
    lineFrameGood lr ⟨true, data.length + 3, lineReply, seq, code, data⟩ = true := by
  have : data.length + 3 + 4 ≤ lr := by omega
  simp only [lineFrameGood, this, decide_true, ne_eq, h0, not_false_eq_true, Bool.and_true, Bool.true_or]

theorem sampled_state (p : PortId) : (sampled p s).ports[p].state = s.ports[p].state := by simp [sampled, withPort]

/-- A good EVENT frame on a READY port goes through the event path (R28, R100). -/
theorem receive_event {p : PortId} {code : Byte} {data : List Byte} {c : RxChar} (hr : s.ports[p].state = .ready)
    (hc : Completes p (lineEvent :: 0 :: code :: data) c s) (hd : data.length ≤ 57) :
    receiveCharacter p c s = eventPath p code data (sampled p s) := by
  simp only [receive_line s hc (by omega), lineFrameGood_event hd, ↓reduceIte, passFrame, sampled_state, hr]
  rw [if_neg (by decide)]

/-- A good REPLY frame on a READY port goes to the exchange engine (R28, R63). -/
theorem receive_reply {p : PortId} {seq code : Byte} {data : List Byte} {c : RxChar} (hr : s.ports[p].state = .ready)
    (hc : Completes p (lineReply :: seq :: code :: data) c s) (h0 : seq ≠ 0)
    (h1 : data.length + 7 ≤ s.ports[p].config.replyLimit.toNat) (h2 : s.ports[p].config.replyLimit.toNat ≤ 64) :
    receiveCharacter p c s = takeReply p ⟨true, data.length + 3, lineReply, seq, code, data⟩ (sampled p s) := by
  simp only [receive_line s hc (by omega), lineFrameGood_reply h0 h1, ↓reduceIte, passFrame, sampled_state, hr]

/-- A good REPLY frame on an IDENTIFYING port goes to the port's identify (R28, R37). -/
theorem receive_identify {p : PortId} {seq code : Byte} {data : List Byte} {c : RxChar} (hr : s.ports[p].state = .identifying)
    (hc : Completes p (lineReply :: seq :: code :: data) c s) (h0 : seq ≠ 0)
    (h1 : data.length + 7 ≤ s.ports[p].config.replyLimit.toNat) (h2 : s.ports[p].config.replyLimit.toNat ≤ 64) :
    receiveCharacter p c s = takeIdentifyReply p ⟨true, data.length + 3, lineReply, seq, code, data⟩ (sampled p s) := by
  simp only [receive_line s hc (by omega), lineFrameGood_reply h0 h1, ↓reduceIte, passFrame, sampled_state, hr]
  rw [if_neg (by decide)]

/-- The event path of a sound owner that is in no position (R102, R112). -/
theorem eventPath_unassigned {p : PortId} {u : UnitId} (code : Byte) (data : List Byte) (ho : s.owners[p] = some u)
    (h1 : s.routes[u].portsCheck = .good) (h2 : s.routes[u].classCheck = .good) (hu : Unassigned u s) :
    eventPath p code data s = passEvent p u 0 code data s := by
  simp only [eventPath, ho, (routeFaulted_eq_false s.routes[u]).mpr ⟨h1, h2⟩, Bool.false_eq_true, ↓reduceIte,
    assignment_none s hu]

/-- The event path of a sound reader unit of a position (R102 to R104). -/
theorem eventPath_reader {p : PortId} {u : UnitId} {k : PosId} (code : Byte) (data : List Byte) (hl : PositionLaw s)
    (ho : s.owners[p] = some u) (h1 : s.routes[u].portsCheck = .good) (h2 : s.routes[u].classCheck = .good)
    (hk : s.positions[k].reader = some u) :
    eventPath p code data s = gateEvent p u k .reader code data (trackCard k .reader code s) := by
  simp only [eventPath, ho, (routeFaulted_eq_false s.routes[u]).mpr ⟨h1, h2⟩, Bool.false_eq_true, ↓reduceIte,
    assignment_reader s hl hk, captureEvent, reduceCtorEq, false_and, and_false]

/-- The event path of a sound keypad unit of a position: a KEY goes to the entry where there is one (R104). -/
theorem eventPath_keypad {p : PortId} {u : UnitId} {k : PosId} (code : Byte) (data : List Byte) (hl : PositionLaw s)
    (ho : s.owners[p] = some u) (h1 : s.routes[u].portsCheck = .good) (h2 : s.routes[u].classCheck = .good)
    (hk : s.positions[k].keypad = some u) :
    eventPath p code data s =
      if code = codeKey ∧ s.positions[k].entry.isSome = true then takeKey k data.head? s
      else gateEvent p u k .keypad code data s := by
  have ht : trackCard k .keypad code s = s := by simp [trackCard]
  simp only [eventPath, ho, (routeFaulted_eq_false s.routes[u]).mpr ⟨h1, h2⟩, Bool.false_eq_true, ↓reduceIte,
    assignment_keypad s hl hk, captureEvent, ht, true_and]

end Sys2Proof.Machine
end

