-- ==== Sys2Proof/Tests/Slice0.lean ====
section
/-! SUPPORT. Tests of the model against values the spec writes out, and for each statement with hypotheses a state that meets them. -/

namespace Sys2Proof.Tests

open Sys2Proof Sys2Proof.Machine

set_option Elab.async false

/-! ### Well-formedness: an ill-formed term for each check -/

theorem test_wf_payload_of_251 : (Instr.unitRequest 1 1 (List.replicate 251 0)).wf = true := by decide +kernel
theorem test_wf_refuses_payload_of_252 : (Instr.unitRequest 1 1 (List.replicate 252 0)).wf = false := by decide +kernel
theorem test_wf_refuses_group_payload_of_252 : (Instr.groupRequest 25 1 (List.replicate 252 0)).wf = false := by decide +kernel
theorem test_wf_refuses_params_of_251 : (Instr.setGroup 1 (List.replicate 251 0)).wf = false := by decide +kernel
theorem test_wf_refuses_dispatch_of_a_listed_code : (Instr.dispatchRefusal 0x03 0 1 [0x38]).wf = false := by decide
theorem test_wf_dispatch_of_an_unlisted_code : (Instr.dispatchRefusal 0x03 0 1 [0x04]).wf = true := by decide
theorem test_wf_refuses_dispatch_payload_of_252 : (Instr.dispatchRefusal 0x04 0 1 (List.replicate 252 0)).wf = false := by
  decide +kernel
theorem test_wf_refuses_restart_traffic_of_scope_all : (Instr.restartTraffic 1 [0x02]).wf = false := by decide
theorem test_wf_refuses_repeated_members : (Instr.groupStorageUpset 0 (.members [3, 3])).wf = false := by decide
theorem test_wf_refuses_count_of_25 : (Instr.groupStorageUpset 0 (.count 25)).wf = false := by decide

/-- No row of the table has bits. -/
theorem test_no_word_spells_a_command : decodeTableWord 32 0x12345678 = none := rfl

/-! ### Values the spec writes out -/

/-- 12.2: the check of the nine bytes 31 to 39 hex is 29B1 hex. -/
theorem test_check_of_nine_digits : checkOf [0x31, 0x32, 0x33, 0x34, 0x35, 0x36, 0x37, 0x38, 0x39] = 0x29B1 := by decide +kernel

/-- 12.3: the same of the check the statements speak of. -/
theorem test_stated_check_of_nine_digits : frameCheck [0x31, 0x32, 0x33, 0x34, 0x35, 0x36, 0x37, 0x38, 0x39] = 0x29B1 := by
  decide +kernel

/-- Table 4.2, with the cold settings of Table 2.6 where the case gives none. -/
theorem test_worked_deadlines :
    (deadlineMs coldConfig 19, deadlineMs { coldConfig with duplex := .half } 19,
      deadlineMs { coldConfig with rate := .b115200, allowance := 0 } 7,
      deadlineMs ⟨.b1200, .c11, .half, 250, 64, 1, .low, true⟩ 257) = (156, 162, 20, 7983) := by decide +kernel

/-- Table 4.3, the rows of 1200 baud with C = 11 and of 19 200 baud with C = 11. -/
theorem test_line_times :
    (lineMs { coldConfig with rate := .b1200, charLen := .c11 } 64, lineMs { coldConfig with rate := .b19200, charLen := .c11 } 7,
      gapMs { coldConfig with rate := .b19200, charLen := .c11 }) = (587, 5, 2) := by decide +kernel

/-- Table 4.4: IDENTIFY deadlines at the slowest and the fastest rate. -/
theorem test_identify_deadlines :
    (deadlineMs { coldConfig with rate := .b1200, duplex := .half } 7, deadlineMs { coldConfig with rate := .b115200 } 7) =
      (462, 106) := by decide +kernel

/-- Table 6.1: the class of a code, and of a KEY event by its first data byte only. -/
theorem test_event_classes :
    [eventClass 0x10 [], eventClass 0x12 [1], eventClass 0x20 [0x39], eventClass 0x20 [0x0D, 0x31], eventClass 0x20 [0x84],
      eventClass 0x20 [0x3F], eventClass 0x20 [], eventClass 0x20 [0x85], eventClass 0x30 [], eventClass 0x31 []] =
      [.cardPresence, .cardData, .keyDigit, .keyControl, .keyFunction, .keyCall, .other, .other, .alert, .other] := by decide

/-- Table 10.4: TABLE_FAULT first, LINK_ERROR last, and within a kind the lowest subject first (R177). -/
theorem test_notice_order :
    ([.unitFault 23, .groupFault 0, .portFault 0, .portReady 11, .replyDiscarded 0, .call 7, .cardWaiting 0, .linkError] :
      List Notice).Pairwise (fun m n => noticeRank m < noticeRank n) := by decide

/-- 12.4: STARTED carries its cause, the part code 8612 hex and revision 01. -/
theorem test_started_frame :
    (controlFrame false (.started .power)).payload = [0x01, 0x86, 0x12, 0x01] := by decide

/-! ### Small states -/

/-- The state a command leaves. -/
def after (c : Instr) (s : State) : State :=
  match exec c s with
  | .next t => t
  | .fault _ => s
  | .refused _ => s

/-- Port `p` READY with a device of a class. -/
def fit (p : PortId) (c : DeviceClass) (s : State) : State :=
  withPort p { s.ports[p] with present := true, state := .ready, identity := some ⟨c, 0, 0⟩, seq := 1 } s

/-- Unit `u` routed to port `p` alone, with class `c`. -/
def routeTo (u : UnitId) (p : PortId) (c : ExpectedClass) (s : State) : State :=
  { s with routes := s.routes.set u ⟨true, p, none, .good, c, .good⟩, owners := s.owners.set p (some u) }

/-- Power-up with an empty control queue. -/
def quietState : State := { State.reset with control := [] }

/-- A counter: a reader on port 0 for unit 1, a keypad on port 1 for unit 2, another device on port 11 for unit 24, and position 1
OPEN with that reader and that keypad. -/
def counter : State :=
  withPos 0 { quietState.positions[(0 : PosId)] with
      state := .open, reader := some 0, keypad := some 1, card := .cardIn, lamp := .steady, lampLit := true }
    (routeTo 0 0 .reader (routeTo 1 1 .keypad (routeTo 23 11 .any
      (fit 0 .reader (fit 1 .keypad (fit 11 .other quietState))))))

/-- The counter with position 1 in SESSION. -/
def serving : State :=
  withPos 0 { counter.positions[(0 : PosId)] with state := .session, session := 1, lamp := .off, lampLit := false }
    { counter with nextSession := 2 }

/-- An entry in collection, with record 5 set aside. -/
def collected (digits : List Byte) : Entry :=
  ⟨.collecting, digits, digits.length, 4, 6, 30, 10, .interKey, some 10000, 0x41, 5, 60⟩

/-- The counter with an entry COLLECTING at position 1. -/
def collecting (digits : List Byte) : State :=
  withPos 0 { serving.positions[(0 : PosId)] with entry := some (collected digits), lamp := .flash, lampLit := true }
    { serving with pool := serving.pool.set 5 { freeExchange with state := .reserved }, reservations := 1 }

/-- An exchange of unit 24 on port 11. -/
def exchange (st : RecState) (tag seq : Byte) : Exchange :=
  { freeExchange with
    state := st, origin := some .workstation, tag := some tag, unit := some 23, port := some 11, command := 0x41, seq := seq,
    attempt := if st = .queued then 0 else 1, deadline := if st = .awaiting then some 145 else none
    hold := if st = .held then some 2000 else none, endStatus := if st = .held then some .done else none }

/-- Work of every kind: on port 11 tag 7 AWAITING, tag 8 QUEUED and tag 9 HELD, an entry COLLECTING at position 1, an enabled notice,
and commands waiting. -/
def working : State :=
  withPort 11 { (collecting [0x31]).ports[(11 : PortId)] with
      queue := [1], outbound := [.reply 2 23 9 false false .done 0 []] }
    { collecting [0x31] with
      pool := (((collecting [0x31]).pool.set 0 (exchange .awaiting 7 1)).set 1 (exchange .queued 8 0)).set 2 (exchange .held 9 1)
      notices := [.portReady 11], wattn := true, pending := [.deadlineExpiry 11, .grant] }

/-! ### Hypotheses that are laws -/

/-- What `Completes` asks for, as one test. -/
def completes (p : PortId) (body : List Byte) (c : RxChar) (s : State) : Bool :=
  (decide (s.ports[p].state = .identifying) || decide (s.ports[p].state = .ready)) &&
    (match s.ports[p].tx with | .sending _ _ true _ => false | _ => true) &&
    decide (s.ports[p].asm = .collecting (frameBytes lineMark body).dropLast) &&
    decide ((frameBytes lineMark body).getLast? = some c.data) && !charError s.ports[p].config.charLen c

theorem completes_sound {p : PortId} {body : List Byte} {c : RxChar} {s : State} (h : completes p body c s = true) :
    Completes p body c s := by
  simp only [completes, Bool.and_eq_true, Bool.or_eq_true, decide_eq_true_eq, Bool.not_eq_true'] at h
  obtain ⟨⟨⟨⟨h1, h2⟩, h3⟩, h4⟩, h5⟩ := h
  refine ⟨h1, ?_, h3, h4, h5⟩
  intro o b t ht
  rw [ht] at h2
  cases h2

/-- What `PoolLaw` asks for, as one test that runs over numbered records only. -/
def poolOk (s : State) : Bool :=
  decide (∀ p : PortId, ∀ i ∈ s.ports[p].queue, s.pool[i].state = .queued ∧ s.pool[i].port = some p) &&
  decide (∀ p : PortId, s.ports[p].queue.Nodup) &&
  decide (∀ i : RecId, s.pool[i].state = .queued → ∃ p : PortId, s.pool[i].port = some p ∧ i ∈ s.ports[p].queue) &&
  decide (∀ p : PortId, s.ports[p].queue ≠ [] → s.ports[p].state = .ready) &&
  decide (∀ i : RecId, isInFlight s.pool[i] = true → ∃ p : PortId, s.pool[i].port = some p ∧ s.ports[p].state = .ready) &&
  decide (∀ i : RecId, isInFlight s.pool[i] = true → ∀ j : RecId, isInFlight s.pool[j] = true →
    s.pool[i].port = s.pool[j].port → i = j) &&
  decide (∀ i : RecId, s.pool[i].state = .reserved → ∃ k : PosId, s.positions[k].entry.map Entry.record = some i) &&
  decide (∀ k : PosId, (s.positions[k].entry.all fun e : Entry =>
    decide (e.state = .collecting → s.pool[e.record].state = .reserved)) = true) &&
  decide (∀ k : PosId, (s.positions[k].entry.all fun e : Entry => decide (e.state = .delivering →
    (s.pool[e.record].state = .queued ∨ s.pool[e.record].state = .sending ∨ s.pool[e.record].state = .awaiting) ∧
      s.pool[e.record].origin = some .delivery ∧ s.pool[e.record].position = some k)) = true) &&
  decide (∀ j : PosId, s.positions[j].entry.isSome = true → ∀ k : PosId,
    s.positions[j].entry.map Entry.record = s.positions[k].entry.map Entry.record → j = k) &&
  decide (∀ i : RecId, s.pool[i].state = .held →
    ∃ p : PortId, s.pool[i].port = some p ∧ s.ports[p].outbound.countP (isReplyOf i) = 1) &&
  decide (∀ (p : PortId) (i : RecId), (s.ports[p].outbound.any (isReplyOf i)) = true →
    s.pool[i].state = .held ∧ s.pool[i].port = some p)

theorem poolLaw_of {s : State} (h : poolOk s = true) : PoolLaw s := by
  simp only [poolOk, Bool.and_eq_true, decide_eq_true_eq] at h
  obtain ⟨⟨⟨⟨⟨⟨⟨⟨⟨⟨⟨h1, h2⟩, h3⟩, h4⟩, h5⟩, h6⟩, h7⟩, h8⟩, h9⟩, h10⟩, h11⟩, h12⟩ := h
  refine ⟨h1, h2, h3, h4, h5, fun i j hi => h6 i hi j, fun i hi => ?_, fun k e he hc => ?_, fun k e he hd => ?_,
    fun j k e f he hf h => ?_, h11, 
    fun p i f hf hr => h12 p i (List.any_eq_true.mpr ⟨f, hf, hr⟩)⟩
  · obtain ⟨k, hk⟩ := h7 i hi
    obtain ⟨e, he, hr⟩ := Option.map_eq_some_iff.mp hk
    exact ⟨k, e, he, hr⟩
  · have g := h8 k
    rw [he, Option.all_some, decide_eq_true_eq] at g
    exact g hc
  · have g := h9 k
    rw [he, Option.all_some, decide_eq_true_eq] at g
    exact g hd
  · have g := h10 j (by rw [he]; rfl) k
    rw [he, hf] at g
    exact g (congrArg some h)

/-- `RouteLaw` with its words written out. -/
theorem routeLaw_of {s : State}
    (standby : ∀ u : UnitId, s.routes[u].valid = true ∧ s.routes[u].portsCheck ≠ .upset →
      s.routes[u].standby ≠ some s.routes[u].primary)
    (mapped : ∀ (u : UnitId) (p : PortId), s.routes[u].valid = true ∧ s.routes[u].portsCheck ≠ .upset →
      s.routes[u].primary = p ∨ s.routes[u].standby = some p → s.owners[p] = some u)
    (owner : ∀ (u : UnitId) (p : PortId), s.owners[p] = some u → s.routes[u].valid = true) : RouteLaw s :=
  ⟨standby, fun u v p hu hv hp hq => Option.some.inj ((mapped u p hu hp).symm.trans (mapped v p hv hq)), mapped, owner⟩

/-- `PositionLaw` with its words written out. -/
theorem positionLaw_of {s : State}
    (roles : ∀ k : PosId, s.positions[k].reader = s.positions[k].keypad → s.positions[k].reader = none)
    (single : ∀ j k : PosId, j ≠ k → ∀ u ∈ [s.positions[j].reader, s.positions[j].keypad], u ≠ none →
      u ∉ [s.positions[k].reader, s.positions[k].keypad])
    (limit : 1 ≤ s.sessionLimit.toNat ∧ s.sessionLimit.toNat ≤ 4) (count : sessionCount s ≤ s.sessionLimit.toNat)
    (number : ∀ k : PosId, s.positions[k].session = 0 ↔ s.positions[k].state ≠ .session)
    (distinct : ∀ j k : PosId, s.positions[j].state = .session → s.positions[k].state = .session →
      s.positions[j].session = s.positions[k].session → j = k)
    (next : s.nextSession ≠ 0) (entry : ∀ k : PosId, s.positions[k].entry.isSome = true → s.positions[k].state = .session) :
    PositionLaw s where
  roles k u h := by
    have g := roles k (h.1.trans h.2.symm)
    rw [h.1] at g
    cases g
  single j k u hj hk := by
    by_contra n
    have g := single j k n (some u)
    simp only [List.mem_cons, List.not_mem_nil, or_false, ne_eq, reduceCtorEq, not_false_eq_true, forall_const, not_or] at g
    rcases hj with h | h <;> rcases hk with f | f <;> simp_all
  limit := limit
  count := count
  number := number
  distinct := distinct
  next := next
  entry := entry

/-- The working counter obeys the seven laws. -/
theorem working_noticeLaw : NoticeLaw working := by constructor <;> decide +kernel
theorem working_lampLaw : LampLaw working := by constructor <;> decide +kernel
theorem working_portsLaw : PortsLaw working := fun p => by constructor <;> (revert p; decide +kernel)
theorem working_slotLaw : SlotLaw working := by constructor <;> decide +kernel
theorem working_routeLaw : RouteLaw working := by apply routeLaw_of <;> decide +kernel
theorem working_positionLaw : PositionLaw working := by apply positionLaw_of <;> decide +kernel
theorem working_poolLaw : PoolLaw working := poolLaw_of (by decide +kernel)

/-- StepKeepsNoticeLaw, StepKeepsLampLaw, StepKeepsPortsLaw, StepKeepsSlotLaw, StepKeepsRouteLaw, StepKeepsPositionLaw and
StepKeepsPoolLaw: the working counter obeys each law and takes a step. -/
theorem witness_StepKeepsLaws : NoticeLaw working ∧ LampLaw working ∧ PortsLaw working ∧ SlotLaw working ∧ RouteLaw working ∧
    PositionLaw working ∧ PoolLaw working ∧ ∃ t, step working = .next t :=
  ⟨working_noticeLaw, working_lampLaw, working_portsLaw, working_slotLaw, working_routeLaw, working_positionLaw, working_poolLaw,
    _, rfl⟩

/-! ### Witnesses: pins, timers and exchanges of a port -/

/-- Port 11 in a state, with a cause, a pulse and a presence level; the rest as after power-up. -/
def portIn (st : PortState) (cause : FaultCause) (pulse : Timer) (present : Bool) : State :=
  withPort 11 { State.reset.ports[(11 : PortId)] with state := st, cause := cause, pulse := pulse, present := present } State.reset

/-- Port 11 IDENTIFYING, on attempt `n` with its deadline running. -/
def identifying (n : Nat) : State :=
  withPort 11 { State.reset.ports[(11 : PortId)] with
    present := true, state := .identifying, seq := 255, identify := some ⟨n, 255, some 144, false⟩ } State.reset

/-- A port holds or sends a frame. -/
def sends (p : PortId) (tx : DeviceTx) (s : State) : State := withPort p { s.ports[p] with tx := tx } s

/-- A half-duplex port. -/
def halve (p : PortId) (s : State) : State :=
  withPort p { s.ports[p] with config := { s.ports[p].config with duplex := .half } } s

/-- The last character of a line frame. -/
def lastChar (body : List Byte) : RxChar := ⟨(frameBytes lineMark body).getLastD 0, true, true⟩

/-- A line frame that has arrived but for its last character. -/
def arriving (p : PortId) (body : List Byte) (s : State) : State :=
  withPort p { s.ports[p] with asm := .collecting (frameBytes lineMark body).dropLast, gap := some 4 } s

theorem witness_StepRunsFrontCommand :
    working.pending = .deadlineExpiry 11 :: [.grant] ∧ State.reset.pending = [] := ⟨rfl, rfl⟩

theorem witness_PinsOutsideReady :
    State.reset.ports[(0 : PortId)].state = .empty ∧ (portIn .fault .noIdentity none true).ports[(11 : PortId)].state ≠ .empty ∧
    (identifying 1).ports[(11 : PortId)].state = .identifying ∧
    ((portIn .settling .none none true).ports[(11 : PortId)].state = .settling ∧
      (portIn .settling .none none true).ports[(11 : PortId)].pulse = none) ∧
    (portIn .off .none none true).ports[(11 : PortId)].state = .off ∧
    ((portIn .settling .none (some 50) true).ports[(11 : PortId)].state = .settling ∧
      (portIn .settling .none (some 50) true).ports[(11 : PortId)].pulse ≠ none) ∧
    ((portIn .fault .noIdentity none true).ports[(11 : PortId)].state = .fault ∧
      (portIn .fault .noIdentity none true).ports[(11 : PortId)].cause ≠ .overcurrent) ∧
    ((portIn .fault .overcurrent none true).ports[(11 : PortId)].state = .fault ∧
      (portIn .fault .overcurrent none true).ports[(11 : PortId)].cause = .overcurrent) := by decide +kernel

/-- Port `p` switched OFF by SET PORT, alone. -/
def offAlone (p : PortId) : PortWrite := ⟨p, none, none, none, none, none, none, none, some false⟩

/-- A write of every setting of port 11, each at an end of its range. -/
def everySetting (power : Option Bool) : PortWrite :=
  ⟨11, some .b1200, some .c11, some .half, some 250, some 64, some 3, some .high, power⟩

theorem witness_DepartureEndsExchanges :
    PoolLaw working ∧ working.ports[(11 : PortId)].state = .ready ∧
    (∃ moved, DepartsBy 11 working (.presenceLost 11) .detached (some (.portDetached 11)) moved none) ∧
    (∃ moved, DepartsBy 11 working (.overCurrent 11) .faulted (some (.portFault 11)) moved none) ∧
    (∃ moved, DepartsBy 11 working (.resetPort 1 [0x0B]) .reset none moved (some 1)) ∧
    (∃ moved, DepartsBy 11 working (.setPort 1 [0x0B, 0x80, 0x00]) .detached none moved (some 1)) ∧
    (working.pool[(0 : RecId)].port = some 11 ∧ working.pool[(0 : RecId)].state = .awaiting) ∧
    working.pool[(1 : RecId)].state = .queued ∧ working.pool[(2 : RecId)].state = .held ∧
    (working.pool[(23 : RecId)].port ≠ some 11 ∧ working.pool[(23 : RecId)].state ≠ .reserved) ∧ PositionLaw working ∧
    PortsLaw working := by
  refine ⟨working_poolLaw, by decide +kernel, ⟨_, .inl ⟨rfl, rfl, rfl, rfl, rfl⟩⟩, ⟨_, .inr (.inl ⟨rfl, rfl, rfl, rfl, rfl⟩)⟩,
    ⟨_, .inr (.inr (.inl ⟨1, ?_, rfl, rfl, rfl, rfl, rfl⟩))⟩,
    ⟨_, .inr (.inr (.inr ⟨1, offAlone 11, ?_, rfl, rfl, rfl, ?_,
      fun h => h.1.elim (· rfl) (·.elim (· rfl) (·.elim (· rfl) (· rfl))), rfl, rfl, rfl, rfl⟩))⟩,
    by decide +kernel, by decide +kernel, by decide +kernel, by decide +kernel, working_positionLaw, working_portsLaw⟩
  · unfold HasSlot; decide +kernel
  · unfold HasSlot; decide +kernel
  · simp [SettingsFit, offAlone]

/-- Power OFF with every other setting, at a READY port without exchanges. -/
theorem witness_DepartureEndsExchanges_settings :
    PoolLaw counter ∧ counter.ports[(11 : PortId)].state = .ready ∧ PositionLaw counter ∧ PortsLaw counter ∧
    ∃ moved, DepartsBy 11 counter (.setPort 1 (portLayout (everySetting (some false)))) .detached none moved (some 1) ∧
      moved.config = ⟨.b1200, .c11, .half, 250, 64, 3, .high, false⟩ := by
  refine ⟨poolLaw_of (by decide +kernel), by decide +kernel, by apply positionLaw_of <;> decide +kernel,
    fun p => by constructor <;> (revert p; decide +kernel),
    _, .inr (.inr (.inr ⟨1, everySetting (some false), ?_, rfl, rfl, rfl, ?_, ?_, rfl, rfl, rfl, rfl⟩)), rfl⟩
  · unfold HasSlot; decide +kernel
  · simp [SettingsFit, everySetting]
  · unfold SettingsBusy; decide +kernel

/-- Position 1 with its entry DELIVERING, the delivery in a state on port 0, which is in group with nothing else. -/
def deliveringIn (st : RecState) : State :=
  withPos 0 { serving.positions[(0 : PosId)] with
      entry := some { collected [] with state := .delivering, count := 4, timer := none } }
    (withPort 0 { serving.ports[(0 : PortId)] with queue := if st = .queued then [5] else [] }
      { serving with
        pool := serving.pool.set 5 { freeExchange with
          state := st, origin := some .delivery, unit := some 0, port := some 0, position := some 0, command := 0x41
          data := [0x31, 0x32, 0x33, 0x34], seq := if st = .queued then 0 else 1, attempt := if st = .queued then 0 else 2
          deadline := if st = .awaiting then some 145 else none }
        reservations := 1 })

/-- The entry of position 1 DELIVERING, its record SENDING. -/
def delivering : State := deliveringIn .sending

theorem deliveringIn_laws (st : RecState) (h : st = .queued ∨ st = .sending ∨ st = .awaiting) :
    PoolLaw (deliveringIn st) ∧ PositionLaw (deliveringIn st) := by
  rcases h with rfl | rfl | rfl <;> exact ⟨poolLaw_of (by decide +kernel), by apply positionLaw_of <;> decide +kernel⟩

/-- The reader of position 1 leaves while it has a delivery: the entry, the card state and the reader unit of the position. -/
theorem witness_DepartureEndsExchanges_deliveries : ∀ st : RecState, st = .queued ∨ st = .awaiting →
    PoolLaw (deliveringIn st) ∧ PositionLaw (deliveringIn st) ∧ (deliveringIn st).ports[(0 : PortId)].state = .ready ∧
    (∃ moved, DepartsBy 0 (deliveringIn st) (.presenceLost 0) .detached (some (.portDetached 0)) moved none) ∧
    (deliveringIn st).positions[(0 : PosId)].entry =
      some { collected [] with state := .delivering, count := 4, timer := none } ∧
    (deliveringIn st).pool[(5 : RecId)].port = some 0 ∧
    (deliveringIn st).owners[(0 : PortId)] ≠ none ∧
    (deliveringIn st).positions[(0 : PosId)].reader = (deliveringIn st).owners[(0 : PortId)] := by
  intro st h
  have l := deliveringIn_laws st (h.imp_right .inr)
  rcases h with rfl | rfl <;>
    exact ⟨l.1, l.2, by decide +kernel, ⟨_, .inl ⟨rfl, rfl, rfl, rfl, rfl⟩⟩, by decide +kernel, by decide +kernel, by decide +kernel,
      by decide +kernel⟩

theorem witness_PortAndLampTimers :
    (let q := (withPort 11 { State.reset.ports[(11 : PortId)] with state := .settling, settle := some 100, seq := 255 }
      State.reset).ports[(11 : PortId)];
      q.state = .settling ∧ q.settle ≠ none) ∧
    State.reset.ports[(0 : PortId)].settle = none ∧
    (let q := (portIn .settling .none (some 50) true).ports[(11 : PortId)]; q.pulse ≠ none ∧ q.present = true) ∧
    (let q := (portIn .settling .none (some 50) false).ports[(11 : PortId)]; q.pulse ≠ none ∧ q.present = false) ∧
    State.reset.ports[(0 : PortId)].pulse = none ∧
    (collecting []).positions[(0 : PosId)].lamp = .flash ∧ State.reset.positions[(7 : PosId)].lamp ≠ .flash ∧
    (let q := (identifying 1).ports[(11 : PortId)];
      q.state = .identifying ∧ q.identify = some ⟨1, 255, some 144, false⟩ ∧ q.tx = .idle ∧ 1 < 1 + q.config.retryLimit.toNat) ∧
    (let q := (identifying 2).ports[(11 : PortId)];
      q.state = .identifying ∧ q.identify = some ⟨2, 255, some 144, false⟩ ∧ q.tx = .idle ∧
        1 + q.config.retryLimit.toNat ≤ 2) := by decide +kernel

/-- Tag 8 alone, QUEUED on port 11. -/
def queuedOnly : State :=
  withPort 11 { counter.ports[(11 : PortId)] with queue := [23], seq := 255 }
    { counter with pool := counter.pool.set 23 (exchange .queued 8 0) }

theorem witness_ExchangeStarts :
    (let q := queuedOnly.ports[(11 : PortId)];
      q.queue = 23 :: [] ∧ q.state = .ready ∧
      (∀ i : RecId, queuedOnly.pool[i].port = some 11 → isInFlight queuedOnly.pool[i] = false) ∧ q.tx = .idle) ∧
    counter.ports[(0 : PortId)].queue = [] ∧
    ¬ (∀ i : RecId, working.pool[i].port = some 11 → isInFlight working.pool[i] = false) := by decide +kernel

/-- Bytes of an 8-byte request frame. -/
def someFrame : List Byte := requestBytes 1 0x41 [0x00]

/-- The same frame on the line at 9600 baud with C = 10. -/
def someSent : SentFrame := sentFrame coldConfig someFrame

theorem witness_DeviceFrameStarts :
    (let q := (sends 11 (.holding (.exchange 23) someFrame) counter).ports[(11 : PortId)];
      q.tx = .holding (.exchange 23) someFrame ∧ q.config.duplex = .full) ∧
    (let q := (halve 11 (sends 11 (.holding (.exchange 23) someFrame) counter)).ports[(11 : PortId)];
      q.tx = .holding (.exchange 23) someFrame ∧ isHunting q.asm = true ∧ lineMs q.config 2 ≤ 3) ∧
    (let q := (sends 11 (.holding .identify someFrame) (identifying 1)).ports[(11 : PortId)];
      q.tx = .holding .identify someFrame ∧ q.identify = some ⟨1, 255, some 144, false⟩ ∧ q.config.duplex = .full) ∧
    counter.ports[(0 : PortId)].tx = .idle ∧
    (let q := (halve 11 (sends 11 (.holding (.exchange 23) someFrame) counter)).ports[(11 : PortId)];
      ¬ (q.config.duplex = .full ∨ (isHunting q.asm = true ∧ lineMs q.config 2 ≤ 2))) := by decide +kernel

/-- Both branches of the floor of 20 ms: Table 4.2's third case lies below it. -/
theorem witness_DeadlineOfAnAttempt :
    lineMs { coldConfig with rate := .b115200 } 7 + 20 * 0 + lineMs { coldConfig with rate := .b115200 } 32 + 2 + 0 < 20 ∧
    20 ≤ lineMs coldConfig 19 + 20 * 5 + lineMs coldConfig 32 + 2 + 0 := by decide +kernel

theorem witness_DeviceFrameEnds :
    (let s := sends 11 (.sending (.exchange 23) someSent true false)
        { counter with pool := counter.pool.set 23 (exchange .sending 8 1) };
      s.ports[(11 : PortId)].tx = .sending (.exchange 23) someSent true false ∧ s.ports[(11 : PortId)].identify = none ∧
      s.pool[(23 : RecId)].state = .sending) ∧
    (let s := sends 11 (.sending (.exchange 23) someSent false false)
        { counter with pool := counter.pool.set 23 (exchange .orphaned 8 1) };
      s.ports[(11 : PortId)].tx = .sending (.exchange 23) someSent false false ∧ s.pool[(23 : RecId)].state = .orphaned) ∧
    (sends 11 (.sending .nobody someSent false false) counter).ports[(11 : PortId)].tx = .sending .nobody someSent false false ∧
    (let q := (sends 11 (.sending .identify someSent false false) (identifying 2)).ports[(11 : PortId)];
      q.tx = .sending .identify someSent false false ∧ q.identify = some ⟨2, 255, some 144, false⟩) ∧
    counter.ports[(0 : PortId)].tx = .idle := by decide +kernel

theorem witness_DeadlineRetries : PoolLaw working ∧ working.pool[(0 : RecId)].port = some 11 ∧
    working.pool[(0 : RecId)].state = .awaiting ∧ working.pool[(0 : RecId)].deadline = some 145 ∧
    working.pool[(0 : RecId)].attempt < 1 + working.ports[(11 : PortId)].config.retryLimit.toNat :=
  ⟨working_poolLaw, by decide +kernel, by decide +kernel, by decide +kernel, by decide +kernel⟩

/-- The working counter with tag 7 on its last attempt and `n` failures in a row. -/
def lastAttempt (n : Nat) : State :=
  withPort 11 { working.ports[(11 : PortId)] with failures := n }
    { working with pool := working.pool.set 0 { working.pool[(0 : RecId)] with attempt := 2 } }

theorem witness_LastDeadlineEndsTimeout :
    (∀ n, n = 2 ∨ n = 3 → PoolLaw (lastAttempt n)) ∧
    (let s := lastAttempt 3;
      s.pool[(0 : RecId)].port = some 11 ∧ s.pool[(0 : RecId)].state = .awaiting ∧ s.pool[(0 : RecId)].deadline = some 145 ∧
      1 + s.ports[(11 : PortId)].config.retryLimit.toNat ≤ s.pool[(0 : RecId)].attempt ∧
      s.pool[(0 : RecId)].origin = some .workstation ∧ s.pool[(0 : RecId)].group = none ∧ s.ports[(11 : PortId)].failures = 3) ∧
    (lastAttempt 2).ports[(11 : PortId)].failures < 3 ∧
    PositionLaw (lastAttempt 3) ∧ PortsLaw (ended 11 0 .timeout 0 [] (lastAttempt 3)) := by
  refine ⟨?_, by decide +kernel, by decide +kernel, by apply positionLaw_of <;> decide +kernel,
    fun p => by constructor <;> (revert p; decide +kernel)⟩
  rintro n (rfl | rfl) <;> exact poolLaw_of (by decide +kernel)

/-- The working counter with tags 7 and 8 made the two members of one group request of tag 7, whose expected count is 1. -/
def members : State :=
  { working with
    pool := (working.pool.set 0 { working.pool[(0 : RecId)] with group := some 7, attempt := 2 }).set 1
      { working.pool[(1 : RecId)] with tag := some 7, group := some 7 }
    groupRecords := [⟨7, 0, 1, 2, 0, 0, false⟩], reservations := 2 }

/-- The working counter with tag 7 ORPHANED on its first attempt. -/
def orphanedIn (n : Nat) : State :=
  withPort 11 { working.ports[(11 : PortId)] with failures := n }
    { working with pool := working.pool.set 0 { working.pool[(0 : RecId)] with state := .orphaned } }

/-- A member, a delivery and an orphan whose deadline runs, with two failures before it and, for the orphan, with three. -/
theorem witness_LastDeadlineEndsTimeout_others :
    (PoolLaw members ∧ PositionLaw members ∧ members.pool[(0 : RecId)].port = some 11 ∧
      members.pool[(0 : RecId)].state = .awaiting ∧ members.pool[(0 : RecId)].deadline = some 145 ∧
      1 + members.ports[(11 : PortId)].config.retryLimit.toNat ≤ members.pool[(0 : RecId)].attempt ∧
      members.ports[(11 : PortId)].failures < 3) ∧
    (let s := withPort 0 { (deliveringIn .awaiting).ports[(0 : PortId)] with failures := 3 } (deliveringIn .awaiting);
      PoolLaw s ∧ PositionLaw s ∧ s.pool[(5 : RecId)].port = some 0 ∧ s.pool[(5 : RecId)].state = .awaiting ∧
      s.pool[(5 : RecId)].deadline = some 145 ∧
      1 + s.ports[(0 : PortId)].config.retryLimit.toNat ≤ s.pool[(5 : RecId)].attempt ∧ s.ports[(0 : PortId)].failures = 3 ∧
      s.pool[(5 : RecId)].origin = some .delivery) ∧
    ∀ n, n = 2 ∨ n = 3 → PoolLaw (orphanedIn n) ∧ PositionLaw (orphanedIn n) ∧
      (orphanedIn n).pool[(0 : RecId)].state = .orphaned ∧ (orphanedIn n).pool[(0 : RecId)].port = some 11 ∧
      (orphanedIn n).pool[(0 : RecId)].deadline = some 145 ∧ (orphanedIn n).ports[(11 : PortId)].failures = n := by
  refine ⟨⟨poolLaw_of (by decide +kernel), by apply positionLaw_of <;> decide +kernel, by decide +kernel⟩,
    ⟨poolLaw_of (by decide +kernel), by apply positionLaw_of <;> decide +kernel, by decide +kernel⟩, ?_⟩
  rintro n (rfl | rfl) <;>
    exact ⟨poolLaw_of (by decide +kernel), by apply positionLaw_of <;> decide +kernel, by decide +kernel⟩

theorem witness_RepliesEndOrStray :
    (let body := lineReply :: 1 :: 0x00 :: List.replicate 25 0x55;
      let s := arriving 11 body working;
      PoolLaw s ∧ s.ports[(11 : PortId)].state = .ready ∧ Completes 11 body (lastChar body) s ∧
      25 + 7 ≤ s.ports[(11 : PortId)].config.replyLimit.toNat ∧ s.ports[(11 : PortId)].config.replyLimit.toNat ≤ 64 ∧
      s.pool[(0 : RecId)].port = some 11 ∧ s.pool[(0 : RecId)].state = .awaiting ∧
      s.pool[(0 : RecId)].origin = some .workstation ∧ s.pool[(0 : RecId)].group = none ∧ s.pool[(0 : RecId)].seq = 1) ∧
    (let body : List Byte := [lineReply, 2, 0x00];
      let s := arriving 11 body working;
      Completes 11 body (lastChar body) s ∧
      ∀ i : RecId, s.pool[i].port = some 11 → isInFlight s.pool[i] = true → s.pool[i].seq ≠ 2) :=
  ⟨⟨poolLaw_of (by decide +kernel), by decide +kernel, completes_sound (by decide +kernel), by decide +kernel, by decide +kernel,
    by decide +kernel, by decide +kernel, by decide +kernel, by decide +kernel, by decide +kernel⟩,
    completes_sound (by decide +kernel), by decide +kernel⟩

/-- Replies with the seq of a member, of a delivery and of an orphan. -/
theorem witness_RepliesEndOrStray_others :
    let body : List Byte := [lineReply, 1, 0x00, 0x55];
    (let s := arriving 11 body members;
      PoolLaw s ∧ PositionLaw s ∧ Completes 11 body (lastChar body) s ∧ s.ports[(11 : PortId)].state = .ready ∧
      s.pool[(0 : RecId)].port = some 11 ∧ s.pool[(0 : RecId)].seq = 1 ∧ s.pool[(0 : RecId)].state = .awaiting) ∧
    (let s := arriving 0 body delivering;
      PoolLaw s ∧ PositionLaw s ∧ Completes 0 body (lastChar body) s ∧ s.ports[(0 : PortId)].state = .ready ∧
      s.pool[(5 : RecId)].port = some 0 ∧ s.pool[(5 : RecId)].seq = 1 ∧ s.pool[(5 : RecId)].state = .sending) ∧
    (let s := arriving 11 body (orphanedIn 3);
      PoolLaw s ∧ Completes 11 body (lastChar body) s ∧ s.ports[(11 : PortId)].state = .ready ∧
      s.pool[(0 : RecId)].port = some 11 ∧ s.pool[(0 : RecId)].seq = 1 ∧ s.pool[(0 : RecId)].state = .orphaned) :=
  ⟨⟨poolLaw_of (by decide +kernel), by apply positionLaw_of <;> decide +kernel, completes_sound (by decide +kernel),
      by decide +kernel⟩,
    ⟨poolLaw_of (by decide +kernel), by apply positionLaw_of <;> decide +kernel, completes_sound (by decide +kernel),
      by decide +kernel⟩,
    poolLaw_of (by decide +kernel), completes_sound (by decide +kernel), by decide +kernel⟩

theorem witness_HoldLimitDiscardsReply :
    working.pool[(2 : RecId)].state = .held ∧ working.pool[(2 : RecId)].port = some 11 ∧
    working.pool[(2 : RecId)].hold = some 2000 ∧
    (let s := { working with pool := working.pool.set 2 { working.pool[(2 : RecId)] with hold := none } };
      s.pool[(2 : RecId)].state = .held ∧ s.pool[(2 : RecId)].port = some 11 ∧ s.pool[(2 : RecId)].hold = none) := by decide +kernel

theorem witness_IdentifyReplyMakesReady :
    (let body : List Byte := lineReply :: 255 :: 0x00 :: deviceClassCode .reader :: 0x12 :: 0x34 :: 0 :: 1 :: List.replicate 20 0;
      let s := routeTo 23 11 .keypad (arriving 11 body (identifying 2));
      s.ports[(11 : PortId)].state = .identifying ∧ s.ports[(11 : PortId)].identify = some ⟨2, 255, some 144, false⟩ ∧
      20 + 12 ≤ s.ports[(11 : PortId)].config.replyLimit.toNat ∧ Completes 11 body (lastChar body) s ∧
      s.owners[(11 : PortId)] = some 23 ∧ s.routes[(23 : UnitId)].portsCheck = .good ∧
      s.routes[(23 : UnitId)].classCheck = .good ∧ ¬ Agrees s.routes[(23 : UnitId)].expected .reader) ∧
    (let body : List Byte := [lineReply, 254, 0x00, 1];
      Completes 11 body (lastChar body) (arriving 11 body (identifying 2))) := by
  refine ⟨⟨by decide +kernel, by decide +kernel, by decide +kernel, completes_sound (by decide +kernel), by decide +kernel,
    by decide +kernel, by decide +kernel, ?_⟩, completes_sound (by decide +kernel)⟩
  unfold Agrees; decide +kernel

/-- Unusable replies: a status other than 00, four data bytes, and a class byte of 4; with attempts remaining and the DPC idle or
still sending, and on the last attempt. -/
theorem witness_IdentifyReplyMakesReady_unusable :
    ∀ body ∈ ([[lineReply, 255, 0x01, 1, 0, 0, 0, 0], [lineReply, 255, 0x00, 1, 0, 0, 0], [lineReply, 255, 0x00, 4, 0, 0, 0, 0]] :
      List (List Byte)),
      Completes 11 body (lastChar body) (arriving 11 body (identifying 1)) ∧
      Completes 11 body (lastChar body) (arriving 11 body (sends 11 (.sending .identify someSent false false) (identifying 1))) ∧
      Completes 11 body (lastChar body) (arriving 11 body (identifying 2)) ∧
      ¬ ((body.drop 2).head? = some 0 ∧ 5 ≤ (body.drop 3).length ∧
        ((body.drop 3).head? = some 1 ∨ (body.drop 3).head? = some 2 ∨ (body.drop 3).head? = some 3)) ∧
      (identifying 1).ports[(11 : PortId)].tx = .idle ∧ 1 < 1 + (identifying 1).ports[(11 : PortId)].config.retryLimit.toNat ∧
      ¬ 2 < 1 + (identifying 2).ports[(11 : PortId)].config.retryLimit.toNat := by
  intro body h
  simp only [List.mem_cons, List.not_mem_nil, or_false] at h
  rcases h with rfl | rfl | rfl <;>
    exact ⟨completes_sound (by decide +kernel), completes_sound (by decide +kernel), completes_sound (by decide +kernel),
      by decide +kernel⟩

/-! ### Witnesses: device events and private entry -/

/-- Port 11 with eight events waiting. -/
def crowded : State :=
  withPort 11 { counter.ports[(11 : PortId)] with
    outbound := List.replicate 8 (.event 23 0 0x31 0 []), lost := 255 } counter

theorem witness_EventsOfAUnitInNoPosition :
    (let body : List Byte := lineEvent :: 0 :: 0x31 :: List.replicate 57 0;
      counter.ports[(11 : PortId)].state = .ready ∧ Completes 11 body (lastChar body) (arriving 11 body counter) ∧
      Completes 11 body (lastChar body) (arriving 11 body crowded) ∧
      (arriving 11 body counter).owners[(11 : PortId)] = some 23 ∧ counter.routes[(23 : UnitId)].portsCheck = .good ∧
      counter.routes[(23 : UnitId)].classCheck = .good ∧ Unassigned 23 counter ∧
      (counter.ports[(11 : PortId)].passSet.getLsbD (classBit (eventClass 0x31 (List.replicate 57 0))) = true) ∧
      counter.ports[(11 : PortId)].outbound.countP isEvent < 8 ∧ 8 ≤ crowded.ports[(11 : PortId)].outbound.countP isEvent) ∧
    { counter with owners := counter.owners.set 11 none }.owners[(11 : PortId)] = none ∧
    ((withPort 11 { counter.ports[(11 : PortId)] with passSet := 0 } counter).ports[(11 : PortId)].passSet.getLsbD
      (classBit (eventClass 0x31 [])) ≠ true) := by
  refine ⟨⟨by decide +kernel, completes_sound (by decide +kernel), completes_sound (by decide +kernel), by decide +kernel,
    by decide +kernel, by decide +kernel, ?_, by decide +kernel, by decide +kernel, by decide +kernel⟩, by decide +kernel,
    by decide +kernel⟩
  unfold Unassigned Assigned; decide +kernel

/-- A unit's route entry with its CLASS section upset. -/
def upsetClass (u : UnitId) (s : State) : State :=
  { s with routes := s.routes.set u { s.routes[u] with classCheck := .upset } }

/-- Events of faulted owners: of a unit in no position, and of the reader and the keypad of a position whose entry collects. -/
theorem witness_EventsOfAUnitInNoPosition_faulted :
    let body : List Byte := [lineEvent, 0, 0x31];
    (let s := arriving 11 body (upsetClass 23 counter);
      Completes 11 body (lastChar body) s ∧ PositionLaw s ∧ s.owners[(11 : PortId)] = some 23 ∧
      s.routes[(23 : UnitId)].valid = true ∧ s.routes[(23 : UnitId)].classCheck ≠ .good ∧ Unassigned 23 s) ∧
    (let s := arriving 0 body (upsetClass 0 (collecting []));
      Completes 0 body (lastChar body) s ∧ PositionLaw s ∧ s.owners[(0 : PortId)] = some 0 ∧ s.routes[(0 : UnitId)].valid = true ∧
      s.routes[(0 : UnitId)].classCheck ≠ .good ∧ s.positions[(0 : PosId)].reader = some 0 ∧
      s.positions[(0 : PosId)].entry = some (collected [])) ∧
    (let s := arriving 1 body (upsetClass 1 (collecting []));
      Completes 1 body (lastChar body) s ∧ PositionLaw s ∧ s.owners[(1 : PortId)] = some 1 ∧ s.routes[(1 : UnitId)].valid = true ∧
      s.routes[(1 : UnitId)].classCheck ≠ .good ∧ s.positions[(0 : PosId)].keypad = some 1) := by
  refine ⟨⟨completes_sound (by decide +kernel), by apply positionLaw_of <;> decide +kernel, by decide +kernel, by decide +kernel,
    by decide +kernel, ?_⟩, ⟨completes_sound (by decide +kernel), by apply positionLaw_of <;> decide +kernel, by decide +kernel⟩,
    completes_sound (by decide +kernel), by apply positionLaw_of <;> decide +kernel, by decide +kernel⟩
  unfold Unassigned Assigned; decide +kernel

/-- Position 1 CLOSED, its units assigned. -/
def closedCounter : State :=
  withPos 0 { counter.positions[(0 : PosId)] with state := .closed, lamp := .off, lampLit := false } counter

theorem witness_ClosedPositionStopsEvents :
    (let body : List Byte := [lineEvent, 0, 0x20, 0x3F];
      let s := arriving 1 body closedCounter;
      LampLaw s ∧ PositionLaw s ∧ s.ports[(1 : PortId)].state = .ready ∧ Completes 1 body (lastChar body) s ∧
      s.owners[(1 : PortId)] = some 1 ∧ s.routes[(1 : UnitId)].portsCheck = .good ∧ s.routes[(1 : UnitId)].classCheck = .good ∧
      Assigned s.positions[(0 : PosId)] 1 ∧ s.positions[(0 : PosId)].state = .closed) ∧
    (let body : List Byte := lineEvent :: 0 :: 0x11 :: List.replicate 57 0;
      let s := arriving 0 body closedCounter;
      LampLaw s ∧ PositionLaw s ∧ Completes 0 body (lastChar body) s ∧ s.owners[(0 : PortId)] = some 0 ∧
      s.positions[(0 : PosId)].reader = some 0) :=
  ⟨⟨by constructor <;> decide +kernel, by apply positionLaw_of <;> decide +kernel, by decide +kernel,
    completes_sound (by decide +kernel), by decide +kernel, by decide +kernel, by decide +kernel,
    .inr (by decide +kernel), by decide +kernel⟩,
    by constructor <;> decide +kernel, by apply positionLaw_of <;> decide +kernel, completes_sound (by decide +kernel),
    by decide +kernel, by decide +kernel⟩

theorem witness_CardEventsFollowThePosition :
    (PositionLaw counter ∧ PositionLaw serving) ∧
    (counter.ports[(0 : PortId)].state = .ready ∧ counter.owners[(0 : PortId)] = some 0 ∧
      counter.routes[(0 : UnitId)].portsCheck = .good ∧ counter.routes[(0 : UnitId)].classCheck = .good ∧
      counter.positions[(0 : PosId)].reader = some 0 ∧ counter.positions[(0 : PosId)].state = .open ∧
      counter.positions[(0 : PosId)].entry = none ∧ counter.ports[(0 : PortId)].outbound.countP isEvent < 8 ∧
      serving.positions[(0 : PosId)].state = .session ∧ serving.positions[(0 : PosId)].entry = none ∧
      serving.ports[(0 : PortId)].passSet.getLsbD 0 = true ∧ serving.ports[(0 : PortId)].passSet.getLsbD 1 = true) ∧
    ∀ code : Byte, code = 0x10 ∨ code = 0x11 ∨ code = 0x12 →
      Completes 0 (lineEvent :: 0 :: code :: [0xAA]) (lastChar (lineEvent :: 0 :: code :: [0xAA]))
          (arriving 0 (lineEvent :: 0 :: code :: [0xAA]) counter) ∧
        Completes 0 (lineEvent :: 0 :: code :: [0xAA]) (lastChar (lineEvent :: 0 :: code :: [0xAA]))
          (arriving 0 (lineEvent :: 0 :: code :: [0xAA]) serving) := by
  refine ⟨⟨by apply positionLaw_of <;> decide +kernel, by apply positionLaw_of <;> decide +kernel⟩, by decide +kernel, ?_⟩
  rintro code (rfl | rfl | rfl) <;> exact ⟨completes_sound (by decide +kernel), completes_sound (by decide +kernel)⟩

/-- The card leaves while the entry collects, and while it is DELIVERING. -/
theorem witness_CardEventsFollowThePosition_entry :
    let body : List Byte := [lineEvent, 0, 0x11];
    (let s := arriving 0 body (collecting []);
      Completes 0 body (lastChar body) s ∧ PositionLaw s ∧ s.ports[(0 : PortId)].state = .ready ∧
      s.positions[(0 : PosId)].reader = some 0 ∧ s.positions[(0 : PosId)].state = .session ∧
      s.positions[(0 : PosId)].entry = some (collected []) ∧ s.ports[(0 : PortId)].passSet.getLsbD 0 = true) ∧
    (let s := arriving 0 body delivering;
      Completes 0 body (lastChar body) s ∧ PositionLaw s ∧
      s.positions[(0 : PosId)].entry = some { collected [] with state := .delivering, count := 4, timer := none }) :=
  ⟨⟨completes_sound (by decide +kernel), by apply positionLaw_of <;> decide +kernel, by decide +kernel⟩,
    completes_sound (by decide +kernel), by apply positionLaw_of <;> decide +kernel, by decide +kernel⟩

/-- What the clause on every event asks for, of a frame that has arrived but for its last character. -/
def otherEvent (p : PortId) (u : UnitId) (code : Byte) (data : List Byte) (s : State) : Prop :=
  Completes p (lineEvent :: 0 :: code :: data) (lastChar (lineEvent :: 0 :: code :: data)) s ∧ PositionLaw s ∧
    s.ports[p].state = .ready ∧ s.owners[p] = some u ∧ s.routes[u].portsCheck = .good ∧ s.routes[u].classCheck = .good ∧
    s.positions[(0 : PosId)].state ≠ .closed ∧
    (s.positions[(0 : PosId)].reader = some u ∨ s.positions[(0 : PosId)].keypad = some u)

/-- A port's settings of the event path. -/
def passing (p : PortId) (set : BitVec 9) (waiting : Nat) (s : State) : State :=
  withPort p { s.ports[p] with passSet := set, outbound := List.replicate waiting (.event 0 0 0x13 0 []) } s

/-- At an OPEN position: a KEY CALL, a card event of the keypad unit, CARD_DATA, and CARD_INSERTED of a reader whose pass set is empty or
whose list is full; in SESSION: reader and keypad status, and a KEY without an entry. -/
theorem witness_CardEventsFollowThePosition_others :
    (let s := arriving 1 [lineEvent, 0, 0x20, 0x3F] counter;
      otherEvent 1 1 0x20 [0x3F] s ∧ s.positions[(0 : PosId)].entry = none ∧
        s.ports[(1 : PortId)].passSet.getLsbD (classBit (eventClass 0x20 [0x3F])) = true) ∧
    (let s := arriving 1 [lineEvent, 0, 0x10] counter; otherEvent 1 1 0x10 [] s ∧ s.positions[(0 : PosId)].reader ≠ some 1) ∧
    (let s := arriving 0 [lineEvent, 0, 0x12] (passing 0 0 8 counter);
      otherEvent 0 0 0x12 [] s ∧ s.positions[(0 : PosId)].reader = some 0 ∧ s.positions[(0 : PosId)].state = .open) ∧
    (let s := arriving 0 [lineEvent, 0, 0x10] (passing 0 0 0 counter);
      otherEvent 0 0 0x10 [] s ∧ s.positions[(0 : PosId)].state = .open ∧
        ¬ s.ports[(0 : PortId)].passSet.getLsbD (classBit (eventClass 0x10 [])) = true) ∧
    (let s := arriving 0 [lineEvent, 0, 0x10] (passing 0 0x1FF 8 counter);
      otherEvent 0 0 0x10 [] s ∧ 8 ≤ s.ports[(0 : PortId)].outbound.countP isEvent) ∧
    (let s := arriving 0 [lineEvent, 0, 0x13] (passing 0 0x1FF 7 serving);
      otherEvent 0 0 0x13 [] s ∧ s.ports[(0 : PortId)].outbound.countP isEvent < 8) ∧
    otherEvent 1 1 0x21 [] (arriving 1 [lineEvent, 0, 0x21] serving) ∧
    (let s := arriving 1 [lineEvent, 0, 0x20, 0x31] serving;
      otherEvent 1 1 0x20 [0x31] s ∧ s.positions[(0 : PosId)].entry = none) := by
  have h (p : PortId) (u : UnitId) (code : Byte) (data : List Byte) (s : State)
      (hc : completes p (lineEvent :: 0 :: code :: data) (lastChar (lineEvent :: 0 :: code :: data)) s = true) (hp : PositionLaw s)
      (hr : s.ports[p].state = .ready ∧ s.owners[p] = some u ∧ s.routes[u].portsCheck = .good ∧ s.routes[u].classCheck = .good ∧
        s.positions[(0 : PosId)].state ≠ .closed ∧
        (s.positions[(0 : PosId)].reader = some u ∨ s.positions[(0 : PosId)].keypad = some u)) : otherEvent p u code data s :=
    ⟨completes_sound hc, hp, hr⟩
  refine ⟨⟨h _ _ _ _ _ (by decide +kernel) (by apply positionLaw_of <;> decide +kernel) (by decide +kernel), by decide +kernel⟩,
    ⟨h _ _ _ _ _ (by decide +kernel) (by apply positionLaw_of <;> decide +kernel) (by decide +kernel), by decide +kernel⟩,
    ⟨h _ _ _ _ _ (by decide +kernel) (by apply positionLaw_of <;> decide +kernel) (by decide +kernel), by decide +kernel⟩,
    ⟨h _ _ _ _ _ (by decide +kernel) (by apply positionLaw_of <;> decide +kernel) (by decide +kernel), by decide +kernel⟩,
    ⟨h _ _ _ _ _ (by decide +kernel) (by apply positionLaw_of <;> decide +kernel) (by decide +kernel), by decide +kernel⟩,
    ⟨h _ _ _ _ _ (by decide +kernel) (by apply positionLaw_of <;> decide +kernel) (by decide +kernel), by decide +kernel⟩,
    h _ _ _ _ _ (by decide +kernel) (by apply positionLaw_of <;> decide +kernel) (by decide +kernel),
    h _ _ _ _ _ (by decide +kernel) (by apply positionLaw_of <;> decide +kernel) (by decide +kernel), by decide +kernel⟩

/-- A key of the keypad of position 1 that has arrived but for its last character. -/
def typing (key : Byte) (s : State) : State := arriving 1 [lineEvent, 0, 0x20, key] s

theorem typing_completes (key : Byte) (digits : List Byte) (h : key ∈ [0x30, 0x39, 0x43, 0x58, 0x0D, 0x81])
    (hd : digits = [0x31] ∨ digits = [0x31, 0x32, 0x33, 0x34] ∨ digits = [0x31, 0x32, 0x33, 0x34, 0x35, 0x36]) :
    Completes 1 [lineEvent, 0, 0x20, key] (lastChar [lineEvent, 0, 0x20, key]) (typing key (collecting digits)) := by
  simp only [List.mem_cons, List.not_mem_nil, or_false] at h
  rcases h with rfl | rfl | rfl | rfl | rfl | rfl <;> rcases hd with rfl | rfl | rfl <;>
    exact completes_sound (by decide +kernel)

theorem witness_TypedDigitsStayInTheEntry :
    let s := typing 0x30 (collecting [0x31]);
    let other : Assembler := .collecting (frameBytes lineMark [lineEvent, 0, 0x20, 0x39]).dropLast;
    PositionLaw s ∧ s.ports[(1 : PortId)].state = .ready ∧ s.owners[(1 : PortId)] = some 1 ∧
    s.routes[(1 : UnitId)].portsCheck = .good ∧ s.routes[(1 : UnitId)].classCheck = .good ∧
    s.positions[(0 : PosId)].keypad = some 1 ∧ s.positions[(0 : PosId)].entry = some (collected [0x31]) ∧
    isDigitKey 0x30 = true ∧ isDigitKey 0x39 = true ∧
    Completes 1 [lineEvent, 0, 0x20, 0x30] (lastChar [lineEvent, 0, 0x20, 0x30]) s ∧
    Completes 1 [lineEvent, 0, 0x20, 0x39] (lastChar [lineEvent, 0, 0x20, 0x39])
      (withPort 1 { s.ports[(1 : PortId)] with asm := other } s) :=
  ⟨by apply positionLaw_of <;> decide +kernel, by decide +kernel, by decide +kernel, by decide +kernel, by decide +kernel,
    by decide +kernel, by decide +kernel, by decide, by decide, typing_completes _ _ (by decide) (.inl rfl),
    completes_sound (by decide +kernel)⟩

theorem witness_KeysOfACollectingEntry :
    let s := typing 0x39 (collecting [0x31]);
    PositionLaw s ∧ s.ports[(1 : PortId)].state = .ready ∧ s.owners[(1 : PortId)] = some 1 ∧
    s.routes[(1 : UnitId)].portsCheck = .good ∧ s.routes[(1 : UnitId)].classCheck = .good ∧
    s.positions[(0 : PosId)].keypad = some 1 ∧ s.positions[(0 : PosId)].entry = some (collected [0x31]) ∧
    (collected [0x31]).state = .collecting ∧ (collected [0x31]).digits.length < (collected [0x31]).max ∧
    (collected [0x31]).digits.length < (collected [0x31]).min ∧
    ∀ key ∈ ([0x30, 0x39, 0x43, 0x58, 0x0D, 0x81] : List Byte),
      Completes 1 [lineEvent, 0, 0x20, key] (lastChar [lineEvent, 0, 0x20, key]) (typing key (collecting [0x31])) :=
  ⟨by apply positionLaw_of <;> decide +kernel, by decide +kernel, by decide +kernel, by decide +kernel, by decide +kernel,
    by decide +kernel, by decide +kernel, rfl, by decide, by decide, fun key h => typing_completes key _ h (.inl rfl)⟩

/-- A digit at the maximum of six. -/
theorem witness_KeysOfACollectingEntry_full :
    let e := collected [0x31, 0x32, 0x33, 0x34, 0x35, 0x36];
    let s := typing 0x39 (collecting [0x31, 0x32, 0x33, 0x34, 0x35, 0x36]);
    PositionLaw s ∧ Completes 1 [lineEvent, 0, 0x20, 0x39] (lastChar [lineEvent, 0, 0x20, 0x39]) s ∧
    s.positions[(0 : PosId)].entry = some e ∧ isDigitKey 0x39 = true ∧ e.max ≤ e.digits.length :=
  ⟨by apply positionLaw_of <;> decide +kernel, typing_completes _ _ (by decide) (.inr (.inr rfl)), by decide +kernel⟩

/-- A KEY without a data byte while COLLECTING, and an ENTER, a CLEAR and a CANCEL while DELIVERING. -/
theorem witness_KeysOfACollectingEntry_dropped :
    (let s := arriving 1 [lineEvent, 0, 0x20] (collecting [0x31]);
      PositionLaw s ∧ Completes 1 [lineEvent, 0, 0x20] (lastChar [lineEvent, 0, 0x20]) s ∧ s.ports[(1 : PortId)].state = .ready ∧
      s.owners[(1 : PortId)] = some 1 ∧ s.positions[(0 : PosId)].keypad = some 1 ∧
      s.positions[(0 : PosId)].entry = some (collected [0x31])) ∧
    ∀ key ∈ ([0x0D, 0x43, 0x58] : List Byte),
      let s := typing key delivering;
      PositionLaw s ∧ Completes 1 [lineEvent, 0, 0x20, key] (lastChar [lineEvent, 0, 0x20, key]) s ∧
      s.positions[(0 : PosId)].entry = some { collected [] with state := .delivering, count := 4, timer := none } := by
  refine ⟨⟨by apply positionLaw_of <;> decide +kernel, completes_sound (by decide +kernel), by decide +kernel⟩, fun key h => ?_⟩
  simp only [List.mem_cons, List.not_mem_nil, or_false] at h
  rcases h with rfl | rfl | rfl <;>
    exact ⟨by apply positionLaw_of <;> decide +kernel, completes_sound (by decide +kernel), by decide +kernel⟩

theorem witness_CompleteEnterDelivers :
    let s := typing 0x0D (collecting [0x31, 0x32, 0x33, 0x34]);
    let e := collected [0x31, 0x32, 0x33, 0x34];
    PositionLaw s ∧ s.ports[(1 : PortId)].state = .ready ∧ s.owners[(1 : PortId)] = some 1 ∧
    s.routes[(1 : UnitId)].portsCheck = .good ∧ s.routes[(1 : UnitId)].classCheck = .good ∧
    s.positions[(0 : PosId)].keypad = some 1 ∧ s.positions[(0 : PosId)].entry = some e ∧ e.state = .collecting ∧
    e.min ≤ e.digits.length ∧ Completes 1 [lineEvent, 0, 0x20, 0x0D] (lastChar [lineEvent, 0, 0x20, 0x0D]) s ∧
    s.positions[(0 : PosId)].card = .cardIn ∧ s.positions[(0 : PosId)].reader = some 0 ∧ Serves 0 0 (sampled 1 s) ∧
    (withPos 0 { s.positions[(0 : PosId)] with card := .noCard } s).positions[(0 : PosId)].card = .noCard :=
  ⟨by apply positionLaw_of <;> decide +kernel, by decide +kernel, by decide +kernel, by decide +kernel, by decide +kernel,
    by decide +kernel, by decide +kernel, rfl, by decide, typing_completes _ _ (by decide) (.inr (.inl rfl)), by decide +kernel,
    by decide +kernel, serves_of_usableTest _ (by decide +kernel) (by decide +kernel), by decide +kernel⟩

theorem witness_EntriesEndUndelivered :
    ((collecting []).positions[(0 : PosId)].state = .session ∧
      (collecting []).positions[(0 : PosId)].entry = some (collected []) ∧ (collected []).state = .collecting ∧
      (collected []).timer = some 10000 ∧ 1 ≤ (collecting []).reservations) ∧
    serving.positions[(0 : PosId)].entry = none ∧ serving.positions[(0 : PosId)].state = .session ∧
    counter.positions[(7 : PosId)].state ≠ .session ∧
    (delivering.positions[(0 : PosId)].entry = some { collected [] with state := .delivering, count := 4, timer := none } ∧
      delivering.pool[(5 : RecId)].state = .sending) ∧
    (HasSlot (collecting []) ∧ HasSlot serving ∧ HasSlot counter ∧ HasSlot delivering) ∧
    (let s := deliveringIn .queued;
      HasSlot s ∧ s.positions[(0 : PosId)].state = .session ∧
      s.positions[(0 : PosId)].entry = some { collected [] with state := .delivering, count := 4, timer := none } ∧
      s.pool[(5 : RecId)].state = .queued ∧ s.pool[(5 : RecId)].port = some 0 ∧ 1 ≤ s.reservations) := by
  unfold HasSlot; decide +kernel

/-! ### Witnesses: received characters and counter frames -/

theorem witness_CharactersAndGapExpiries :
    (let q := counter.ports[(11 : PortId)];
      q.state = .ready ∧ q.tx = .idle ∧ q.asm = .hunting false ∧ charError q.config.charLen ⟨0x3C, false, true⟩ = false ∧
      charError q.config.charLen ⟨0x3C, false, false⟩ = true ∧ (0x3D : Byte) ≠ 0x3C ∧ q.gap = none) ∧
    (let q := (sends 11 (.sending .nobody someSent true false) counter).ports[(11 : PortId)];
      q.state = .ready ∧ q.tx = .sending .nobody someSent true false) ∧
    (let q := (sends 11 (.sending .nobody someSent true true) counter).ports[(11 : PortId)];
      q.state = .ready ∧ q.tx = .sending .nobody someSent true true) ∧
    ¬ (counter.ports[(5 : PortId)].state = .identifying ∨ counter.ports[(5 : PortId)].state = .ready) ∧
    (arriving 11 [lineEvent, 0, 0x30] counter).ports[(11 : PortId)].gap ≠ none ∧
    counter.wsAsm = .hunting false ∧ counter.wsGap = none ∧ { counter with wsGap := some 50 }.wsGap ≠ none := by decide +kernel

/-- Port 11 in a frame with these bytes so far. -/
def inFrame (bytes : List Byte) (s : State) : State :=
  withPort 11 { s.ports[(11 : PortId)] with asm := .collecting bytes, gap := some 4 } s

/-- In a frame: an error, length bytes at the ends of their ranges, a byte before the last check byte, and complete frames that fail
each test of R27 and R28: the check, a kind of 1 and of 4, a seq of 0 and of 1, a reply of 33 bytes over an Lr of 32, and an EVENT while
IDENTIFYING. -/
theorem witness_CharactersAndGapExpiries_frames :
    (let q := (inFrame [0x3C] counter).ports[(11 : PortId)];
      q.state = .ready ∧ q.tx = .idle ∧ q.asm = .collecting [0x3C] ∧ charError q.config.charLen ⟨2, false, false⟩ = true ∧
      charError q.config.charLen ⟨2, false, true⟩ = false ∧ (2 : Byte).toNat < 3 ∧ 253 < (254 : Byte).toNat ∧
      3 ≤ (3 : Byte).toNat ∧ (253 : Byte).toNat ≤ 253) ∧
    (∀ bytes, (inFrame bytes counter).ports[(11 : PortId)].asm = .collecting bytes) ∧
    ([2, 1, 0] : List Byte).length + 1 < (3 : Byte).toNat + 2 ∧
    (∀ x ∈ ([(0x01, 1, []), (0x04, 1, []), (0x02, 0, []), (0x03, 1, []), (0x02, 1, List.replicate 26 0)] :
      List (Byte × Byte × List Byte)), ∀ hi lo : Byte,
      (byteOf (x.2.2.length + 3)).toNat = x.2.2.length + 3 ∧
      (byteOf (x.2.2.length + 3)).toNat ≤ 253 ∧
      ¬ (checkOf (byteOf (x.2.2.length + 3) :: x.1 :: x.2.1 :: 0 :: x.2.2) = hi ++ lo ∧
        ((x.1 = 0x02 ∧ x.2.1 ≠ 0 ∧
            (byteOf (x.2.2.length + 3)).toNat + 4 ≤ counter.ports[(11 : PortId)].config.replyLimit.toNat) ∨
          (x.1 = 0x03 ∧ x.2.1 = 0 ∧ (byteOf (x.2.2.length + 3)).toNat + 4 ≤ 64 ∧
            counter.ports[(11 : PortId)].state = .ready)))) ∧
    checkOf [3, 0x02, 1, 0] ≠ (0 : Byte) ++ (0 : Byte) ∧ (identifying 1).ports[(11 : PortId)].state ≠ .ready ∧
    { counter with wsAsm := .collecting [0xC3] }.wsAsm = .collecting [0xC3] ∧ (3 : Byte).toNat < 4 ∧ 4 ≤ (4 : Byte).toNat := by
  refine ⟨by decide +kernel, fun b => by simp [inFrame, withPort], by decide, ?_, by decide +kernel⟩
  intro x hx hi lo
  simp only [List.mem_cons, List.not_mem_nil, or_false] at hx
  rcases hx with rfl | rfl | rfl | rfl | rfl <;>
    exact ⟨by decide, by decide, fun h => absurd h.2 (by decide +kernel)⟩

/-- A counter frame that has arrived but for its last byte. -/
def frameArriving (kind flags unit tag : Byte) (payload : List Byte) (s : State) : State :=
  { s with wsAsm := .collecting (frameBytes 0xC3 (kind :: flags :: unit :: tag :: payload)).dropLast, wsGap := some 50 }

theorem witness_CounterFramesRunTheirCommand :
    (requestFrame (.readStatus 9 []) = some (0x03, 0, 9, [0x38]) ∧ (Instr.readStatus 9 []).wf = true ∧
      (frameArriving 0x03 0xFF 0 9 [0x38] counter).wsAsm =
        .collecting (frameBytes 0xC3 (0x03 :: 0xFF :: 0 :: 9 :: [0x38])).dropLast ∧
      ∃ c, (frameBytes 0xC3 (0x03 :: 0xFF :: 0 :: 9 :: [0x38])).getLast? = some c) ∧
    (requestFrame (.unitRequest 24 9 (List.replicate 251 0)) = some (0x01, 24, 9, List.replicate 251 0) ∧
      (Instr.unitRequest 24 9 (List.replicate 251 0)).wf = true) :=
  ⟨⟨rfl, by decide, rfl, _, rfl⟩, rfl, by decide +kernel⟩

/-- The shortest frame, with a check that is not its own. -/
theorem witness_BadChecksRaiseLinkError :
    4 ≤ (4 : Byte).toNat ∧ ([0x03, 0, 0, 9] : List Byte).length = (4 : Byte).toNat ∧
    { counter with wsAsm := .collecting (0xC3 :: 4 :: [0x03, 0, 0, 9] ++ [0]) }.wsAsm =
      .collecting (0xC3 :: 4 :: [0x03, 0, 0, 9] ++ [0]) ∧
    checkOf (4 :: [0x03, 0, 0, 9]) ≠ (0 : Byte) ++ (0 : Byte) := by decide +kernel

/-! ### Witnesses: the workstation transmitter -/

/-- Every port with one event waiting, ports 0 and 3 in group HIGH, as in 9.10. -/
def granting : State :=
  let w := Vector.ofFn fun p : PortId =>
    { counter.ports[p] with
      outbound := [.event 23 0 0x31 0 []]
      config := { counter.ports[p].config with group := if p = 0 ∨ p = 3 then .high else .low } }
  { counter with ports := w, wready := true }

theorem witness_GrantServesControlFirst :
    { counter with tx := .sending .copy ⟨0, false, false, false, 0, 0, []⟩ [] }.tx ≠ .idle ∧ counter.wready = false ∧
    (counter.control = [] ∧ ∀ p : PortId, counter.ports[p].outbound = []) ∧
    (let s := { counter with wready := true, control := [.started .power] };
      s.tx = .idle ∧ s.wready = true ∧ s.control = .started .power :: [] ∧ Attends s false) := by
  refine ⟨by decide +kernel, by decide +kernel, by decide +kernel, by decide +kernel, by decide +kernel, by decide +kernel, ?_⟩
  unfold Attends; decide +kernel

theorem witness_GrantTakesPortsInTurn :
    (granting.tx = .idle ∧ granting.wready = true ∧ granting.control = [] ∧
      granting.ports[(0 : PortId)].outbound = .event 23 0 0x31 0 [] :: [] ∧ Attends granting false ∧
      HighChosen granting ∧ Waits .high 0 granting ∧
      (∀ r : PortId, Waits .high r granting → behind granting.highPtr 0 ≤ behind granting.highPtr r)) ∧
    (let s := { granting with starvation := 4, lowPtr := some 11 };
      LowChosen s ∧ Waits .low 1 s ∧ ∀ r : PortId, Waits .low r s → behind s.lowPtr 1 ≤ behind s.lowPtr r) := by
  unfold HighChosen LowChosen Waits Attends; decide +kernel

theorem witness_FrameEndsFreeTheirSource :
    (let s := { counter with tx := .sending .control ⟨0x87, false, false, false, 0, 0, []⟩ [], control := [.started .power] };
      s.tx = .sending .control ⟨0x87, false, false, false, 0, 0, []⟩ [] ∧ s.control = .started .power :: []) ∧
    (let s := { working with tx := .sending (.port 11) ⟨0x81, false, false, false, 24, 9, []⟩ [] };
      s.tx = .sending (.port 11) ⟨0x81, false, false, false, 24, 9, []⟩ [] ∧
      s.ports[(11 : PortId)].outbound = .reply 2 23 9 false false .done 0 [] :: []) ∧
    (let s := { granting with tx := .sending (.port 11) ⟨0x82, false, false, false, 24, 0, []⟩ [] };
      s.tx = .sending (.port 11) ⟨0x82, false, false, false, 24, 0, []⟩ [] ∧
      s.ports[(11 : PortId)].outbound = .event 23 0 0x31 0 [] :: []) ∧
    { counter with tx := .sending .copy ⟨0, false, false, false, 0, 0, []⟩ [] }.tx =
      .sending .copy ⟨0, false, false, false, 0, 0, []⟩ [] ∧
    counter.tx = .idle := by decide +kernel

/-! ### Witnesses: unit requests, group requests and evaluations -/

/-- Port 11 with `n` WORKSTATION exchanges QUEUED. -/
def queued (n : Nat) : State :=
  withPort 11 { counter.ports[(11 : PortId)] with queue := (List.finRange 24).take n }
    { counter with pool := Vector.ofFn fun i : RecId => if i.val < n then exchange .queued (byteOf (i.val + 10)) 0 else freeExchange }

/-- The counter with a full control queue. -/
def fullQueue : State := { counter with control := List.replicate 16 (.started .power) }

/-- Every record of the pool HELD. -/
def noRecord : State := { counter with pool := Vector.replicate 24 (exchange .held 9 1) }

/-- The route entry of a unit changed. -/
def routed (u : UnitId) (f : RouteEntry → RouteEntry) (s : State) : State := { s with routes := s.routes.set u (f s.routes[u]) }

/-- No exchange and no group record has a tag. -/
theorem tagFree_of {tag : Byte} {s : State}
    (h : (∀ i : RecId, s.pool[i].tag = some tag → isOpen s.pool[i] = false) ∧ s.groupRecords.all (fun g => g.tag ≠ tag) = true) :
    TagFree tag s :=
  ⟨h.1, fun g hg => by simpa using List.all_eq_true.mp h.2 g hg⟩

theorem witness_UnitRequestsAreQueued :
    (0xFF : Byte) ≠ 0 ∧ (0xFF : Byte) ≠ 0 ∧ TagFree 0xFF (queued 3) ∧ Serves 23 11 (queued 3) ∧
    (∃ i : RecId, (queued 3).pool[i].state = .free) ∧ queuedWorkstation 11 (queued 3) < 4 :=
  ⟨by decide, by decide, tagFree_of (by decide +kernel), serves_of_usableTest _ (by decide +kernel) (by decide +kernel),
    by decide +kernel, by decide +kernel⟩

theorem witness_RequestsAreRefused :
    (¬ TagFree 8 working ∧ TagFree 0xFF counter ∧ ((0 : Byte).toNat = 0 ∨ 24 < (25 : Byte).toNat) ∧ (24 : Byte) = unitAddr 23) ∧
    (counter.routes[(22 : UnitId)].valid = false) ∧
    (let e := (routed 23 (fun e => { e with classCheck := .upset }) counter).routes[(23 : UnitId)];
      e.valid = true ∧ ¬ (e.valid = true ∧ e.portsCheck = .good ∧ e.classCheck = .good)) ∧
    (let s := withPort 11 { counter.ports[(11 : PortId)] with state := .empty } counter;
      let e := s.routes[(23 : UnitId)];
      (e.valid = true ∧ e.portsCheck = .good ∧ e.classCheck = .good) ∧ ∀ p, ¬ Active e p s) ∧
    (let s := routed 23 (fun e => { e with expected := .reader }) counter;
      let e := s.routes[(23 : UnitId)];
      (e.valid = true ∧ e.portsCheck = .good ∧ e.classCheck = .good) ∧ Active e 11 s ∧
        s.ports[(11 : PortId)].identity = some ⟨.other, 0, 0⟩ ∧ ¬ Agrees e.expected .other) ∧
    (Active counter.routes[(23 : UnitId)] 11 counter ∧ Agrees counter.routes[(23 : UnitId)].expected .other) ∧
    (∀ i : RecId, noRecord.pool[i].state ≠ .free) ∧
    ((∃ i : RecId, (queued 4).pool[i].state = .free) ∧ 4 ≤ queuedWorkstation 11 (queued 4)) ∧
    ((0x03 : Byte) ≠ 0x01 ∧ (0x03 : Byte) ≠ 0x02 ∧ (0x04 : Byte) ≠ 0x03 ∧ (0x04 : Byte) ∉ managementCodes) := by
  refine ⟨⟨fun h => ?_, tagFree_of (by decide +kernel), .inl rfl, rfl⟩, ?_⟩
  · exact absurd (h.1 1 (by decide +kernel)) (by decide +kernel)
  · unfold Active Agrees; decide +kernel

/-- The collecting counter with its reader gone. -/
def readerGone : State := withPort 0 { (collecting []).ports[(0 : PortId)] with state := .empty, identity := none } (collecting [])

/-- The collecting counter with its keypad gone. -/
def keypadGone : State := withPort 1 { (collecting []).ports[(1 : PortId)] with state := .empty, identity := none } (collecting [])

theorem not_serves_of {u : UnitId} {s : State} (h : isUsable (usableTest u s) = false) : ∀ p, ¬ Serves u p s := by
  intro p g
  rw [usableTest_usable s g] at h
  cases h

theorem active_of {u : UnitId} {s : State} (h : ∀ p : PortId, activePort s.routes[u] s = some p → s.ports[p].identity ≠ none) :
    ∀ p, Active s.routes[u] p s → s.ports[p].identity ≠ none :=
  fun p g => h p ((activePort_iff s s.routes[u] p).mpr g)

theorem witness_EvaluationsReportUnusableUnits :
    (PositionLaw counter ∧ (∀ p, Active counter.routes[(0 : UnitId)] p counter → counter.ports[p].identity ≠ none) ∧
      ∃ p, Serves 0 p counter) ∧
    (let s := routed 23 (fun e => { e with classCheck := .forced }) counter;
      PositionLaw s ∧ (∀ p, ¬ Serves 23 p s) ∧ (∀ p, Active s.routes[(23 : UnitId)] p s → s.ports[p].identity ≠ none) ∧
      (s.routes[(23 : UnitId)].valid = true ∧ s.routes[(23 : UnitId)].classCheck ≠ .good) ∧ Unassigned 23 s) ∧
    (PositionLaw readerGone ∧ (∀ p, ¬ Serves 0 p readerGone) ∧
      (∀ p, Active readerGone.routes[(0 : UnitId)] p readerGone → readerGone.ports[p].identity ≠ none) ∧
      readerGone.positions[(0 : PosId)].entry = some (collected []) ∧ (collected []).state = .collecting ∧
      readerGone.positions[(0 : PosId)].reader = some 0) ∧
    (PositionLaw keypadGone ∧ (∀ p, ¬ Serves 1 p keypadGone) ∧
      (∀ p, Active keypadGone.routes[(1 : UnitId)] p keypadGone → keypadGone.ports[p].identity ≠ none) ∧
      keypadGone.positions[(0 : PosId)].entry = some (collected []) ∧ keypadGone.positions[(0 : PosId)].keypad = some 1) := by
  refine ⟨⟨by apply positionLaw_of <;> decide +kernel, active_of (by decide +kernel), 0,
      serves_of_usableTest _ (by decide +kernel) (by decide +kernel)⟩,
    ⟨by apply positionLaw_of <;> decide +kernel, not_serves_of (by decide +kernel), active_of (by decide +kernel),
      by decide +kernel, ?_⟩,
    ⟨by apply positionLaw_of <;> decide +kernel, not_serves_of (by decide +kernel), active_of (by decide +kernel),
      by decide +kernel, by decide, by decide +kernel⟩,
    by apply positionLaw_of <;> decide +kernel, not_serves_of (by decide +kernel), active_of (by decide +kernel),
      by decide +kernel, by decide +kernel⟩
  unfold Unassigned Assigned; decide +kernel

/-- Group 1 with the units 1 and 24, of which both are usable, and 22, which is not, and an expected count. -/
def grouped (expected : Byte) : State :=
  { counter with groups := counter.groups.set 0 ⟨true, [23, 21, 0], .good, expected, .good⟩ }

/-- The state that the tests of the members of a group leave. -/
def groupTested (members : List UnitId) (s : State) : State :=
  ((List.finRange 24).filter fun u => u ∈ members).foldl (fun t u => evaluate u t) s

theorem witness_GroupRequestsIssueMembers : ∀ n : Byte, n = 0 ∨ n = 2 →
    RouteLaw (grouped n) ∧ PortsLaw (grouped n) ∧ SlotLaw (grouped n) ∧ PoolLaw (grouped n) ∧ PositionLaw (grouped n) ∧ TagFree 7 (grouped n) ∧
    (grouped n).groups[(0 : GroupId)] = ⟨true, [23, 21, 0], .good, n, .good⟩ ∧ [(23 : UnitId), 21, 0].Nodup ∧
    (grouped n).groupRecords.length < 4 ∧ (([(0, 0), (23, 11)] : List (UnitId × PortId)).map Prod.fst).Nodup ∧
    (∀ u p, (u, p) ∈ ([(0, 0), (23, 11)] : List (UnitId × PortId)) ↔ u ∈ [(23 : UnitId), 21, 0] ∧ Serves u p (grouped n)) ∧
    (let tested := groupTested [23, 21, 0] (grouped n);
      2 ≤ tested.pool.toList.countP (fun r => r.state = .free) ∧
      (∀ m ∈ ([(0, 0), (23, 11)] : List (UnitId × PortId)), queuedWorkstation m.2 tested < 4) ∧ HasSlot tested) := by
  have key : ∀ n : Byte, n = 0 ∨ n = 2 → ∀ u p, (u, p) ∈ ([(0, 0), (23, 11)] : List (UnitId × PortId)) ↔
      u ∈ [(23 : UnitId), 21, 0] ∧ usableTest u (grouped n) = .usable p := by
    rintro n (rfl | rfl) <;> decide +kernel
  have ident : ∀ (n : Byte) (u : UnitId) (p : PortId), n = 0 ∨ n = 2 → usableTest u (grouped n) = .usable p →
      (grouped n).ports[p].identity ≠ none := by
    rintro n u p (rfl | rfl) <;> revert u p <;> decide +kernel
  intro n hn
  refine ⟨?_, ?_, ?_, ?_, ?_, tagFree_of ?_, ?_, by decide, ?_, by decide, fun u p => (key n hn u p).trans
    (and_congr_right fun _ => ⟨fun h => serves_of_usableTest _ h (ident n u p hn h), usableTest_usable _⟩), ?_, ?_, ?_⟩
  · rcases hn with rfl | rfl <;> (apply routeLaw_of <;> decide +kernel)
  · rcases hn with rfl | rfl <;> exact fun p => by constructor <;> (revert p; decide +kernel)
  · rcases hn with rfl | rfl <;> (constructor <;> decide +kernel)
  · rcases hn with rfl | rfl <;> exact poolLaw_of (by decide +kernel)
  · rcases hn with rfl | rfl <;> (apply positionLaw_of <;> decide +kernel)
  · rcases hn with rfl | rfl <;> decide +kernel
  · rcases hn with rfl | rfl <;> decide +kernel
  · rcases hn with rfl | rfl <;> decide +kernel
  · rcases hn with rfl | rfl <;> decide +kernel
  · rcases hn with rfl | rfl <;> decide +kernel
  · unfold HasSlot; rcases hn with rfl | rfl <;> decide +kernel

/-- The usable members of a group, from the usable-unit test. -/
theorem servesList_of {s : State} {members : List UnitId} {l : List (UnitId × PortId)}
    (key : ∀ u p, (u, p) ∈ l ↔ u ∈ members ∧ usableTest u s = .usable p)
    (ident : ∀ u p, usableTest u s = .usable p → s.ports[p].identity ≠ none) :
    ∀ u p, (u, p) ∈ l ↔ u ∈ members ∧ Serves u p s :=
  fun u p => (key u p).trans (and_congr_right fun _ => ⟨fun h => serves_of_usableTest _ h (ident u p h), usableTest_usable _⟩)

/-- Group 1 with three members, two of them usable, in a state. -/
def groupOn (s : State) : State := { s with groups := s.groups.set 0 ⟨true, [23, 21, 0], .good, 2, .good⟩ }

/-- The refusals of a GROUP REQUEST to group 1 before and at its record: the tag taken, an invalid entry, a faulted one, and four open
records. -/
theorem witness_RequestsAreRefused_group :
    (¬ TagFree 8 working ∧ TagFree 7 counter ∧ (24 : Byte).toNat < 25 ∧ 31 < (32 : Byte).toNat ∧ (31 : Byte) = groupAddr 6) ∧
    counter.groups[(6 : GroupId)].valid = false ∧
    (let e := { groupOn counter with groups := counter.groups.set 0 ⟨true, [23], .upset, 1, .good⟩ }.groups[(0 : GroupId)];
      e.valid = true ∧ ¬ (e.valid = true ∧ e.membersCheck = .good ∧ e.countCheck = .good)) ∧
    (let s := { groupOn counter with groupRecords := List.replicate 4 ⟨9, 1, 1, 1, 0, 0, true⟩ };
      (s.groups[(0 : GroupId)].valid = true ∧ s.groups[(0 : GroupId)].membersCheck = .good ∧
        s.groups[(0 : GroupId)].countCheck = .good) ∧ TagFree 7 s ∧ 4 ≤ s.groupRecords.length) := by
  refine ⟨⟨fun h => absurd (h.1 1 (by decide +kernel)) (by decide +kernel), tagFree_of (by decide +kernel), by decide⟩,
    by decide +kernel, by decide +kernel, by decide +kernel, tagFree_of (by decide +kernel), by decide +kernel⟩

/-- The reader gone while the entry of its position collects, the record set aside for it the only one that is not HELD, and a group of that
reader and unit 24. -/
def freedByTests : State :=
  withPort 11 { readerGone.ports[(11 : PortId)] with
      outbound := ((List.finRange 24).filter (· ≠ 5)).map fun i => .reply i 23 (byteOf (i.val + 100)) false false .done 0 [] }
    { readerGone with
      groups := readerGone.groups.set 0 ⟨true, [0, 23], .good, 1, .good⟩
      pool := Vector.ofFn fun i : RecId =>
        if i = 5 then readerGone.pool[i] else exchange .held (byteOf (i.val + 100)) 1 }

/-- The test of a member frees the record that another member then takes. -/
theorem witness_GroupRequestsIssueMembers_freed :
    RouteLaw freedByTests ∧ PortsLaw freedByTests ∧ SlotLaw freedByTests ∧ PoolLaw freedByTests ∧ PositionLaw freedByTests ∧
    TagFree 7 freedByTests ∧ freedByTests.groups[(0 : GroupId)] = ⟨true, [0, 23], .good, 1, .good⟩ ∧
    (∀ u p, (u, p) ∈ ([(23, 11)] : List (UnitId × PortId)) ↔ u ∈ [(0 : UnitId), 23] ∧ Serves u p freedByTests) ∧
    freedByTests.pool.toList.countP (fun r => r.state = .free) = 0 ∧
    (let tested := groupTested [0, 23] freedByTests;
      1 ≤ tested.pool.toList.countP (fun r => r.state = .free) ∧ queuedWorkstation 11 tested < 4 ∧ HasSlot tested) := by
  refine ⟨by apply routeLaw_of <;> decide +kernel, fun p => by constructor <;> (revert p; decide +kernel),
    by constructor <;> decide +kernel, poolLaw_of (by decide +kernel), by apply positionLaw_of <;> decide +kernel,
    tagFree_of (by decide +kernel), by decide +kernel, servesList_of ?_ ?_, by decide +kernel, by decide +kernel, by decide +kernel,
    by unfold HasSlot; decide +kernel⟩ <;> decide +kernel

/-- The refusals of a GROUP REQUEST after the tests of its members: no member usable, no record, four exchanges QUEUED on a port, and
no slot. -/
theorem witness_RequestsAreRefused_members :
    (let s := { counter with groups := counter.groups.set 0 ⟨true, [21], .good, 1, .good⟩ };
      TagFree 7 s ∧ PortsLaw s ∧ s.groupRecords.length < 4 ∧
      ∀ u p, (u, p) ∈ ([] : List (UnitId × PortId)) ↔ u ∈ s.groups[(0 : GroupId)].members ∧ Serves u p s) ∧
    (∀ s, s = groupOn noRecord ∨ s = groupOn (queued 4) ∨ s = groupOn fullQueue →
      TagFree 7 s ∧ PortsLaw s ∧ s.groupRecords.length < 4 ∧
      (∀ u p, (u, p) ∈ ([(0, 0), (23, 11)] : List (UnitId × PortId)) ↔
        u ∈ s.groups[(0 : GroupId)].members ∧ Serves u p s)) ∧
    (let tested (s : State) : State := ((List.finRange 24).filter fun u => u ∈ s.groups[(0 : GroupId)].members).foldl
        (fun t u => evaluate u t) s;
      (tested (groupOn noRecord)).pool.toList.countP (fun r => r.state = .free) < 2 ∧
      2 ≤ (tested (groupOn (queued 4))).pool.toList.countP (fun r => r.state = .free) ∧
      4 ≤ queuedWorkstation 11 (tested (groupOn (queued 4))) ∧
      2 ≤ (tested (groupOn fullQueue)).pool.toList.countP (fun r => r.state = .free) ∧
      (∀ m ∈ ([(0, 0), (23, 11)] : List (UnitId × PortId)), ¬ 4 ≤ queuedWorkstation m.2 (tested (groupOn fullQueue))) ∧
      ¬ HasSlot (tested (groupOn fullQueue))) := by
  refine ⟨⟨tagFree_of (by decide +kernel), fun p => by constructor <;> (revert p; decide +kernel), by decide +kernel,
    servesList_of (by decide +kernel) (by decide +kernel)⟩, ?_, by unfold HasSlot; decide +kernel⟩
  rintro s (rfl | rfl | rfl) <;>
    exact ⟨tagFree_of (by decide +kernel), fun p => by constructor <;> (revert p; decide +kernel), by decide +kernel,
      servesList_of (by decide +kernel) (by decide +kernel)⟩

/-- A group record of group 1 with tag 7 and three issued members, among the open records. -/
def awaitingGroup (g : GroupRecord) : State :=
  { counter with groupRecords := [g, ⟨9, 1, 1, 1, 0, 0, true⟩], reservations := if g.endQueued then 0 else 1 }

/-- The third end report of three issued members: GROUP END queued before, the expected count 3 reached, the issued count
reached below an expected count of 5, and a report before either. -/
theorem witness_MemberEndsAreCounted :
    ∀ g ∈ ([⟨7, 0, 0, 3, 0, 2, true⟩, ⟨7, 0, 3, 3, 0, 2, false⟩, ⟨7, 0, 5, 3, 0, 2, false⟩, ⟨7, 0, 5, 3, 0, 0, false⟩] :
      List GroupRecord), SlotLaw (awaitingGroup g) ∧
        (awaitingGroup g).groupRecords = [] ++ g :: [⟨9, 1, 1, 1, 0, 0, true⟩] := by
  intro g hg
  simp only [List.mem_cons, List.not_mem_nil, or_false] at hg
  rcases hg with rfl | rfl | rfl | rfl <;> exact ⟨by constructor <;> decide +kernel, rfl⟩

/-! ### Witnesses: management requests -/

/-- A SET GROUP of seven members with a COUNT value, and one whose member count and length disagree. -/
theorem witness_DiscardsAndWrongLengths :
    (reservedRequest (.readStatus 9 []) = some (9, 0x38, []) ∧ ¬ HasSlot fullQueue) ∧
    (reservedRequest (.setGroup 9 [25, 0x03, 2, 3, 1, 2]) = some (9, 0x08, [25, 0x03, 2, 3, 1, 2]) ∧ HasSlot counter ∧
      expectedLength 0x08 [25, 0x03, 2, 3, 1, 2] ≠ some 6 ∧ expectedLength 0x08 [25, 0x03, 2, 2, 1, 2] = some 6) ∧
    (reservedRequest (.setPort 9 [11, 0x80]) = some (9, 0x10, [11, 0x80]) ∧ expectedLength 0x10 [11, 0x80] ≠ some 2) := by
  unfold HasSlot; decide +kernel

theorem witness_EveryRequestHasOneReply :
    reservedRequest (.closeSession 9 [1]) = some (9, 0x24, [1]) ∧ HasSlot (collecting [0x31]) := by unfold HasSlot; decide +kernel

theorem witness_RouteWritesSetEntryAndMap :
    (HasSlot counter ∧ HasSlot working) ∧
    (some ((11 : PortId), some (10 : PortId)) ≠ none ∧ (11 : PortId) ≠ 10) ∧
    RouteBusy 23 working ∧ ¬ Unassigned 0 counter ∧ (¬ RouteBusy 22 counter ∧ counter.owners[(11 : PortId)] = some 23) ∧
    (¬ RouteBusy 23 counter ∧ counter.owners[(10 : PortId)] = none) ∧
    ((0 : Byte).toNat = 0 ∧ 24 < (25 : Byte).toNat ∧ (24 : Byte) = unitAddr 23) := by
  refine ⟨by unfold HasSlot; decide +kernel, by decide, ⟨by decide +kernel, .inl (by decide +kernel)⟩, ?_, ⟨?_, by decide +kernel⟩,
    ⟨?_, by decide +kernel⟩, by decide⟩ <;> (simp only [RouteBusy, Unassigned, Assigned]; decide +kernel)

/-- A member named twice, a count of 25, and a write of both sections at their limits. -/
theorem witness_SetGroupWritesTheEntry :
    HasSlot counter ∧ ¬ [(23 : UnitId), 23].Nodup ∧ 24 < (25 : Byte).toNat ∧
    ((List.finRange 24).Nodup ∧ (List.finRange 24).length ≤ 255 ∧ ¬ 24 < (24 : Byte).toNat) := by
  unfold HasSlot; decide +kernel

theorem witness_SetPortWritesSettings :
    (∀ p : Option Bool, portLayout (everySetting p) ≠ [portCode 11, 0]) ∧
    (∀ p : Option Bool, SettingsFit (everySetting p)) ∧
    (HasSlot working ∧ working.ports[(11 : PortId)].queue ≠ []) ∧ (identifying 1).ports[(11 : PortId)].state = .identifying ∧
    (HasSlot counter ∧ counter.ports[(11 : PortId)].queue = [] ∧
      ¬ (∃ i : RecId, counter.pool[i].port = some 11 ∧ isInFlight counter.pool[i] = true) ∧
      counter.ports[(11 : PortId)].state ≠ .identifying ∧ counter.ports[(11 : PortId)].state ≠ .off) ∧
    (HasSlot (portIn .off .none none true) ∧ (portIn .off .none none true).ports[(11 : PortId)].state = .off) ∧
    (HasSlot (portIn .fault .noIdentity none false) ∧ (portIn .fault .noIdentity none false).ports[(11 : PortId)].state = .fault) ∧
    (portIn .settling .none none true).ports[(11 : PortId)].state = .settling :=
  ⟨by decide +kernel, fun _ => by simp [SettingsFit, everySetting], by unfold HasSlot; decide +kernel⟩

theorem witness_ResetPortStartsThePulse :
    HasSlot (portIn .off .none none true) ∧ (portIn .off .none none true).ports[(11 : PortId)].state = .off ∧
    HasSlot (identifying 1) ∧ (identifying 1).ports[(11 : PortId)].state = .identifying := by unfold HasSlot; decide +kernel

theorem witness_AbortPortEndsTheQueue : HasSlot working ∧ PoolLaw working ∧
    working.ports[(11 : PortId)].queue.all
      (fun i => working.pool[i].origin = some .workstation ∨ working.pool[i].origin = some .delivery) = true ∧
    (working.ports[(11 : PortId)].queue.filter fun i => working.pool[i].origin = some .workstation) = [1] :=
  ⟨by unfold HasSlot; decide +kernel, working_poolLaw, by decide +kernel, by decide +kernel⟩

/-- Ports 11 and 12, pass sets 511 and 512. -/
theorem witness_SetPassReplacesTheSet : HasSlot counter ∧ 11 < (12 : Byte).toNat ∧ (11 : Byte) = portCode 11 ∧
    512 ≤ ((0x02 : Byte) ++ (0x00 : Byte)).toNat ∧ ((0x01 : Byte) ++ (0xFF : Byte)).toNat < 512 := by unfold HasSlot; decide +kernel

/-- Units with sound entries for position 8: unit 3 a reader and unit 4 a keypad. -/
def spareUnits : State := routeTo 2 2 .reader (routeTo 3 3 .keypad counter)

theorem witness_SetPositionAssignsUnits :
    (HasSlot spareUnits ∧ PositionLaw spareUnits ∧ spareUnits.positions[(7 : PosId)].state = .closed ∧
      spareUnits.positions[(0 : PosId)].state ≠ .closed) ∧
    (some (2 : UnitId) ≠ some 3 ∧ spareUnits.routes[(2 : UnitId)] = ⟨true, 2, none, .good, .reader, .good⟩ ∧
      spareUnits.routes[(3 : UnitId)] = ⟨true, 3, none, .good, .keypad, .good⟩ ∧ Unassigned 2 spareUnits ∧ Unassigned 3 spareUnits) ∧
    spareUnits.routes[(5 : UnitId)].valid = false ∧ spareUnits.routes[(23 : UnitId)].expected ≠ .reader ∧
    (spareUnits.routes[(0 : UnitId)].expected = .reader ∧ Assigned spareUnits.positions[(0 : PosId)] 0) ∧
    (let s := routed 2 (fun e => { e with portsCheck := .upset }) spareUnits;
      HasSlot s ∧ PositionLaw s ∧ s.routes[(2 : UnitId)].valid = true ∧ s.routes[(2 : UnitId)].portsCheck ≠ .good) := by
  refine ⟨⟨by unfold HasSlot; decide +kernel, by apply positionLaw_of <;> decide +kernel, by decide +kernel, by decide +kernel⟩, ?_,
    by decide +kernel, by decide +kernel, ⟨by decide +kernel, .inl (by decide +kernel)⟩, by unfold HasSlot; decide +kernel,
    by apply positionLaw_of <;> decide +kernel, by decide +kernel, by decide +kernel⟩
  unfold Unassigned Assigned; decide +kernel

theorem witness_PositionsOpenAndClose :
    (HasSlot counter ∧ HasSlot closedCounter ∧ HasSlot serving) ∧
    (closedCounter.positions[(0 : PosId)].state = .closed ∧ closedCounter.positions[(0 : PosId)].reader ≠ none ∧
      closedCounter.positions[(0 : PosId)].keypad ≠ none) ∧
    (counter.positions[(7 : PosId)].state = .closed ∧ counter.positions[(7 : PosId)].reader = none) ∧
    counter.positions[(0 : PosId)].state = .open ∧ serving.positions[(0 : PosId)].state = .session := by unfold HasSlot; decide +kernel

/-- Position 2 OPEN beside the session of position 1, with number 255 held by position 1 and next, and a session limit. -/
def wrapping (limit : Byte) : State :=
  withPos 1 { serving.positions[(1 : PosId)] with state := .open, lamp := .steady, lampLit := true }
    (withPos 0 { serving.positions[(0 : PosId)] with session := 255 } { serving with nextSession := 255, sessionLimit := limit })

theorem witness_SessionsGetFreshNumbers :
    (∀ n : Byte, n = 1 ∨ n = 2 → HasSlot (wrapping n) ∧ PositionLaw (wrapping n)) ∧
    (wrapping 2).positions[(0 : PosId)].state ≠ .open ∧
    ((wrapping 1).positions[(1 : PosId)].state = .open ∧ sessionCount (wrapping 1) = (wrapping 1).sessionLimit.toNat) ∧
    ((wrapping 2).positions[(1 : PosId)].state = .open ∧ (wrapping 2).positions[(1 : PosId)].entry = none ∧
      sessionCount (wrapping 2) < (wrapping 2).sessionLimit.toNat) := by
  refine ⟨?_, by decide +kernel⟩
  rintro n (rfl | rfl) <;> exact ⟨by unfold HasSlot; decide +kernel, by apply positionLaw_of <;> decide +kernel⟩

theorem witness_SessionsClose :
    (HasSlot counter ∧ counter.positions[(0 : PosId)].state ≠ .session) ∧
    (HasSlot serving ∧ serving.positions[(0 : PosId)].state = .session ∧ serving.positions[(0 : PosId)].entry = none) ∧
    (HasSlot (collecting [0x31]) ∧ (collecting [0x31]).positions[(0 : PosId)].state = .session ∧
      (collecting [0x31]).positions[(0 : PosId)].entry = some (collected [0x31]) ∧ (collected [0x31]).state = .collecting ∧
      1 ≤ (collecting [0x31]).reservations) := by unfold HasSlot; decide +kernel

/-- Sessions closed on a delivery that is QUEUED, handed over and not started, on the line, and AWAITING. -/
theorem witness_SessionsClose_delivering :
    (∀ st : RecState, st = .queued ∨ st = .sending ∨ st = .awaiting →
      HasSlot (deliveringIn st) ∧ (deliveringIn st).positions[(0 : PosId)].state = .session ∧
      (deliveringIn st).positions[(0 : PosId)].entry =
        some { collected [] with state := .delivering, count := 4, timer := none } ∧
      (deliveringIn st).pool[(5 : RecId)].state = st ∧ (deliveringIn st).pool[(5 : RecId)].port = some 0 ∧
      1 ≤ (deliveringIn st).reservations ∧ (deliveringIn st).ports[(0 : PortId)].tx = .idle) ∧
    (sends 0 (.holding (.exchange 5) someFrame) delivering).ports[(0 : PortId)].tx = .holding (.exchange 5) someFrame := by
  refine ⟨?_, by decide +kernel⟩
  rintro st (rfl | rfl | rfl) <;> (unfold HasSlot; decide +kernel)

/-- The limits 0 and 5, which are refused, and 1 and 4, which are accepted outside SESSION. -/
theorem witness_SessionLimitIsSetWhileNoSession :
    HasSlot counter ∧ ([] : List Byte).length ≠ 1 ∧ ([4, 4] : List Byte).length ≠ 1 ∧
    ((0 : Byte).toNat = 0 ∧ 4 < (5 : Byte).toNat) ∧ (1 ≤ (1 : Byte).toNat ∧ (4 : Byte).toNat ≤ 4) ∧
    (∃ k : PosId, serving.positions[k].state = .session) ∧ (¬ ∃ k : PosId, counter.positions[k].state = .session) ∧
    ((wrapping 1).positions[(1 : PosId)].state = .open ∧ sessionCount (wrapping 1) = (wrapping 1).sessionLimit.toNat) ∧
    sessionCount counter ≤ counter.sessionLimit.toNat := by unfold HasSlot; decide +kernel

theorem limit_set : ∃ t, exec (.setSessionLimit 9 [4]) counter = .next t := ⟨_, rfl⟩

/-- Session at position 1, units usable, and `n` frames in the control queue. -/
def servingBeside (n : Nat) : State := { serving with control := List.replicate n (.started .power) }

theorem witness_EntriesOpen : ∀ n : Nat, n = 14 ∨ n = 15 →
    (servingBeside n).positions[(0 : PosId)].state = .session ∧ (servingBeside n).positions[(0 : PosId)].entry = none ∧
    (1 ≤ (1 : Byte).toNat ∧ (12 : Byte).toNat ≤ 12 ∧ (120 : Byte).toNat ≤ 120 ∧ (30 : Byte).toNat ≤ 30 ∧ (0x41 : Byte) ≠ 0) ∧
    (servingBeside n).positions[(0 : PosId)].keypad = some 1 ∧ (servingBeside n).positions[(0 : PosId)].reader = some 0 ∧
    Serves 1 1 (servingBeside n) ∧ Serves 0 0 (servingBeside n) ∧ (∃ i : RecId, (servingBeside n).pool[i].state = .free) ∧
    (servingBeside n).control.length + (servingBeside n).reservations = n := by
  rintro n (rfl | rfl) <;>
    exact ⟨by decide +kernel, by decide +kernel, by decide, by decide +kernel, by decide +kernel,
      serves_of_usableTest _ (by decide +kernel) (by decide +kernel), serves_of_usableTest _ (by decide +kernel) (by decide +kernel),
      by decide +kernel, by decide +kernel⟩

/-- The refusals of OPEN ENTRY: positions 0 and 9, a position not in SESSION, one with an entry, each parameter out of range, the
keypad or the reader gone, and no record. -/
theorem witness_EntriesOpen_refused :
    ((0 : Byte).toNat = 0 ∧ 8 < (9 : Byte).toNat ∧ HasSlot counter ∧ HasSlot serving ∧ HasSlot (collecting [])) ∧
    counter.positions[(7 : PosId)].state ≠ .session ∧
    ((collecting []).positions[(0 : PosId)].state = .session ∧ (collecting []).positions[(0 : PosId)].entry ≠ none) ∧
    (serving.positions[(0 : PosId)].state = .session ∧ serving.positions[(0 : PosId)].entry = none) ∧
    (¬ 1 ≤ (0 : Byte).toNat ∧ ¬ (5 : Byte).toNat ≤ (4 : Byte).toNat ∧ ¬ (13 : Byte).toNat ≤ 12 ∧ ¬ (121 : Byte).toNat ≤ 120 ∧
      ¬ (31 : Byte).toNat ≤ 30) ∧
    (∀ p : PortId, p = 0 ∨ p = 1 →
      let s := withPort p { serving.ports[p] with state := .empty, identity := none } serving;
      PortsLaw s ∧ HasSlot s ∧ s.positions[(0 : PosId)].keypad = some 1 ∧ s.positions[(0 : PosId)].reader = some 0 ∧
      s.positions[(0 : PosId)].entry = none ∧ s.positions[(0 : PosId)].state = .session ∧
      ¬ ((∃ x, Serves 1 x s) ∧ ∃ x, Serves 0 x s)) ∧
    (let s := { serving with pool := noRecord.pool };
      PortsLaw s ∧ HasSlot s ∧ (∃ x, Serves 1 x s) ∧ (∃ x, Serves 0 x s) ∧ ∀ i : RecId, s.pool[i].state ≠ .free) := by
  refine ⟨by unfold HasSlot; decide +kernel, by decide +kernel, by decide +kernel, by decide +kernel, by decide, ?_, ?_⟩
  · rintro p (rfl | rfl)
    · exact ⟨fun p => by constructor <;> (revert p; decide +kernel), by unfold HasSlot; decide +kernel, by decide +kernel,
        by decide +kernel, by decide +kernel, by decide +kernel, fun h => h.2.elim (not_serves_of (by decide +kernel))⟩
    · exact ⟨fun p => by constructor <;> (revert p; decide +kernel), by unfold HasSlot; decide +kernel, by decide +kernel,
        by decide +kernel, by decide +kernel, by decide +kernel, fun h => h.1.elim (not_serves_of (by decide +kernel))⟩
  · exact ⟨fun p => by constructor <;> (revert p; decide +kernel), by unfold HasSlot; decide +kernel,
      ⟨1, serves_of_usableTest _ (by decide +kernel) (by decide +kernel)⟩,
      ⟨0, serves_of_usableTest _ (by decide +kernel) (by decide +kernel)⟩, by decide +kernel⟩

theorem witness_SetLineWritesSettings :
    HasSlot working ∧ (60 : Byte).toNat ≤ 60 ∧ (15 : Byte).toNat ≤ 15 ∧
    Attends { working with line := ⟨.s32, 60, 15, 0⟩, starvation := 0 } false ∧
    Attends { working with line := ⟨.s32, 60, 4, 0x7FF⟩ } true := by unfold HasSlot Attends; decide +kernel

theorem witness_TakeNoticeTakesTheFirst :
    (HasSlot State.reset ∧ State.reset.notices = [] ∧ NoticeLaw State.reset ∧ LampLaw State.reset) ∧
    HasSlot working ∧ NoticeLaw working ∧ LampLaw working ∧ Notice.portReady 11 ∈ working.notices ∧
    ∀ m ∈ working.notices, kindPriority (noticeKind (.portReady 11)) < kindPriority (noticeKind m) ∨
      (kindPriority (noticeKind (.portReady 11)) = kindPriority (noticeKind m) ∧
        noticeSubject (.portReady 11) ≤ noticeSubject m) :=
  ⟨⟨by unfold HasSlot; decide +kernel, rfl, by constructor <;> decide +kernel, by constructor <;> decide +kernel⟩,
    by unfold HasSlot; decide +kernel, working_noticeLaw, working_lampLaw, by decide +kernel, by decide +kernel⟩

theorem witness_RestartAndStandDown :
    (PoolLaw working ∧ PositionLaw working ∧ LampLaw working ∧ HasSlot working ∧ working.silence = none) ∧
    (let s := { working with silence := some 5000 };
      PoolLaw s ∧ PositionLaw s ∧ LampLaw s ∧ s.silence ≠ none) :=
  ⟨⟨working_poolLaw, working_positionLaw, working_lampLaw, by unfold HasSlot; decide +kernel, rfl⟩,
    poolLaw_of (by decide +kernel), by apply positionLaw_of <;> decide +kernel, by constructor <;> decide +kernel, by decide +kernel⟩

theorem witness_ReadsAnswerFromTheState : HasSlot counter ∧ Serves 23 11 counter ∧ Unassigned 23 counter ∧
    counter.routes[(22 : UnitId)].valid = false ∧ Unassigned 22 counter ∧ ([0] : List Byte) ≠ [] :=
  ⟨by unfold HasSlot; decide +kernel, serves_of_usableTest _ (by decide +kernel) (by decide +kernel),
    by unfold Unassigned Assigned; decide +kernel, by decide +kernel, by unfold Unassigned Assigned; decide +kernel, by decide⟩

/-- A position with an entry and one without. -/
theorem witness_ReadsWithFreeValues : HasSlot (collecting [0x31]) ∧
    (collecting [0x31]).positions[(0 : PosId)].entry = some (collected [0x31]) ∧
    (collecting [0x31]).positions[(7 : PosId)].entry = none := by unfold HasSlot; decide +kernel

/-! ### Witnesses: refusals out of range, and units that are not usable -/

/-- Parameters out of range at a boundary, for every code that has ranges; and the values beside them, which are in range. -/
theorem witness_DiscardsAndWrongLengths_ranges : HasSlot counter ∧
    (∀ x ∈ ([(.setRoute 9 [0, 2, 0], 0x01), (.setRoute 9 [25, 2, 0], 0x01), (.setRoute 9 [1, 0], 0x01), (.setRoute 9 [1, 0x12, 0], 0x01),
        (.setRoute 9 [1, 1, 12, 0xFF], 0x01), (.setRoute 9 [1, 1, 0, 12], 0x01), (.setRoute 9 [1, 1, 3, 3], 0x01),
        (.setRoute 9 [1, 3, 0, 0xFF, 3], 0x01), (.clearRoute 9 [0], 0x02), (.readRoute 9 [25], 0x03), (.setGroup 9 [24, 2, 0], 0x08),
        (.setGroup 9 [25, 0], 0x08), (.setGroup 9 [25, 2, 25], 0x08), (.setGroup 9 [25, 3, 0, 1, 25], 0x08),
        (.setGroup 9 [25, 1, 2, 5, 5], 0x08), (.readGroup 9 [32], 0x09), (.setPort 9 [12, 0x80, 0], 0x10),
        (.setPort 9 [0, 0], 0x10), (.setPort 9 [0, 1, 8], 0x10), (.setPort 9 [0, 2, 9], 0x10), (.setPort 9 [0, 4, 2], 0x10),
        (.setPort 9 [0, 0x18, 251, 16], 0x10), (.setPort 9 [0, 0x18, 250, 15], 0x10), (.setPort 9 [0, 0x10, 65], 0x10),
        (.setPort 9 [0, 0x20, 4], 0x10), (.setPort 9 [0, 0x40, 2], 0x10), (.setPort 9 [0, 0x80, 2], 0x10), (.readPort 9 [12], 0x11),
        (.resetPort 9 [12], 0x12), (.abortPort 9 [12], 0x13), (.setPass 9 [12, 0, 0], 0x18), (.setPass 9 [0, 2, 0], 0x18),
        (.setPosition 9 [9, 1, 2], 0x20), (.setPosition 9 [1, 25, 2], 0x20), (.setPosition 9 [1, 3, 3], 0x20),
        (.openPosition 9 [0], 0x21), (.closePosition 9 [9], 0x22), (.openSession 9 [0], 0x23), (.closeSession 9 [9], 0x24),
        (.setSessionLimit 9 [5], 0x25), (.readPosition 9 [0], 0x26), (.openEntry 9 [9, 1, 1, 1, 1, 1], 0x28), (.cancelEntry 9 [0], 0x29),
        (.setLine 9 [1, 4], 0x30), (.setLine 9 [2, 61], 0x30), (.setLine 9 [4, 16], 0x30), (.setLine 9 [9, 0, 8, 0], 0x30),
        (.readCounters 9 [12, 0], 0x39), (.readCounters 9 [0xFF, 2], 0x39), (.restartTraffic 9 [3], 0x3F)] : List (Instr × Byte)),
      ∃ params, reservedRequest x.1 = some (9, x.2, params) ∧ expectedLength x.2 params = some params.length ∧
        outOfRange x.2 params = true) ∧
    (∀ x ∈ ([(0x01, [24, 3, 11, 0xFF, 2]), (0x08, [31, 3, 24, 2, 1, 24]), (0x08, [25, 0x22, 0]), (0x10, [11, 0xFF, 7, 11, 1, 250, 64, 3, 1, 1]), (0x18, [11, 1, 0xFF]),
        (0x20, [8, 24, 0]), (0x20, [1, 0, 0]), (0x25, [4]), (0x30, [15, 3, 60, 15, 7, 0xFF]), (0x39, [0xFF, 1])] : List (Byte × List Byte)),
      outOfRange x.1 x.2 = false) := by
  refine ⟨by unfold HasSlot; decide +kernel, ?_, by decide +kernel⟩
  intro x h
  have g : (reservedRequest x.1).any (fun y => decide (y.1 = 9) && decide (y.2.1 = x.2) &&
      decide (expectedLength x.2 y.2.2 = some y.2.2.length) && outOfRange x.2 y.2.2) = true := by
    revert x; decide +kernel
  rcases hr : reservedRequest x.1 with _ | ⟨tag, code, params⟩
  · simp [hr] at g
  · simp only [hr, Option.any_some, Bool.and_eq_true, decide_eq_true_eq] at g
    obtain ⟨⟨⟨rfl, rfl⟩, hl⟩, ho⟩ := g
    exact ⟨params, rfl, hl, ho⟩

/-- An ENTER with a card in the reader, whose port is gone or whose entry is faulted. -/
theorem witness_CompleteEnterDelivers_unavailable :
    let e := collected [0x31, 0x32, 0x33, 0x34];
    ∀ f : State → State,
      f = (fun s => withPort 0 { s.ports[(0 : PortId)] with state := .empty, identity := none } s) ∨ f = upsetClass 0 →
      let s := typing 0x0D (f (collecting [0x31, 0x32, 0x33, 0x34]));
      Completes 1 [lineEvent, 0, 0x20, 0x0D] (lastChar [lineEvent, 0, 0x20, 0x0D]) s ∧ PositionLaw s ∧ PortsLaw s ∧
      s.positions[(0 : PosId)].entry = some e ∧ s.positions[(0 : PosId)].card = .cardIn ∧ s.positions[(0 : PosId)].reader = some 0 ∧
      (∀ r, ¬ Serves 0 r (sampled 1 s)) ∧ s.routes[(0 : UnitId)].valid = true := by
  rintro e f (rfl | rfl) <;>
    exact ⟨completes_sound (by decide +kernel), by apply positionLaw_of <;> decide +kernel,
      fun p => by constructor <;> (revert p; decide +kernel), by decide +kernel, by decide +kernel, by decide +kernel,
      not_serves_of (by decide +kernel), by decide +kernel⟩

/-- The collecting counter with a port IDENTIFYING, and the reply of a device of a class on its way. -/
def identifyingAt (p : PortId) (cls : DeviceClass) (s : State) : State :=
  arriving p [lineReply, 77, 0x00, deviceClassCode cls, 0x12, 0x34, 0x00, 0x01] (withPort p { s.ports[p] with
    state := .identifying, identity := none, identify := some ⟨1, 77, some 144, false⟩ } s)

/-- A keypad on the reader's port, a reader on the keypad's port, a reader of a faulted entry, and the right reader, each while the entry
of position 1 collects. -/
theorem witness_IdentifyReplyMakesReady_owner :
    ∀ x ∈ ([(0, 0, .keypad, collecting []), (1, 1, .reader, collecting []), (0, 0, .reader, upsetClass 0 (collecting [])),
        (0, 0, .reader, collecting [])] : List (PortId × UnitId × DeviceClass × State)),
      let s := identifyingAt x.1 x.2.2.1 x.2.2.2;
      Completes x.1 [lineReply, 77, 0x00, deviceClassCode x.2.2.1, 0x12, 0x34, 0x00, 0x01]
        (lastChar [lineReply, 77, 0x00, deviceClassCode x.2.2.1, 0x12, 0x34, 0x00, 0x01]) s ∧
      PortsLaw s ∧ PositionLaw s ∧ s.ports[x.1].state = .identifying ∧
      s.ports[x.1].identify = some ⟨1, 77, some 144, false⟩ ∧ s.owners[x.1] = some x.2.1 ∧
      s.positions[(0 : PosId)].entry = some (collected []) ∧
      (s.positions[(0 : PosId)].reader = some x.2.1 ∨ s.positions[(0 : PosId)].keypad = some x.2.1) := by
  intro x h
  simp only [List.mem_cons, List.not_mem_nil, or_false] at h
  rcases h with rfl | rfl | rfl | rfl <;>
    exact ⟨completes_sound (by decide +kernel), fun p => by constructor <;> (revert p; decide +kernel),
      by apply positionLaw_of <;> decide +kernel, by decide +kernel, by decide +kernel, by decide +kernel, by decide +kernel,
      by decide +kernel⟩

/-- The collecting counter, whose reader has a standby READY on port 11. -/
def withStandby : State :=
  fit 11 .reader { routed 0 (fun e => { e with standby := some 11 }) (collecting []) with owners := (collecting []).owners.set 11 (some 0) }

/-- The reader's port, the keypad's port, the port of a reader of a faulted entry, and a primary whose standby is READY, each while the
entry of position 1 collects. -/
theorem witness_DepartureEndsExchanges_owner :
    ∀ x ∈ ([(0, collecting []), (1, collecting []), (0, upsetClass 0 (collecting [])), (0, withStandby)] : List (PortId × State)),
      PoolLaw x.2 ∧ PortsLaw x.2 ∧ PositionLaw x.2 ∧ x.2.ports[x.1].state = .ready ∧
      (∃ moved, DepartsBy x.1 x.2 (.presenceLost x.1) .detached (some (.portDetached x.1)) moved none) ∧
      x.2.positions[(0 : PosId)].entry = some (collected []) := by
  intro x h
  simp only [List.mem_cons, List.not_mem_nil, or_false] at h
  rcases h with rfl | rfl | rfl | rfl <;>
    exact ⟨poolLaw_of (by decide +kernel), fun p => by constructor <;> (revert p; decide +kernel),
      by apply positionLaw_of <;> decide +kernel, by decide +kernel, ⟨_, .inl ⟨rfl, rfl, rfl, rfl, rfl⟩⟩, by decide +kernel⟩

/-- R12, R128: the primary departs while the standby is READY: the entry goes on, and the card state is NO_CARD. -/
theorem test_standby_keeps_the_entry :
    let t := after (.presenceLost 0) withStandby
    (t.positions[(0 : PosId)].entry, t.positions[(0 : PosId)].card, t.control) = (some (collected []), .noCard, []) := by
  decide +kernel

/-- R12, R35, R147: an over-current at the keypad's port ends the entry KEYPAD_LOST, with the supply off. -/
theorem test_overcurrent_at_the_keypad :
    let t := after (.overCurrent 1) (collecting [])
    (t.control, t.ports[(1 : PortId)].supply, t.notices) = ([.entryEnd 0 1 .abandoned .keypadLost 0 []], false, [.portFault 1]) := by
  decide +kernel

/-- R43, R44: RESET PORT on a READY port asserts DRSTn for 50 ms and keeps the identity. -/
theorem test_reset_of_a_ready_port :
    let q := (after (.resetPort 1 [0x0B]) counter).ports[(11 : PortId)]
    (q.state, q.pulse, q.resetLine, q.identity) = (.settling, some 50, true, counter.ports[(11 : PortId)].identity) := by
  decide +kernel

/-- Every outcome and every place: the usable reader and the usable keypad of position 1, a unit without an entry, a faulted one, one
without an active port, and one in class conflict. -/
theorem witness_ReadsAnswerFromTheState_units :
    (HasSlot counter ∧ PositionLaw counter ∧ HasOutcome 0 counter 0 0 ∧ HasPlace 0 counter 1 1 ∧ HasPlace 1 counter 1 2) ∧
    (HasOutcome 22 counter 1 0xFF ∧ HasPlace 22 counter 0 0) ∧ HasOutcome 0 (upsetClass 0 counter) 2 0xFF ∧
    HasOutcome 0 readerGone 3 0xFF ∧ HasOutcome 23 (routed 23 (fun e => { e with expected := .reader }) counter) 4 11 := by
  refine ⟨⟨by unfold HasSlot; decide +kernel, by apply positionLaw_of <;> decide +kernel,
    .inr (.inr (.inr (.inr ⟨0, serves_of_usableTest _ (by decide +kernel) (by decide +kernel), rfl, rfl⟩))),
    .inr ⟨0, rfl, .inl (by decide +kernel)⟩, .inr ⟨0, rfl, .inr (by decide +kernel)⟩⟩,
    ⟨.inl (by decide +kernel), .inl ⟨by unfold Unassigned Assigned; decide +kernel, rfl, rfl⟩⟩,
    .inr (.inl (by decide +kernel)), .inr (.inr (.inl ⟨by decide +kernel, by decide +kernel, ?_, rfl, rfl⟩)),
    .inr (.inr (.inr (.inl ⟨11, ⟨.other, 0, 0⟩, by decide +kernel, by decide +kernel, .inl (by decide +kernel), by decide +kernel,
      ?_, rfl, rfl⟩)))⟩
  · unfold Active; decide +kernel
  · unfold Agrees; decide +kernel

/-! ### One command on a small state, with the values of the spec's rules -/

/-- R105, R110: a KEY CALL at an OPEN position raises no notice and goes upstream with session number 0. -/
theorem test_key_call_at_an_open_position :
    let t := after (.lineFrameReceived 1 (lastChar [lineEvent, 0, 0x20, 0x3F])) (arriving 1 [lineEvent, 0, 0x20, 0x3F] counter);
    t.notices = [] ∧ t.ports[(1 : PortId)].outbound = [.event 1 0 0x20 0 [0x3F]] := by decide +kernel

/-- R144: an ENTER that finds the reader faulted raises TABLE_FAULT and ends the entry NOT_DELIVERED, READER_UNAVAILABLE. -/
theorem test_reader_unavailable :
    let t := after (.lineFrameReceived 1 (lastChar [lineEvent, 0, 0x20, 0x0D]))
      (typing 0x0D (upsetClass 0 (collecting [0x31, 0x32, 0x33, 0x34])));
    t.notices = [.unitFault 0] ∧ t.control = [.entryEnd 0 1 .notDelivered .readerUnavailable 0 []] := by decide +kernel

/-- R20, Table 12.8: READ ROUTE of the keypad unit 2 of position 1, usable on port 1. -/
theorem test_read_route_of_an_assigned_unit :
    (after (.readRoute 9 [2]) counter).control = [.reply 9 .ok [2, 1, 1, 0xFF, 2, 0, 0, 0, 1, 1, 2, 0]] := by decide +kernel

/-- R166, R177, Table 10.4: PORT_READY of port 11 is kind 5 of the order (code 4), and WATTN falls with the last pair. -/
theorem test_take_notice : (after (.takeNotice 9 []) working).control = [.reply 9 .ok [4, 11, 0]] ∧
    (after (.takeNotice 9 []) working).wattn = false := by decide +kernel

/-- R123: 255 is held, so the session takes 1 and the next number is 2. -/
theorem test_session_number_wraps : (after (.openSession 9 [2]) (wrapping 2)).control = [.reply 9 .ok [1]] ∧
    (after (.openSession 9 [2]) (wrapping 2)).nextSession = 2 := by decide +kernel

/-- R122: one position in SESSION under a limit of 1. -/
theorem test_session_limit_refuses : (after (.openSession 9 [2]) (wrapping 1)).control = [.reply 9 .limit []] := by decide +kernel

/-- R141: ENTER with one digit under min 4 is short. -/
theorem test_short_enter : (after (.lineFrameReceived 1 (lastChar [lineEvent, 0, 0x20, 0x0D])) (typing 0x0D (collecting [0x31]))).control =
    [.progress 0 1 1 true false] := by decide +kernel

/-- R144, R55: a complete ENTER puts the digits into the reserved record, at the head of the reader port's queue. -/
theorem test_complete_enter :
    let t := after (.lineFrameReceived 1 (lastChar [lineEvent, 0, 0x20, 0x0D])) (typing 0x0D (collecting [0x31, 0x32, 0x33, 0x34]));
    t.ports[(0 : PortId)].queue = [5] ∧ t.pool[(5 : RecId)].data = [0x31, 0x32, 0x33, 0x34] ∧ t.control = [] := by decide +kernel

/-- R34, R73, Table 3.4: the device of port 11 leaves: the exchange in flight ends first, then the queued one, both DETACHED. -/
theorem test_detached_in_order : (after (.presenceLost 11) working).ports[(11 : PortId)].outbound =
    [.reply 2 23 9 false false .done 0 [], .reply 0 23 7 false false .detached 0 [], .reply 1 23 8 false false .detached 0 []] := by
  decide +kernel

/-- R94: an expected count of 0 places GROUP END with outcome COMPLETE at acceptance: two members issued, one skipped. -/
theorem test_group_of_count_zero : (after (.groupRequest 25 7 [0x41]) (grouped 0)).control =
    [.groupEnd 0 7 .complete 0 2 1 0] := by decide +kernel

/-- R96, R97, Table 5.3: the last of three members under an expected count of 5 places GROUP END SHORT and frees the record. -/
theorem test_group_end_short :
    let t := memberEnded 7 (awaitingGroup ⟨7, 0, 5, 3, 0, 2, false⟩);
    t.control = [.groupEnd 0 7 .short 5 3 0 3] ∧ t.groupRecords = [⟨9, 1, 1, 1, 0, 0, true⟩] := by decide +kernel

/-- R21: 31 hex is sent as start bit, 1000 1100 from the least significant bit, at C = 11 an even parity bit of 1, and stop bit. -/
theorem test_sent_character :
    sentChar .c11 0x31 = [.start, .data true, .data false, .data false, .data false, .data true, .data true, .data false,
      .data false, .parity true, .stop] ∧
    sentChar .c10 0x31 = [.start, .data true, .data false, .data false, .data false, .data true, .data true, .data false,
      .data false, .stop] ∧ evenParityBit 0x33 = false := by decide

/-- R21, R46: a frame goes on the line at the rate and with the characters of its port, and keeps them through a new rate and C. -/
theorem test_sent_frame :
    (after (.deviceFrameStart 11 0) (sends 11 (.holding .nobody [0x3C]) counter)).ports[(11 : PortId)].tx =
      .sending .nobody ⟨.b9600, [sentChar .c10 0x3C]⟩ false false ∧
    (let q := (after (.setPort 9 [11, 0x03, 0, 0x0B]) (sends 11 (.sending .nobody someSent false false) counter)).ports[(11 : PortId)];
      q.config.rate = .b1200 ∧ q.config.charLen = .c11 ∧ q.tx = .sending .nobody someSent false false) := by decide +kernel

/-- R95, R96, Table 5.3: of two members under an expected count of 1, the first end places GROUP END COMPLETE and has no AFTER_END, the
second has it, in a departure and in its order. -/
theorem test_member_flags :
    let t := after (.presenceLost 11) members;
    t.ports[(11 : PortId)].outbound = [.reply 2 23 9 false false .done 0 [], .reply 0 23 7 true false .detached 0 [],
      .reply 1 23 7 true true .detached 0 []] ∧
    t.control = [.groupEnd 0 7 .complete 1 2 0 1] ∧ t.groupRecords = [] := by decide +kernel

/-- R145: a delivery that the reader answers with status 07 ends DELIVERED with that status and its data. -/
theorem test_delivered :
    let body : List Byte := [lineReply, 1, 0x07, 0xAA];
    let t := after (.lineFrameReceived 0 (lastChar body)) (arriving 0 body delivering);
    t.control = [.entryEnd 0 1 .delivered .none 0x07 [0xAA]] ∧ t.pool[(5 : RecId)] = freeExchange ∧
    t.positions[(0 : PosId)].entry = none := by decide +kernel

/-- R76: an orphan makes no retry: its first deadline frees it, with no UNIT REPLY. -/
theorem test_orphan_deadline :
    let t := after (.deadlineExpiry 11) (orphanedIn 0);
    t.pool[(0 : RecId)] = freeExchange ∧ t.ports[(11 : PortId)].failures = 1 ∧
    t.ports[(11 : PortId)].outbound = (orphanedIn 0).ports[(11 : PortId)].outbound := by decide +kernel

/-- R140: a digit at max shows FULL and leaves the list. -/
theorem test_full_digit :
    let t := after (.lineFrameReceived 1 (lastChar [lineEvent, 0, 0x20, 0x39]))
      (typing 0x39 (collecting [0x31, 0x32, 0x33, 0x34, 0x35, 0x36]));
    t.control = [.progress 0 1 6 false true] := by decide +kernel

/-- R60: the retry sends the same frame with the same seq and counts TIMEOUTS. -/
theorem test_retry : let t := after (.deadlineExpiry 11) working;
    t.ports[(11 : PortId)].tx = .holding (.exchange 0) (requestBytes 1 0x41 []) ∧ t.ports[(11 : PortId)].counters.timeouts = 1 := by
  decide +kernel

/-- R36: a device that has come up is asked IDENTIFY with a new seq, 255 being followed by 1. -/
theorem test_settled : let q := (after (.settleTimerExpiry 11) (withPort 11 { State.reset.ports[(11 : PortId)] with
      state := .settling, settle := some 100, seq := 255 } State.reset)).ports[(11 : PortId)];
    q.state = .identifying ∧ q.tx = .holding .identify (requestBytes 1 0x00 []) := by decide +kernel

/-- R161: the control queue goes before every port. -/
theorem test_control_first : (after .grant { granting with control := [.started .power] }).tx =
    .sending .control ⟨0x87, false, false, false, 0, 0, [1, 0x86, 0x12, 1]⟩
      (wire ⟨0x87, false, false, false, 0, 0, [1, 0x86, 0x12, 1]⟩) := by decide +kernel

/-- R162, K = 4: at a starvation count of 4 the grant goes to the LOW group, whose pointer names no port: port 1. -/
theorem test_starved_low_group : let t := after .grant { granting with starvation := 4 };
    t.lowPtr = some 1 ∧ t.starvation = 0 := by decide +kernel

/-- R17: the unit of an open exchange keeps its route entry. -/
theorem test_clear_route_busy : (after (.clearRoute 9 [24]) working).control = [.reply 9 .busy []] ∧
    (after (.clearRoute 9 [24]) counter).owners[(11 : PortId)] = none := by decide +kernel

end Sys2Proof.Tests
end

section
/-! SUPPORT. The session limit: what reaches it, and the count of the positions in SESSION held to it (R122, R125). -/

namespace Sys2Proof.Machine

/-! ### Requests of the management kind -/

theorem parseOne_eq_none {params : List Byte} (h : params.length ≠ 1) : parseOne params = none := by
  cases params with
  | nil => rfl
  | cons b rest =>
    cases rest with
    | nil => exact absurd rfl h
    | cons c rest => rfl

theorem posOf_posAddr (k : PosId) : posOf (posAddr k) = some k := by
  have hk : (posAddr k).toNat = k.val + 1 := byteOf_toNat (by omega)
  have hb : 1 ≤ k.val + 1 ∧ k.val + 1 ≤ 8 := by omega
  simp [posOf, hk, hb]

theorem withPosition_posAddr (k : PosId) (act : PosId → State → State × Answer) (s : State) :
    withPosition [posAddr k] act s = act k s := by simp only [withPosition, parseOne, posOf_posAddr]

/-- A request that carries one position either changes nothing and refuses, or acts on that position (R117). -/
theorem withPosition_cases (params : List Byte) (act : PosId → State → State × Answer) (s : State) :
    (withPosition params act s).1 = s ∨ ∃ k, withPosition params act s = act k s := by
  unfold withPosition
  split
  · exact .inl rfl
  · split
    · exact .inl rfl
    · exact .inr ⟨_, rfl⟩

/-! ### The count of positions in SESSION -/

theorem sessionCount_eq_zero (s : State) : sessionCount s = 0 ↔ ∀ k : PosId, s.positions[k].state ≠ .session := by
  simp only [sessionCount, List.countP_eq_zero, decide_eq_true_eq, Vector.mem_toList_iff, Vector.mem_iff_getElem]
  exact ⟨fun h k => h _ ⟨k, k.isLt, rfl⟩, fun h q ⟨i, hi, hq⟩ => hq ▸ h ⟨i, hi⟩⟩

theorem sessionCount_modPos (k : PosId) (f : Position → Position) (s : State) :
    sessionCount (modPos k f s) = sessionCount s - (if s.positions[k].state = .session then 1 else 0) +
      (if (f s.positions[k]).state = .session then 1 else 0) := by
  simp [sessionCount, modPos, Vector.toList_set, List.countP_set]

theorem sessionCount_modPos_le (k : PosId) (f : Position → Position) (s : State) :
    sessionCount (modPos k f s) ≤ sessionCount s + 1 := by
  rw [sessionCount_modPos]; split <;> split <;> omega

theorem sessionCount_modPos_of_state_eq {k : PosId} {f : Position → Position} {s : State}
    (h : (f s.positions[k]).state = s.positions[k].state) : sessionCount (modPos k f s) = sessionCount s := by
  have hin : s.positions[k].state = .session → sessionCount s ≠ 0 := fun hk h0 => (sessionCount_eq_zero s).mp h0 k hk
  rw [sessionCount_modPos, h]
  split
  case isTrue hk => have := hin hk; omega
  case isFalse => rfl

theorem lit_state (m : LampMode) (q : Position) : (lit m q).state = q.state := by
  unfold lit; split <;> rfl

@[simp] theorem sessionCount_refreshLamp (k : PosId) (s : State) : sessionCount (refreshLamp k s) = sessionCount s :=
  sessionCount_modPos_of_state_eq (by rw [setLamp_eq, lit_state])

theorem sessionCount_startSession_le (k : PosId) (s : State) : sessionCount (startSession k s) ≤ sessionCount s + 1 := by
  simp only [startSession, sessionCount_refreshLamp]
  exact sessionCount_modPos_le _ _ _

/-! ### The cases of SET SESSION LIMIT and the limit of OPEN SESSION -/

section
variable {b : Byte} {s : State}

theorem takeSetSessionLimit_badLength {params : List Byte} (h : params.length ≠ 1) :
    takeSetSessionLimit params s = (s, .refuse .badLength) := by simp only [takeSetSessionLimit, parseOne_eq_none h]

theorem takeSetSessionLimit_badParameter (h : b.toNat = 0 ∨ 4 < b.toNat) :
    takeSetSessionLimit [b] s = (s, .refuse .badParameter) := by
  have hr : b.toNat < 1 ∨ 4 < b.toNat := by omega
  simp only [takeSetSessionLimit, parseOne, hr, ↓reduceIte]

theorem takeSetSessionLimit_busy (h1 : 1 ≤ b.toNat) (h4 : b.toNat ≤ 4) (h : ∃ k : PosId, s.positions[k].state = .session) :
    takeSetSessionLimit [b] s = (s, .refuse .busy) := by
  have hr : ¬ (b.toNat < 1 ∨ 4 < b.toNat) := by omega
  have hc : sessionCount s ≠ 0 := fun h0 => h.elim ((sessionCount_eq_zero s).mp h0)
  simp only [takeSetSessionLimit, parseOne, hr, ↓reduceIte, hc, not_false_eq_true, ne_eq]

theorem takeSetSessionLimit_ok (h1 : 1 ≤ b.toNat) (h4 : b.toNat ≤ 4) (h : ¬ ∃ k : PosId, s.positions[k].state = .session) :
    takeSetSessionLimit [b] s = ({ s with sessionLimit := b }, .ok [s.sessionLimit]) := by
  have hr : ¬ (b.toNat < 1 ∨ 4 < b.toNat) := by omega
  have hc : sessionCount s = 0 := (sessionCount_eq_zero s).mpr (not_exists.mp h)
  simp only [takeSetSessionLimit, parseOne, hr, ↓reduceIte, hc, ne_eq, not_true_eq_false]

/-- What SET SESSION LIMIT can do: nothing, or store a limit while no position is in SESSION (R125). -/
theorem takeSetSessionLimit_state (params : List Byte) (s : State) :
    (takeSetSessionLimit params s).1 = s ∨
      sessionCount s = 0 ∧ ∃ b, (takeSetSessionLimit params s).1 = { s with sessionLimit := b } := by
  unfold takeSetSessionLimit
  split
  · exact .inl rfl
  · split_ifs with hr hc
    · exact .inl rfl
    · exact .inl rfl
    · exact .inr ⟨not_not.mp hc, _, rfl⟩

theorem openTheSession_limit {k : PosId} (ho : s.positions[k].state = .open) (hc : sessionCount s = s.sessionLimit.toNat) :
    openTheSession k s = (s, .refuse .limit) := by simp only [openTheSession, ho, hc, ne_eq, not_true_eq_false, ↓reduceIte]

/-- What OPEN SESSION can do at a position: nothing, or start a session where the limit is not reached (R122). -/
theorem openTheSession_state (k : PosId) (s : State) :
    (openTheSession k s).1 = s ∨
      sessionCount s ≠ s.sessionLimit.toNat ∧ (openTheSession k s).1 = startSession k s := by
  unfold openTheSession
  split_ifs with ho hc
  · exact .inl rfl
  · exact .inl rfl
  · exact .inr ⟨hc, rfl⟩

end

/-! ### The count stays within the limit -/

/-- The positions in SESSION do not exceed the limit: the clause `count` of `PositionLaw` (R125). -/
def WithinLimit (s : State) : Prop := sessionCount s ≤ s.sessionLimit.toNat

theorem takeSetSessionLimit_withinLimit {s : State} (params : List Byte) (h : WithinLimit s) :
    WithinLimit (takeSetSessionLimit params s).1 := by
  obtain hs | ⟨hc, b, hs⟩ := takeSetSessionLimit_state params s
  · rwa [hs]
  · rw [hs]
    have hb : sessionCount { s with sessionLimit := b } = 0 := hc
    exact hb.le.trans (Nat.zero_le _)

theorem openTheSession_withinLimit {s : State} (k : PosId) (h : WithinLimit s) : WithinLimit (openTheSession k s).1 := by
  obtain hs | ⟨hc, hs⟩ := openTheSession_state k s
  · rwa [hs]
  · rw [hs]
    calc sessionCount (startSession k s) ≤ sessionCount s + 1 := sessionCount_startSession_le k s
      _ ≤ s.sessionLimit.toNat := Nat.lt_of_le_of_ne h hc

theorem withPosition_openTheSession_withinLimit {s : State} (params : List Byte) (h : WithinLimit s) :
    WithinLimit (withPosition params openTheSession s).1 := by
  obtain hs | ⟨k, hs⟩ := withPosition_cases params openTheSession s
  · rwa [hs]
  · rw [hs]; exact openTheSession_withinLimit k h

/-- Reserving, replying and discarding touch neither positions nor limit, so a request keeps the count within the limit where its owner
does. -/
theorem manage_withinLimit {take : State → State × Answer} (hk : ∀ s, WithinLimit s → WithinLimit (take s).1) (tag : Byte)
    {s : State} (h : WithinLimit s) : WithinLimit (manage tag take s) := by
  by_cases hs : HasSlot s
  · rw [manage_slot s hs]; exact hk (reserveSlot s) h
  · rw [manage_full s hs]; exact h

/-! ### The limit across a counter restart -/

theorem foldl_sessionLimit {α : Type} {f : State → α → State} (hf : ∀ t a, (f t a).sessionLimit = t.sessionLimit) (l : List α)
    (s : State) : (l.foldl f s).sessionLimit = s.sessionLimit :=
  l.foldlRecOn f (motive := fun t => t.sessionLimit = s.sessionLimit) rfl fun t ht a _ => (hf t a).trans ht

theorem orphan_sessionLimit (i : RecId) (s : State) : (orphan i s).sessionLimit = s.sessionLimit := by
  unfold orphan
  split
  · rfl
  · split
    · unfold dropOrphan; split <;> rfl
    · rfl

theorem restartRecord_sessionLimit (i : RecId) (s : State) : (restartRecord i s).sessionLimit = s.sessionLimit := by
  cases h : s.pool[i].state <;> simp only [restartRecord, h]
  case held => split <;> rfl
  case sending => exact orphan_sessionLimit i s
  case awaiting => exact orphan_sessionLimit i s
  case queued => rfl
  case reserved => rfl

@[simp] theorem counterRestart_sessionLimit (kept : Nat) (s : State) :
    (counterRestart kept s).sessionLimit = s.sessionLimit := by
  simp only [counterRestart]
  rw [foldl_sessionLimit fun t k => show (restartPosition k t).sessionLimit = t.sessionLimit from rfl,
    foldl_sessionLimit fun t p => restartPort_sessionLimit t p,
    foldl_sessionLimit fun t i => restartRecord_sessionLimit i t]

@[simp] theorem raiseNotice_sessionLimit (n : Notice) (s : State) : (raiseNotice n s).sessionLimit = s.sessionLimit := by
  unfold raiseNotice
  split
  · rfl
  · cases n <;> rfl

@[simp] theorem standDown_sessionLimit (s : State) : (standDown s).sessionLimit = s.sessionLimit := by
  rw [standDown, raiseNotice_sessionLimit, counterRestart_sessionLimit]

theorem takeRestart_traffic_sessionLimit (s : State) : (takeRestart [scopeTraffic] s).1.sessionLimit = s.sessionLimit := by
  simp only [takeRestart, parseOne, ↓reduceIte, counterRestart_sessionLimit]

theorem manage_sessionLimit {take : State → State × Answer} (hk : ∀ s, (take s).1.sessionLimit = s.sessionLimit) (tag : Byte)
    (s : State) : (manage tag take s).sessionLimit = s.sessionLimit := by
  by_cases hs : HasSlot s
  · rw [manage_slot s hs]; exact hk (reserveSlot s)
  · rw [manage_full s hs]; rfl

/-! ### The commands -/

theorem exec_setSessionLimit (tag : Byte) (params : List Byte) (s : State) :
    exec (.setSessionLimit tag params) s = .next (manage tag (takeSetSessionLimit params) s) := rfl

theorem exec_openSession (tag : Byte) (params : List Byte) (s : State) :
    exec (.openSession tag params) s = .next (manage tag (withPosition params openTheSession) s) := rfl

theorem exec_setSessionLimit_of_slot {tag : Byte} {params : List Byte} {s : State} (hs : HasSlot s) :
    exec (.setSessionLimit tag params) s = .next (replied tag (takeSetSessionLimit params (reserveSlot s))) := by
  rw [exec_setSessionLimit, manage_slot s hs]

theorem exec_openSession_limit {tag : Byte} {k : PosId} {s : State} (hs : HasSlot s) (ho : s.positions[k].state = .open)
    (hc : sessionCount s = s.sessionLimit.toNat) :
    exec (.openSession tag [posAddr k]) s = .next (answered tag .limit [] s) := by
  rw [exec_openSession, manage_slot s hs, withPosition_posAddr, openTheSession_limit (s := reserveSlot s) ho hc, replied_refuse]

/-- Neither request of the limit takes the count of positions in SESSION above it (R122, R125). -/
theorem exec_withinLimit {tag : Byte} {params : List Byte} {s t : State} (h : WithinLimit s)
    (ht : exec (.setSessionLimit tag params) s = .next t ∨ exec (.openSession tag params) s = .next t) : WithinLimit t := by
  obtain ht | ht := ht
  · cases ht; exact manage_withinLimit (fun _ => takeSetSessionLimit_withinLimit params) tag h
  · cases ht; exact manage_withinLimit (fun _ => withPosition_openTheSession_withinLimit params) tag h

/-- A counter restart, asked for or by the silence timer, keeps the limit (R134, R167). -/
theorem exec_restartTraffic_sessionLimit {tag : Byte} {s t : State}
    (h : exec (.restartTraffic tag [scopeTraffic]) s = .next t) : t.sessionLimit = s.sessionLimit := by
  cases h; exact manage_sessionLimit takeRestart_traffic_sessionLimit tag s

theorem exec_silenceTimerExpiry_sessionLimit {s t : State} (h : exec .silenceTimerExpiry s = .next t) :
    t.sessionLimit = s.sessionLimit := by
  cases h
  split
  · exact standDown_sessionLimit s
  · rfl

/-- The four outcomes of SET SESSION LIMIT for a request with a slot, in the order of its checks (R125). -/
theorem exec_setSessionLimit_cases (b tag : Byte) {s : State} (hs : HasSlot s) :
    let run := exec (.setSessionLimit tag [b]) s
    let busy := ∃ k : PosId, s.positions[k].state = .session
    (b.toNat = 0 ∨ 4 < b.toNat → run = .next (answered tag .badParameter [] s)) ∧
    (1 ≤ b.toNat → b.toNat ≤ 4 → busy → run = .next (answered tag .busy [] s)) ∧
    (1 ≤ b.toNat → b.toNat ≤ 4 → ¬ busy →
      run = .next (answered tag .ok [s.sessionLimit] { s with sessionLimit := b })) := by
  simp only [exec_setSessionLimit_of_slot hs]
  refine ⟨fun h => ?_, fun h1 h4 hb => ?_, fun h1 h4 hb => ?_⟩
  · rw [takeSetSessionLimit_badParameter h, replied_refuse]
  · rw [takeSetSessionLimit_busy (s := reserveSlot s) h1 h4 hb, replied_refuse]
  · rw [takeSetSessionLimit_ok (s := reserveSlot s) h1 h4 hb]; rfl

/-- Settles O54: each outcome of SET SESSION LIMIT and the refusal LIMIT of OPEN SESSION by the cases of their takings, the bound on the
count by `exec_withinLimit`, and the limit across restarts by what a counter restart leaves and what the cold values are. -/
theorem sessionLimitIsSetWhileNoSession : Obligations.SessionLimitIsSetWhileNoSession := by
  refine ⟨fun b tag s hs => ?_, fun _ _ _ _ h ht => exec_withinLimit h ht, fun s t tag cause r1 r0 => ?_⟩
  · obtain ⟨hrange, hbusy, hok⟩ := exec_setSessionLimit_cases b tag hs
    refine ⟨fun params hp => ?_, hrange, hbusy, hok, fun k => exec_openSession_limit hs⟩
    rw [exec_setSessionLimit_of_slot hs, takeSetSessionLimit_badLength hp, replied_refuse]
  · refine ⟨exec_restartTraffic_sessionLimit, exec_silenceTimerExpiry_sessionLimit, fun h => ?_, fun h => ?_⟩
    · cases h; rfl
    · cases h; rfl

end Sys2Proof.Machine
end

section
/-! SUPPORT. The requests that read: how their parameters decode, what their results say of the state, and that nothing else changes (R20,
R47, R171, R173). -/

namespace Sys2Proof.Machine

/-! ### Their parameters decode to what they name -/

theorem unitOf_unitAddr (u : UnitId) : unitOf (unitAddr u) = some u := by
  have hu : (unitAddr u).toNat = u.val + 1 := byteOf_toNat (by omega)
  have hb : 1 ≤ u.val + 1 ∧ u.val + 1 ≤ 24 := by omega
  simp [unitOf, hu, hb]

theorem portCode_toNat (p : PortId) : (portCode p).toNat = p.val := byteOf_toNat (by omega)

theorem portOf_portCode (p : PortId) : portOf (portCode p) = some p := by
  simp [portOf, portCode_toNat]

theorem selectionOf_portCode (p : PortId) : selectionOf (portCode p) = some (.port p) := by
  have hp : portCode p ≠ 0xFF := fun h => by
    have h255 : p.val = 255 := (portCode_toNat p).symm.trans (congrArg BitVec.toNat h)
    omega
  simp only [selectionOf, if_neg hp, portOf_portCode, Option.map_some]

theorem boolOf_boolCode (b : Bool) : boolOf (boolCode b) = some b := by cases b <;> rfl

theorem parseNone_eq_none {params : List Byte} (h : params ≠ []) : parseNone params = none := by
  cases params with
  | nil => exact absurd rfl h
  | cons b rest => rfl

/-! ### What their results say of the state -/

section
variable {s : State} {u : UnitId} {outcome port position role : Byte}

theorem usableTest_notValid (hv : s.routes[u].valid = false) : usableTest u s = .notValid := by
  simp only [usableTest, hv, ↓reduceIte]

theorem usableTest_faulted (hv : s.routes[u].valid = true)
    (hf : ¬ (s.routes[u].portsCheck = .good ∧ s.routes[u].classCheck = .good)) : usableTest u s = .faulted := by
  have hf : routeFaulted s.routes[u] = true := by rwa [← routeFaulted_eq_false, Bool.not_eq_false] at hf
  simp only [usableTest, hv, hf, Bool.true_eq_false, ↓reduceIte]

theorem usableTest_noPort (hv : s.routes[u].valid = true)
    (hg : s.routes[u].portsCheck = .good ∧ s.routes[u].classCheck = .good) (ha : ∀ p, ¬ Active s.routes[u] p s) :
    usableTest u s = .noPort := by
  have hf := (routeFaulted_eq_false s.routes[u]).mpr hg
  have hn : activePort s.routes[u] s = none :=
    Option.eq_none_iff_forall_ne_some.mpr fun p hp => ha p ((activePort_iff s _ p).mp hp)
  simp only [usableTest, hv, hf, hn, Bool.true_eq_false, Bool.false_eq_true, ↓reduceIte]

theorem usableTest_mismatch {p : PortId} {d : Identity} (hv : s.routes[u].valid = true)
    (hg : s.routes[u].portsCheck = .good ∧ s.routes[u].classCheck = .good) (ha : Active s.routes[u] p s)
    (hd : s.ports[p].identity = some d) (hc : ¬ Agrees s.routes[u].expected d.cls) : usableTest u s = .mismatch p := by
  have hf := (routeFaulted_eq_false s.routes[u]).mpr hg
  have hp := (activePort_iff s s.routes[u] p).mpr ha
  have hx : conflicts s.routes[u].expected s.ports[p].identity = true := by rw [hd]; exact (conflicts_some _ _).mpr hc
  simp only [usableTest, hv, hf, hp, hx, Bool.true_eq_false, Bool.false_eq_true, ↓reduceIte]

/-- The usable-unit test answers the outcome and the port that R11 gives. -/
theorem usableTest_of_hasOutcome (h : HasOutcome u s outcome port) :
    usableCode (usableTest u s) = outcome ∧ optPortCode (usablePort (usableTest u s)) = port := by
  obtain ⟨hv, rfl, rfl⟩ | ⟨hv, hf, rfl, rfl⟩ | ⟨hv, hg, ha, rfl, rfl⟩ | ⟨p, d, hv, hg, ha, hd, hc, rfl, rfl⟩ | ⟨p, hs, rfl, rfl⟩ := h
  · rw [usableTest_notValid hv]; exact ⟨rfl, rfl⟩
  · rw [usableTest_faulted hv hf]; exact ⟨rfl, rfl⟩
  · rw [usableTest_noPort hv hg ha]; exact ⟨rfl, rfl⟩
  · rw [usableTest_mismatch hv hg ha hd hc]; exact ⟨rfl, rfl⟩
  · rw [usableTest_usable s hs]; exact ⟨rfl, rfl⟩

theorem assignmentBytes_of_unassigned (h : Unassigned u s) : assignmentBytes (assignment u s) = [0, 0] := by
  rw [assignment_none s h, assignmentBytes]

theorem assignmentBytes_of_hasPlace (hl : PositionLaw s) (h : HasPlace u s position role) :
    assignmentBytes (assignment u s) = [position, role] := by
  obtain ⟨hu, rfl, rfl⟩ | ⟨k, rfl, ⟨hk, rfl⟩ | ⟨hk, rfl⟩⟩ := h
  · exact assignmentBytes_of_unassigned hu
  · rw [assignment_reader s hl hk]; rfl
  · rw [assignment_keypad s hl hk]; rfl

theorem isSome_inFlight (p : PortId) (s : State) :
    (inFlight p s).isSome = s.pool.toList.any fun r => decide (r.port = some p) && isInFlight r := by
  rw [Bool.eq_iff_iff, inFlight, List.find?_isSome, List.any_eq_true]
  simp only [List.mem_finRange, true_and, mem_pool, exists_exists_eq_and]

theorem freeSlots_reserveSlot (s : State) : freeSlots (reserveSlot s) = 15 - s.control.length - s.reservations := by
  simp only [freeSlots, reserveSlot, Config.controlSlots]; omega

end

/-! ### Their takings, with the slot of the reply reserved -/

/-- A request that its owner grants: its reply fills the slot (R158). -/
theorem manage_ok {take : State → State × Answer} {tag : Byte} {result : List Byte} {s t : State} (hs : HasSlot s)
    (h : take (reserveSlot s) = (reserveSlot t, .ok result)) : manage tag take s = answered tag .ok result t := by
  rw [manage_slot s hs, h, replied_ok]

theorem manage_refuse {take : State → State × Answer} {tag : Byte} {st : Status} {s t : State} (hs : HasSlot s)
    (h : take (reserveSlot s) = (reserveSlot t, .refuse st)) : manage tag take s = answered tag st [] t := by
  rw [manage_slot s hs, h, replied_refuse]

theorem takeReadRoute_unitAddr (u : UnitId) (s : State) : takeReadRoute [unitAddr u] s = (s, .ok (routeResult u s)) := by
  simp only [takeReadRoute, parseOne, unitOf_unitAddr]

theorem takeReadPort_portCode (p : PortId) (s : State) : takeReadPort [portCode p] s = (s, .ok (portResult p s)) := by
  simp only [takeReadPort, parseOne, portOf_portCode]

theorem takeReadStatus_badLength {params : List Byte} (h : params ≠ []) (s : State) :
    takeReadStatus params s = (s, .refuse .badLength) := by simp only [takeReadStatus, parseNone_eq_none h]

theorem takeReadCounters_of_selection {b : Byte} {sel : CounterSelection} (h : selectionOf b = some sel) (clear : Bool) (s : State) :
    takeReadCounters [b, boolCode clear] s = (if clear then clearCounters sel s else s, .ok (counterResult sel s)) := by
  simp only [takeReadCounters, parseCounters, h, boolOf_boolCode]

theorem clearCounters_reserveSlot (sel : CounterSelection) (s : State) :
    clearCounters sel (reserveSlot s) = reserveSlot (clearCounters sel s) := by cases sel <;> rfl

theorem counterResult_reserveSlot (sel : CounterSelection) (s : State) :
    counterResult sel (reserveSlot s) = counterResult sel s := by cases sel <;> rfl

/-! ### The commands -/

section
variable {s : State} (tag : Byte) (hs : HasSlot s)
include hs

theorem exec_readRoute (u : UnitId) :
    exec (.readRoute tag [unitAddr u]) s = .next (answered tag .ok (routeResult u s) s) :=
  congrArg Host.Outcome.next (manage_ok hs (takeReadRoute_unitAddr u (reserveSlot s)))

theorem exec_readPort (p : PortId) :
    exec (.readPort tag [portCode p]) s = .next (answered tag .ok (portResult p s) s) :=
  congrArg Host.Outcome.next (manage_ok hs (takeReadPort_portCode p (reserveSlot s)))

theorem exec_readStatus_badLength {params : List Byte} (h : params ≠ []) :
    exec (.readStatus tag params) s = .next (answered tag .badLength [] s) :=
  congrArg Host.Outcome.next (manage_refuse hs (takeReadStatus_badLength h (reserveSlot s)))

/-- READ STATUS sees its own reply's slot reserved (R158, R171). -/
theorem exec_readStatus :
    exec (.readStatus tag []) s = .next (answered tag .ok (statusResult (reserveSlot s)) s) :=
  congrArg Host.Outcome.next (manage_ok hs rfl)

/-- READ COUNTERS answers the counters as they were before CLEAR (R173). -/
theorem exec_readCounters {b : Byte} {sel : CounterSelection} (h : selectionOf b = some sel) (clear : Bool) :
    exec (.readCounters tag [b, boolCode clear]) s =
      .next (answered tag .ok (counterResult sel s) (if clear then clearCounters sel s else s)) := by
  refine congrArg Host.Outcome.next (manage_ok hs ?_)
  rw [takeReadCounters_of_selection h, clearCounters_reserveSlot, counterResult_reserveSlot, ← apply_ite]

/-- READ ROUTE by the outcome of the usable-unit test and the assignment of the unit (R20). -/
theorem exec_readRoute_of_hasOutcome {u : UnitId} {outcome port position role : Byte} (ho : HasOutcome u s outcome port)
    (hp : assignmentBytes (assignment u s) = [position, role]) :
    exec (.readRoute tag [unitAddr u]) s = .next (answered tag .ok
      [unitAddr u, boolCode s.routes[u].valid, portCode s.routes[u].primary, optPortCode s.routes[u].standby,
        expectedCode s.routes[u].expected, checkCode s.routes[u].portsCheck, checkCode s.routes[u].classCheck, outcome, port, position, role,
        byteOf (s.pool.toList.countP fun r => decide (r.unit = some u) && isOpen r)] s) := by
  obtain ⟨hc, ha⟩ := usableTest_of_hasOutcome ho
  rw [exec_readRoute tag hs, routeResult, hc, ha, hp]
  rfl

end

/-- Settles O59: READ ROUTE by `exec_readRoute_of_hasOutcome` for a usable unit, for an entry that is not valid and in general, and the
other requests by what their results read, where READ PORT finds an exchange in flight exactly if the pool holds one (R53). -/
theorem readsAnswerFromTheState : Obligations.ReadsAnswerFromTheState := by
  intro tag s hs
  refine ⟨fun u p hu hn => ?_, fun u hv hn => ?_, fun u outcome port position role hl ho hp => ?_, fun p => ?_, fun params h => ?_, ?_,
    fun p clear => ?_, fun clear => ?_⟩
  · have ho : HasOutcome u s 0 (portCode p) := .inr (.inr (.inr (.inr ⟨p, hu, rfl, rfl⟩)))
    obtain ⟨hv, hports, hclass, -, -⟩ := hu
    have hr := exec_readRoute_of_hasOutcome tag hs ho (assignmentBytes_of_unassigned hn)
    rwa [hv, hports, hclass] at hr
  · have hr := exec_readRoute_of_hasOutcome tag hs (.inl ⟨hv, rfl, rfl⟩) (assignmentBytes_of_unassigned hn)
    rwa [hv] at hr
  · exact exec_readRoute_of_hasOutcome tag hs ho (assignmentBytes_of_hasPlace hl hp)
  · rw [exec_readPort tag hs, portResult, isSome_inFlight]
    rfl
  · exact exec_readStatus_badLength tag hs h
  · rw [exec_readStatus tag hs, statusResult, freeSlots_reserveSlot]
    rfl
  · exact exec_readCounters tag hs (selectionOf_portCode p) clear
  · exact exec_readCounters tag hs (sel := .link) rfl clear

end Sys2Proof.Machine
end

section
/-! SUPPORT. The six laws of notices, lamps, ports, slots, routes and positions under each operation of the model: what an operation keeps
is said once, of all six laws together. -/

namespace Sys2Proof.Machine

/-! ### The laws as the operations keep them -/

/-- `SlotLaw` while `n` requests are being taken, each with the slot of its reply reserved (R158). -/
structure SlotLawWith (n : Nat) (s : State) : Prop where
  fits : s.control.length + s.reservations ≤ 16
  held : s.reservations = heldReservations s + n
  sending : controlSending s = true → s.control ≠ []
  records : s.groupRecords.length ≤ 4
  tags : (s.groupRecords.map (·.tag)).Nodup

theorem slotLaw_iff (s : State) : SlotLaw s ↔ SlotLawWith 0 s :=
  ⟨fun h => ⟨h.fits, h.held, h.sending, h.records, h.tags⟩, fun h => ⟨h.fits, h.held, h.sending, h.records, h.tags⟩⟩

/-- The lamp of a position agrees with Table 7.3, and its driver with its mode: `LampLaw` at one position. -/
structure LampAt (k : PosId) (s : State) : Prop where
  mode : s.positions[k].lamp = tableLamp k s
  driver : s.positions[k].lamp ≠ .flash → (s.positions[k].lampLit = true ↔ s.positions[k].lamp = .steady)

theorem lampLaw_iff (s : State) : LampLaw s ↔ ∀ k, LampAt k s :=
  ⟨fun h k => ⟨h.mode k, h.driver k⟩, fun h => ⟨fun k => (h k).mode, fun k => (h k).driver⟩⟩

/-- What leads from `s` to `t` keeps the six laws, while `n` requests are being taken; the law of the ports under the assumption `A`,
which is what the step may assume of the state in which it began. -/
structure Keeps (A : Prop) (n : Nat) (s t : State) : Prop where
  notice : NoticeLaw s → NoticeLaw t
  lamp : LampLaw s → LampLaw t
  ports : A → PortsLaw s → PortsLaw t
  slot : SlotLawWith n s → SlotLawWith n t
  route : RouteLaw s → RouteLaw t
  position : PositionLaw s → PositionLaw t

/-- `t` agrees with `s` in all that the six laws look at, but for the ports. -/
structure Aside (s t : State) : Prop where
  notices : t.notices = s.notices := by rfl
  wattn : t.wattn = s.wattn := by rfl
  line : t.line = s.line := by rfl
  positions : t.positions = s.positions := by rfl
  tx : t.tx = s.tx := by rfl
  control : t.control = s.control := by rfl
  reservations : t.reservations = s.reservations := by rfl
  groupRecords : t.groupRecords = s.groupRecords := by rfl
  routes : t.routes = s.routes := by rfl
  owners : t.owners = s.owners := by rfl
  sessionLimit : t.sessionLimit = s.sessionLimit := by rfl
  nextSession : t.nextSession = s.nextSession := by rfl

section
variable {s t : State}

theorem NoticeLaw.congr (h : NoticeLaw s) (hn : t.notices = s.notices) (hw : t.wattn = s.wattn) (hl : t.line = s.line) :
    NoticeLaw t := by
  refine ⟨?_, ?_⟩
  · rw [hn]; exact h.ordered
  · rw [hn, hw, hl]; exact h.attention

theorem LampAt.congr {k : PosId} (h : LampAt k s) (hn : Notice.call k ∈ t.notices ↔ Notice.call k ∈ s.notices)
    (hp : t.positions[k] = s.positions[k]) : LampAt k t := by
  refine ⟨?_, ?_⟩
  · simp only [tableLamp, hp, hn]; exact h.mode
  · rw [hp]; exact h.driver

theorem LampLaw.congr (h : LampLaw s) (hn : t.notices = s.notices) (hp : t.positions = s.positions) : LampLaw t :=
  (lampLaw_iff t).mpr fun k => ((lampLaw_iff s).mp h k).congr (by rw [hn]) (by rw [hp])

theorem heldReservations_congr (hp : t.positions = s.positions) (hg : t.groupRecords = s.groupRecords) :
    heldReservations t = heldReservations s := by rw [heldReservations, hp, hg, heldReservations]

theorem controlSending_congr (h : t.tx = s.tx) : controlSending t = controlSending s := by rw [controlSending, h, controlSending]

theorem RouteLaw.congr (h : RouteLaw s) (hr : t.routes = s.routes) (ho : t.owners = s.owners) : RouteLaw t := by
  refine ⟨?_, ?_, ?_, ?_⟩
  · rw [hr]; exact h.standby
  · rw [hr]; exact h.single
  · rw [hr, ho]; exact h.mapped
  · rw [hr, ho]; exact h.owner

theorem sessionCount_congr (hp : t.positions = s.positions) : sessionCount t = sessionCount s := by
  rw [sessionCount, hp, sessionCount]

theorem PositionLaw.congr (h : PositionLaw s) (hp : t.positions = s.positions) (hl : t.sessionLimit = s.sessionLimit)
    (hn : t.nextSession = s.nextSession) : PositionLaw t := by
  refine ⟨?_, ?_, ?_, ?_, ?_, ?_, ?_, ?_⟩
  · rw [hp]; exact h.roles
  · rw [hp]; exact h.single
  · rw [hl]; exact h.limit
  · rw [sessionCount_congr hp, hl]; exact h.count
  · rw [hp]; exact h.number
  · rw [hp]; exact h.distinct
  · rw [hn]; exact h.next
  · rw [hp]; exact h.entry

end

namespace Keeps

section
variable {A : Prop} {n : Nat} {s t u : State}

protected theorem refl (s : State) : Keeps A n s s := ⟨id, id, fun _ => id, id, id, id⟩

protected theorem trans (h : Keeps A n s t) (g : Keeps A n t u) : Keeps A n s u :=
  ⟨g.notice ∘ h.notice, g.lamp ∘ h.lamp, fun a => g.ports a ∘ h.ports a, g.slot ∘ h.slot, g.route ∘ h.route, g.position ∘ h.position⟩

theorem foldl {α : Type} {f : State → α → State} (hf : ∀ t a, Keeps A n t (f t a)) (l : List α) (s : State) :
    Keeps A n s (l.foldl f s) :=
  l.foldlRecOn f (motive := fun t => Keeps A n s t) (.refl s) fun _ ht a _ => ht.trans (hf _ a)

theorem aside (h : Aside s t) (hp : A → PortsLaw s → PortsLaw t) : Keeps A n s t where
  notice g := g.congr h.notices h.wattn h.line
  lamp g := g.congr h.notices h.positions
  ports := hp
  slot g := by
    refine ⟨?_, ?_, ?_, ?_, ?_⟩
    · rw [h.control, h.reservations]; exact g.fits
    · rw [h.reservations, heldReservations_congr h.positions h.groupRecords]; exact g.held
    · rw [controlSending_congr h.tx, h.control]; exact g.sending
    · rw [h.groupRecords]; exact g.records
    · rw [h.groupRecords]; exact g.tags
  route g := g.congr h.routes h.owners
  position g := g.congr h.positions h.sessionLimit h.nextSession

/-- A change of nothing that the laws look at. -/
theorem unseen (h : Aside s t) (hp : t.ports = s.ports := by rfl) : Keeps A n s t :=
  aside h fun _ g p => by rw [hp]; exact g p

end

end Keeps

/-! ### Updates of one record -/

section
variable {A : Prop} {n : Nat} {s : State}

theorem PortsLaw.modPort {p : PortId} {f : Port → Port} (h : PortsLaw s) (hp : PortLaw (f s.ports[p])) :
    PortsLaw (modPort p f s) := fun r => by
  by_cases hr : r = p
  · subst hr; rw [modPort_self]; exact hp
  · rw [modPort_ne s hr]; exact h r

theorem keeps_modPort {p : PortId} {f : Port → Port} (h : A → PortLaw s.ports[p] → PortLaw (f s.ports[p])) :
    Keeps A n s (modPort p f s) :=
  .aside {} fun a g => g.modPort (h a (g p))

theorem keeps_modRec (i : RecId) (f : Exchange → Exchange) : Keeps A n s (modRec i f s) := .unseen {}

theorem keeps_freeRecord (i : RecId) : Keeps A n s (freeRecord i s) := keeps_modRec i _

theorem keeps_modGroup (g : GroupId) (f : GroupEntry → GroupEntry) : Keeps A n s (modGroup g f s) := .unseen {}

theorem keeps_countLink (c : LinkCounter) : Keeps A n s (countLink c s) := .unseen {}

theorem keeps_restartSilence : Keeps A n s (restartSilence s) := .unseen {}

/-- The law of a port does not look at its counters, its queue, its pass set, its lost count, its seq or its failures, nor at DPRESn. -/
theorem PortLaw.congr {q r : Port} (h : PortLaw q) (hc : r.config = q.config) (hs : r.supply = q.supply)
    (hl : r.resetLine = q.resetLine) (hst : r.state = q.state) (hp : r.pulse = q.pulse) (hse : r.settle = q.settle)
    (hca : r.cause = q.cause) (hi : r.identity = q.identity) (hid : r.identify = q.identify) (ha : r.asm = q.asm)
    (hg : r.gap = q.gap) (ht : r.tx ≠ .idle → q.tx ≠ .idle) (ho : r.outbound.countP isEvent ≤ q.outbound.countP isEvent) : PortLaw r where
  power := by rw [hst, hc]; exact h.power
  supply := by rw [hs, hst, hca]; exact h.supply
  cause := by rw [hca, hst]; exact h.cause
  resetLine := by rw [hl, hp]; exact h.resetLine
  pulse := by rw [hp, hst]; exact h.pulse
  settle := by rw [hse, hst, hp]; exact h.settle
  identify := by rw [hid, hst]; exact h.identify
  gap := by rw [hg, ha]; exact h.gap
  receiver := by rw [ha, hst]; exact h.receiver
  silent := by rw [hst]; exact h.silent ∘ ht
  identified := by rw [hst, hi]; exact h.identified
  forgotten := by rw [hst, hi]; exact h.forgotten
  allowance := by rw [hc]; exact h.allowance
  replyLimit := by rw [hc]; exact h.replyLimit
  retryLimit := by rw [hc]; exact h.retryLimit
  events := ho.trans h.events

theorem keeps_countPort (c : PortCounter) (p : PortId) : Keeps A n s (countPort c p s) :=
  keeps_modPort fun _ h => h.congr rfl rfl rfl rfl rfl rfl rfl rfl rfl rfl rfl id le_rfl

end

end Sys2Proof.Machine
end

section
/-! SUPPORT. The six laws under notices, lamps, positions, entries, the control queue and the group records. -/

namespace Sys2Proof.Machine

/-! ### Counts over the positions -/

theorem toList_eq_map {α : Type} {n : Nat} (v : Vector α n) : v.toList = (List.finRange n).map fun i => v[i] := by
  apply List.ext_getElem <;> simp

section
variable {s t : State}

theorem sessionCount_eq_of_state (h : ∀ j : PosId, t.positions[j].state = s.positions[j].state) : sessionCount t = sessionCount s := by
  simp only [sessionCount, toList_eq_map, List.countP_map]
  exact List.countP_congr fun j _ => by simp only [Function.comp_apply, h j]

theorem heldReservations_eq_of_entry (h : ∀ j : PosId, t.positions[j].entry.isSome = s.positions[j].entry.isSome)
    (hg : t.groupRecords = s.groupRecords) : heldReservations t = heldReservations s := by
  simp only [heldReservations, toList_eq_map, List.countP_map, hg]
  congr 1
  exact List.countP_congr fun j _ => by simp only [Function.comp_apply, h j]

theorem heldReservations_modPos (k : PosId) (f : Position → Position) (s : State) :
    heldReservations (modPos k f s) + (if s.positions[k].entry.isSome then 1 else 0) =
      heldReservations s + (if (f s.positions[k]).entry.isSome then 1 else 0) := by
  have hin : s.positions[k].entry.isSome = true → 0 < s.positions.toList.countP (fun q => q.entry.isSome) := fun hk =>
    List.countP_pos_iff.mpr ⟨s.positions[k], by simp, hk⟩
  have hset : (modPos k f s).positions.toList.countP (fun q => q.entry.isSome) =
      s.positions.toList.countP (fun q => q.entry.isSome) - (if s.positions[k].entry.isSome then 1 else 0) +
        (if (f s.positions[k]).entry.isSome then 1 else 0) := by
    simp [modPos, Vector.toList_set, List.countP_set]
  rw [heldReservations, hset, heldReservations, modPos_groupRecords]
  split
  case isTrue hk => have := hin hk; omega
  case isFalse => omega

theorem modPos_field {β : Type} (g : Position → β) {k : PosId} {f : Position → Position}
    (h : g (f s.positions[k]) = g s.positions[k]) (j : PosId) : g (modPos k f s).positions[j] = g s.positions[j] := by
  by_cases hj : j = k
  · subst hj; rw [modPos_self]; exact h
  · rw [modPos_ne s hj]

/-! ### Positions -/

/-- Positions that keep units, state and session number, and where an entry stands only where one stood, obey the law of positions. -/
theorem PositionLaw.of_fields (h : PositionLaw s) (hr : ∀ j : PosId, t.positions[j].reader = s.positions[j].reader)
    (hk : ∀ j : PosId, t.positions[j].keypad = s.positions[j].keypad)
    (hst : ∀ j : PosId, t.positions[j].state = s.positions[j].state)
    (hse : ∀ j : PosId, t.positions[j].session = s.positions[j].session)
    (he : ∀ j : PosId, t.positions[j].entry.isSome = true → s.positions[j].entry.isSome = true)
    (hl : t.sessionLimit = s.sessionLimit) (hn : t.nextSession = s.nextSession) : PositionLaw t where
  roles j u := by rw [hr j, hk j]; exact h.roles j u
  single i j u hi hj := h.single i j u (by simpa only [Assigned, hr, hk] using hi) (by simpa only [Assigned, hr, hk] using hj)
  limit := by rw [hl]; exact h.limit
  count := by rw [sessionCount_eq_of_state hst, hl]; exact h.count
  number j := by rw [hse j, hst j]; exact h.number j
  distinct i j := by rw [hst i, hst j, hse i, hse j]; exact h.distinct i j
  next := by rw [hn]; exact h.next
  entry j hj := by rw [hst j]; exact h.entry j (he j hj)

@[simp] theorem lit_reader (m : LampMode) (q : Position) : (lit m q).reader = q.reader := by unfold lit; split <;> rfl
@[simp] theorem lit_keypad (m : LampMode) (q : Position) : (lit m q).keypad = q.keypad := by unfold lit; split <;> rfl
@[simp] theorem lit_session (m : LampMode) (q : Position) : (lit m q).session = q.session := by unfold lit; split <;> rfl
@[simp] theorem lit_entry (m : LampMode) (q : Position) : (lit m q).entry = q.entry := by unfold lit; split <;> rfl
@[simp] theorem lit_card (m : LampMode) (q : Position) : (lit m q).card = q.card := by unfold lit; split <;> rfl
@[simp] theorem lit_lamp (m : LampMode) (q : Position) : (lit m q).lamp = m := by
  unfold lit; split
  case isTrue h => exact h
  case isFalse => rfl

theorem refreshLamp_field {β : Type} (g : Position → β) (hg : ∀ m q, g (lit m q) = g q) (k : PosId) (s : State) (j : PosId) :
    g (refreshLamp k s).positions[j] = g s.positions[j] :=
  modPos_field g (by rw [setLamp_eq, hg]) j

theorem PositionLaw.refreshLamp (h : PositionLaw s) (k : PosId) : PositionLaw (refreshLamp k s) :=
  h.of_fields (refreshLamp_field _ lit_reader k s) (refreshLamp_field _ lit_keypad k s) (refreshLamp_field _ lit_state k s)
    (refreshLamp_field _ lit_session k s) (fun j => by rw [refreshLamp_field _ lit_entry k s]; exact id) rfl rfl

theorem heldReservations_refreshLamp (k : PosId) (s : State) : heldReservations (refreshLamp k s) = heldReservations s :=
  heldReservations_eq_of_entry (fun j => by rw [refreshLamp_field _ lit_entry k s]) rfl

/-- A position that keeps units, state and session number, and has an entry only in SESSION. -/
theorem PositionLaw.modPos {k : PosId} {f : Position → Position} (h : PositionLaw s)
    (hr : (f s.positions[k]).reader = s.positions[k].reader) (hk : (f s.positions[k]).keypad = s.positions[k].keypad)
    (hst : (f s.positions[k]).state = s.positions[k].state) (hse : (f s.positions[k]).session = s.positions[k].session)
    (he : (f s.positions[k]).entry.isSome = true → s.positions[k].state = .session) : PositionLaw (modPos k f s) where
  roles j u := by rw [modPos_field _ hr, modPos_field _ hk]; exact h.roles j u
  single i j u hi hj := h.single i j u (by simpa only [Assigned, modPos_field _ hr, modPos_field _ hk] using hi)
    (by simpa only [Assigned, modPos_field _ hr, modPos_field _ hk] using hj)
  limit := h.limit
  count := by rw [sessionCount_eq_of_state (modPos_field _ hst)]; exact h.count
  number j := by rw [modPos_field _ hse, modPos_field _ hst]; exact h.number j
  distinct i j := by simp only [modPos_field _ hse, modPos_field _ hst]; exact h.distinct i j
  next := h.next
  entry j hj := by
    rw [modPos_field _ hst]
    by_cases hjk : j = k
    · subst hjk; rw [modPos_self] at hj; exact he hj
    · rw [modPos_ne s hjk] at hj; exact h.entry j hj

/-! ### Lamps -/

theorem lampMode_eq_tableLamp (k : PosId) (s : State) : lampMode k s = tableLamp k s := by
  unfold lampMode tableLamp lampFor isCollecting
  cases s.positions[k].state
  · simp
  · rfl
  · cases s.positions[k].entry <;> simp

theorem LampAt.modPos_ne {j k : PosId} (h : LampAt j s) (hj : j ≠ k) (f : Position → Position) : LampAt j (modPos k f s) :=
  h.congr Iff.rfl (Sys2Proof.Machine.modPos_ne s hj f)

/-- A lamp that takes a mode keeps its driver in agreement with it (R131). -/
theorem driver_lit {m : LampMode} {q : Position} (h : q.lamp ≠ .flash → (q.lampLit = true ↔ q.lamp = .steady)) :
    (lit m q).lamp ≠ .flash → ((lit m q).lampLit = true ↔ (lit m q).lamp = .steady) := by
  unfold lit
  split
  · exact h
  · cases m <;> simp

theorem lampAt_refreshLamp {k : PosId}
    (h : s.positions[k].lamp ≠ .flash → (s.positions[k].lampLit = true ↔ s.positions[k].lamp = .steady)) :
    LampAt k (refreshLamp k s) := by
  have hp : (refreshLamp k s).positions[k] = lit (lampMode k s) s.positions[k] := by rw [refreshLamp, modPos_self, setLamp_eq]
  refine ⟨?_, ?_⟩
  · rw [← lampMode_eq_tableLamp, lampMode, hp, lit_lamp, lit_state, lit_entry]
    rfl
  · rw [hp]; exact driver_lit h

/-- A position changed, and its lamp set from Table 7.3 (R130). -/
theorem LampLaw.refresh {k : PosId} {f : Position → Position} (h : LampLaw s)
    (hl : (f s.positions[k]).lamp = s.positions[k].lamp) (hd : (f s.positions[k]).lampLit = s.positions[k].lampLit) :
    LampLaw (refreshLamp k (modPos k f s)) := by
  rw [lampLaw_iff] at h ⊢
  intro j
  by_cases hj : j = k
  · subst hj
    apply lampAt_refreshLamp
    rw [modPos_self, hl, hd]
    exact (h j).driver
  · exact ((h j).modPos_ne hj _).modPos_ne hj _

/-- A position changed in what its lamp does not show. -/
theorem LampLaw.modPos {k : PosId} {f : Position → Position} (h : LampLaw s)
    (hl : (f s.positions[k]).lamp = s.positions[k].lamp)
    (hd : (f s.positions[k]).lamp ≠ .flash → (f s.positions[k]).lampLit = s.positions[k].lampLit)
    (hst : (f s.positions[k]).state = s.positions[k].state)
    (he : isCollecting (f s.positions[k]).entry = isCollecting s.positions[k].entry) : LampLaw (modPos k f s) := by
  rw [lampLaw_iff] at h ⊢
  intro j
  by_cases hj : j = k
  · subst hj
    refine ⟨?_, ?_⟩
    · rw [← lampMode_eq_tableLamp, lampMode, modPos_self, hl, hst, he, (h j).mode, ← lampMode_eq_tableLamp]
      rfl
    · rw [modPos_self]
      intro hf
      rw [hd hf, hl]
      exact (h j).driver (by rwa [hl] at hf)
  · exact (h j).modPos_ne hj _

end

section
variable {A : Prop} {n : Nat} {s : State}

/-- A position changed in what none of the laws looks at: its card state, the flashing of its lamp, an entry that goes on. -/
theorem keeps_modPos {k : PosId} {f : Position → Position} (hr : (f s.positions[k]).reader = s.positions[k].reader)
    (hk : (f s.positions[k]).keypad = s.positions[k].keypad) (hst : (f s.positions[k]).state = s.positions[k].state)
    (hse : (f s.positions[k]).session = s.positions[k].session) (hl : (f s.positions[k]).lamp = s.positions[k].lamp)
    (hd : (f s.positions[k]).lamp ≠ .flash → (f s.positions[k]).lampLit = s.positions[k].lampLit)
    (he : (f s.positions[k]).entry.isSome = s.positions[k].entry.isSome)
    (hc : isCollecting (f s.positions[k]).entry = isCollecting s.positions[k].entry) : Keeps A n s (modPos k f s) where
  notice h := h.congr rfl rfl rfl
  lamp h := h.modPos hl hd hst hc
  ports _ h := h
  slot h := ⟨h.fits, (heldReservations_eq_of_entry (modPos_field (fun q => q.entry.isSome) he) rfl).symm ▸ h.held, h.sending, h.records, h.tags⟩
  route h := h.congr rfl rfl
  position h := h.modPos hr hk hst hse fun hs => h.entry k (he ▸ hs)

/-! ### Notices -/

theorem noticeChanged_eq (m : Notice) (s : State) : noticeChanged m s =
    { s with wattn := attention s, positions := (noticeChanged m s).positions } := by cases m <;> rfl

theorem noticeChanged_field {β : Type} (g : Position → β) (hg : ∀ m q, g (lit m q) = g q) (m : Notice) (s : State) (j : PosId) :
    g (noticeChanged m s).positions[j] = g s.positions[j] := by
  cases m with
  | call k => exact refreshLamp_field g hg k _ j
  | _ => rfl

/-- A change of the notice set in one pair `m`, of which the WLU and the PC are told (R176), keeps the six laws where the set stays in
order. -/
theorem keeps_noticeChanged {m : Notice} {l : List Notice}
    (ho : NoticeLaw s → l.Pairwise fun a b => noticeRank a < noticeRank b) (hm : ∀ x, x ≠ m → (x ∈ l ↔ x ∈ s.notices)) :
    Keeps A n s (noticeChanged m { s with notices := l }) := by
  set b : State := { s with notices := l } with hb
  have he := noticeChanged_eq m b
  refine ⟨fun h => ?_, fun h => ?_, fun _ h => ?_, fun h => ?_, fun h => ?_, fun h => ?_⟩
  · rw [he]; exact ⟨ho h, attention_iff b⟩
  · rw [lampLaw_iff] at h ⊢
    intro j
    have hs : Notice.call j ≠ m → LampAt j b := fun hj => (h j).congr (hm _ hj) rfl
    cases m with
    | call k =>
      by_cases hj : j = k
      · subst hj; exact lampAt_refreshLamp (h j).driver
      · exact ((hs fun e => hj (Notice.call.inj e)).congr (t := refreshAttention b) Iff.rfl rfl).modPos_ne hj _
    | _ => exact (hs nofun).congr Iff.rfl rfl
  · rw [he]; exact h
  · have hr : heldReservations (noticeChanged m b) = heldReservations s := by
      rw [heldReservations_eq_of_entry (s := s) (fun j => by rw [noticeChanged_field _ lit_entry]) (by rw [he])]
    refine ⟨?_, ?_, ?_, ?_, ?_⟩
    · rw [he]; exact h.fits
    · rw [hr, he]; exact h.held
    · rw [he]; exact h.sending
    · rw [he]; exact h.records
    · rw [he]; exact h.tags
  · rw [he]; exact h.congr rfl rfl
  · exact h.of_fields (noticeChanged_field _ lit_reader m b) (noticeChanged_field _ lit_keypad m b)
      (noticeChanged_field _ lit_state m b) (noticeChanged_field _ lit_session m b)
      (fun j => by rw [noticeChanged_field _ lit_entry]; exact id) (by rw [he]) (by rw [he])

theorem keeps_raiseNotice (m : Notice) : Keeps A n s (raiseNotice m s) := by
  unfold raiseNotice
  split
  · exact .refl s
  · rename_i hm
    exact keeps_noticeChanged (fun h => insertNotice_ordered m _ hm h.ordered) fun x hx => by
      rw [mem_insertNotice]; exact or_iff_right hx

/-! ### The control queue -/

theorem inFlight_append_waiting (s : State) : controlInFlight s ++ controlWaiting s = s.control := by
  unfold controlInFlight controlWaiting
  cases controlSending s
  · rfl
  · exact List.take_append_drop 1 s.control

theorem length_keepWaiting (p : ControlFrame → Bool) (s : State) :
    (controlInFlight s ++ (controlWaiting s).filter p).length ≤ s.control.length := by
  have h := List.length_filter_le p (controlWaiting s)
  have hc := congrArg List.length (inFlight_append_waiting s)
  simp only [List.length_append] at hc ⊢
  omega

/-- A change of the control queue and the link counters alone. -/
theorem keeps_control {t : State} (h : t = { s with control := t.control, link := t.link })
    (hf : SlotLawWith n s → t.control.length + s.reservations ≤ 16) (hs : s.control ≠ [] → t.control ≠ []) : Keeps A n s t where
  notice g := by rw [h]; exact g.congr rfl rfl rfl
  lamp g := by rw [h]; exact g.congr rfl rfl
  ports _ g := by rw [h]; exact g
  slot g := by
    have hf := hf g
    rw [h]
    exact ⟨hf, g.held, fun e => hs (g.sending e), g.records, g.tags⟩
  route g := by rw [h]; exact g.congr rfl rfl
  position g := by rw [h]; exact g.congr rfl rfl rfl

theorem keeps_placeFrame {f : ControlFrame} (h : HasSlot s) : Keeps A n s (placeFrame f s) := by
  refine keeps_control rfl (fun _ => ?_) fun _ => ?_
  · simp only [HasSlot] at h
    simp only [placeFrame, List.length_append, List.length_cons, List.length_nil]; omega
  · simp [placeFrame]

theorem keeps_refuse (tag : Byte) (st : Status) : Keeps A n s (refuse tag st s) := by
  unfold refuse
  split
  · exact keeps_countLink _
  · rename_i h
    exact keeps_placeFrame (not_not.mp fun g => h ((freeSlots_eq_zero s).mpr g))

theorem keeps_queueProgress (k : PosId) (count : Nat) (short full : Bool) : Keeps A n s (queueProgress k count short full s) := by
  unfold queueProgress
  split
  · have hl : (controlInFlight s ++ (controlWaiting s).map (updateProgress k count short full)).length = s.control.length := by
      rw [List.length_append, List.length_map, ← List.length_append, inFlight_append_waiting]
    refine keeps_control rfl (fun g => ?_) fun g => ?_
    · rw [hl]; exact g.fits
    · rw [← List.length_pos_iff, hl]; exact List.length_pos_iff.mpr g
  · split
    · exact keeps_countLink _
    · rename_i h
      exact keeps_placeFrame (not_not.mp fun g => h ((freeSlots_eq_zero s).mpr g))

/-! ### The end of an entry -/

theorem keeps_endEntry (k : PosId) (o : EntryOutcome) (c : EntryCause) (st : Byte) (d : List Byte) :
    Keeps A n s (endEntry k o c st d s) := by
  cases he : s.positions[k].entry with
  | none => simp only [endEntry, he]; exact .refl s
  | some e =>
    simp only [endEntry, he]
    set b : State := if s.pool[e.record].state = .reserved then freeRecord e.record s else s with hb
    have hb' : b = { s with pool := b.pool } := by rw [hb]; split <;> rfl
    have hsb : Keeps A n s b := by rw [hb']; exact .unseen {}
    refine hsb.trans ?_
    have hbe : b.positions[k].entry = some e := by rw [hb']; exact he
    clear_value b
    refine ⟨fun h => h.congr rfl rfl rfl, fun h => ?_, fun _ h => h, fun h => ?_, fun h => h.congr rfl rfl, fun h => ?_⟩
    · exact (h.congr (t := placeReserved _ (removeProgress k b)) rfl rfl).refresh rfl rfl
    · have hl := length_keepWaiting (fun f => !isProgressOf k f) b
      have hh := heldReservations_modPos k (fun q => { q with entry := none }) b
      simp only [hbe, Option.isSome, ↓reduceIte, Bool.false_eq_true, Nat.add_zero] at hh
      have hfit := h.fits
      have hheld := h.held
      refine ⟨?_, ?_, fun _ => ?_, h.records, h.tags⟩
      · simp only [refreshLamp_control, modPos_control, placeReserved, removeProgress, refreshLamp_reservations,
          modPos_reservations, List.length_append, List.length_cons, List.length_nil] at hl ⊢
        omega
      · rw [heldReservations_refreshLamp]
        show b.reservations - 1 = heldReservations (modPos k (fun q => { q with entry := none }) b) + n
        omega
      · simp [placeReserved]
    · exact (PositionLaw.modPos (h.congr (t := placeReserved _ (removeProgress k b)) rfl rfl rfl) rfl rfl rfl rfl
        fun h => Bool.noConfusion h).refreshLamp k

theorem keeps_abandonCollecting (k : PosId) (c : EntryCause) : Keeps A n s (abandonCollecting k c s) := by
  unfold abandonCollecting
  split
  · exact keeps_endEntry k _ _ _ _
  · exact .refl s

end

end Sys2Proof.Machine
end

section
/-! SUPPORT. The six laws under the group records, the ends of exchanges, the evaluations of the Route Table, and the port changes. -/

namespace Sys2Proof.Machine

/-! ### Group records (R96, R97) -/

section
variable {a b : List GroupRecord} {g : GroupRecord}

theorem tag_ne_of_nodup (hn : ((a ++ g :: b).map (·.tag)).Nodup) {h : GroupRecord} (hh : h ∈ a ∨ h ∈ b) : h.tag ≠ g.tag := by
  rw [List.map_append, List.map_cons, List.nodup_append] at hn
  obtain ⟨-, hb, hab⟩ := hn
  rw [List.nodup_cons] at hb
  rcases hh with hh | hh
  · exact hab _ (List.mem_map_of_mem hh) _ (List.mem_cons_self ..)
  · exact fun e => hb.1 (e ▸ List.mem_map_of_mem hh)

/-- What becomes of the list of open records when one of them is stored again, the tags being different (R92, R97). -/
theorem storeRecord_split {x : GroupRecord} (hn : ((a ++ g :: b).map (·.tag)).Nodup) (hx : x.tag = g.tag) :
    storeRecord x (a ++ g :: b) = if x.endQueued = true ∧ x.answered = x.issued then a ++ b else a ++ x :: b := by
  have ha : ∀ h ∈ a, h.tag ≠ g.tag := fun h hh => tag_ne_of_nodup hn (.inl hh)
  have hb : ∀ h ∈ b, h.tag ≠ g.tag := fun h hh => tag_ne_of_nodup hn (.inr hh)
  have hmap : ∀ l : List GroupRecord, (∀ h ∈ l, h.tag ≠ g.tag) → l.map (fun h => if h.tag = g.tag then x else h) = l := fun l hl => by
    conv_rhs => rw [← List.map_id l]
    exact List.map_congr_left fun h hh => if_neg (hl h hh)
  unfold storeRecord
  rw [hx]
  split
  · rw [List.filter_append, List.filter_cons_of_neg (by simp), List.filter_eq_self.mpr (by simpa using ha),
      List.filter_eq_self.mpr (by simpa using hb)]
  · rw [List.map_append, List.map_cons, if_pos rfl, hmap a ha, hmap b hb]

theorem find_record (hn : ((a ++ g :: b).map (·.tag)).Nodup) :
    (a ++ g :: b).find? (fun h => decide (h.tag = g.tag)) = some g := by
  have ha : a.find? (fun h => decide (h.tag = g.tag)) = none :=
    List.find?_eq_none.mpr fun h hh => by simpa using tag_ne_of_nodup hn (.inl hh)
  rw [List.find?_append, ha, List.find?_cons_of_pos (by simp)]
  rfl

end

section
variable {A : Prop} {n : Nat} {s : State}

theorem keeps_groupRecords {t : State} (h : t = { s with
      control := t.control, reservations := t.reservations, groupRecords := t.groupRecords })
    (hs : SlotLawWith n s → SlotLawWith n t) : Keeps A n s t where
  notice g := by rw [h]; exact g.congr rfl rfl rfl
  lamp g := by rw [h]; exact g.congr rfl rfl
  ports _ g := by rw [h]; exact g
  slot := hs
  route g := by rw [h]; exact g.congr rfl rfl
  position g := by rw [h]; exact g.congr rfl rfl rfl

/-- A member's end, with its record in its place in the list (R96, R97). -/
theorem memberEnded_split {a b : List GroupRecord} {g : GroupRecord} (hg : s.groupRecords = a ++ g :: b)
    (hn : (s.groupRecords.map (·.tag)).Nodup) :
    let x := afterTest { g with answered := g.answered + 1 }
    memberEnded g.tag s = { placeGroupEnd { g with answered := g.answered + 1 } s with
      groupRecords := if x.endQueued = true ∧ x.answered = x.issued then a ++ b else a ++ x :: b } := by
  intro x
  rw [hg] at hn
  have hp : (placeGroupEnd { g with answered := g.answered + 1 } s).groupRecords = s.groupRecords := by
    unfold placeGroupEnd; split <;> rfl
  simp only [memberEnded, hg, find_record hn, hp]
  exact congrArg (fun l => { placeGroupEnd { g with answered := g.answered + 1 } s with groupRecords := l })
    (storeRecord_split (x := x) hn rfl)

theorem keeps_memberEnded (tag : Byte) : Keeps A n s (memberEnded tag s) := by
  refine keeps_groupRecords (memberEnded_frame s tag) fun h => ?_
  cases hf : s.groupRecords.find? (fun g => decide (g.tag = tag)) with
  | none => simp only [memberEnded, hf]; exact h
  | some g =>
    obtain ⟨ht, a, b, hab, -⟩ := List.find?_eq_some_iff_append.mp hf
    obtain rfl : g.tag = tag := by simpa using ht
    rw [memberEnded_split hab h.tags]
    have hheld := h.held
    have hfits := h.fits
    have hrec := h.records
    have htags := h.tags
    rw [heldReservations, hab] at hheld
    rw [hab] at hrec htags
    simp only [List.countP_append, List.countP_cons, List.length_append, List.length_cons] at hheld hrec
    set x := afterTest { g with answered := g.answered + 1 } with hx
    have hxt : x.tag = g.tag := rfl
    have htags' : ((if x.endQueued = true ∧ x.answered = x.issued then a ++ b else a ++ x :: b).map (·.tag)).Nodup := by
      split
      · simp only [List.map_append, List.map_cons] at htags ⊢
        exact htags.sublist (by simp)
      · simp only [List.map_append, List.map_cons, hxt] at htags ⊢
        exact htags
    have hrec' : (if x.endQueued = true ∧ x.answered = x.issued then a ++ b else a ++ x :: b).length ≤ 4 := by
      split <;> simp only [List.length_append, List.length_cons] <;> omega
    have hcount : ((if x.endQueued = true ∧ x.answered = x.issued then a ++ b else a ++ x :: b).countP fun g => !g.endQueued) =
        a.countP (fun g => !g.endQueued) + b.countP (fun g => !g.endQueued) + if x.endQueued then 0 else 1 := by
      by_cases he : x.endQueued = true
      · split <;> simp [he]
      · simp only [he, Bool.false_eq_true, false_and, ↓reduceIte, List.countP_append, List.countP_cons, Bool.not_false]
        omega
    cases ho : groupTest { g with answered := g.answered + 1 } with
    | none =>
      have hxe : x.endQueued = g.endQueued := by rw [hx]; simp [afterTest, ho]
      have hp : placeGroupEnd { g with answered := g.answered + 1 } s = s := by simp only [placeGroupEnd, ho]
      rw [hp]
      refine ⟨hfits, ?_, h.sending, hrec', htags'⟩
      show s.reservations = _ + List.countP _ _ + n
      rw [hcount, hxe, hheld]
      cases g.endQueued with
      | false => simp only [Bool.not_false, ↓reduceIte, Bool.false_eq_true]; omega
      | true => simp only [Bool.not_true, ↓reduceIte, Bool.false_eq_true]; omega
    | some o =>
      have hge : g.endQueued = false := by
        simp only [groupTest] at ho
        split at ho
        · cases ho
        · rename_i h0; simpa using h0
      have hxe : x.endQueued = true := by rw [hx]; simp [afterTest, ho]
      have hp : placeGroupEnd { g with answered := g.answered + 1 } s =
          placeReserved (groupEndFrame { g with answered := g.answered + 1 } o) s := by simp only [placeGroupEnd, ho]
      rw [hp]
      simp only [hge, Bool.not_false, ↓reduceIte] at hheld
      refine ⟨?_, ?_, fun _ => by simp [placeReserved], hrec', htags'⟩
      · simp only [placeReserved, List.length_append, List.length_cons, List.length_nil]; omega
      · show s.reservations - 1 = _ + List.countP _ _ + n
        rw [hcount, hxe]
        simp only [↓reduceIte]
        show s.reservations - 1 = s.positions.toList.countP (fun q => q.entry.isSome) + _ + n
        omega

theorem keeps_reportToGroup (group : Option Byte) : Keeps A n s (reportToGroup group s) := by
  cases group with
  | none => exact .refl s
  | some tag => exact keeps_memberEnded tag

/-! ### Ends of exchanges -/

theorem releaseTx_ne_idle {i : RecId} {x : DeviceTx} (h : releaseTx i x ≠ .idle) : x ≠ .idle := by
  rintro rfl; exact h rfl

theorem keeps_reportToPort (p : PortId) (i : RecId) (st : EndStatus) : Keeps A n s (reportToPort p i st s) :=
  keeps_modPort fun _ h => h.congr rfl rfl rfl rfl rfl rfl rfl rfl rfl rfl rfl releaseTx_ne_idle le_rfl

theorem keeps_endDelivery (i : RecId) (st : EndStatus) (status : Byte) (data : List Byte) :
    Keeps A n s (endDelivery i st status data s) := by
  simp only [endDelivery]
  split
  · exact (keeps_freeRecord i).trans (keeps_endEntry _ _ _ _ _)
  · exact keeps_freeRecord i

theorem keeps_holdReply (i : RecId) (p : PortId) (late : Bool) (st : EndStatus) (status : Byte) (data : List Byte) :
    Keeps A n s (holdReply i p late st status data s) := by
  simp only [holdReply]
  refine .trans (keeps_modRec i _) (keeps_modPort fun _ h => ?_)
  refine h.congr rfl rfl rfl rfl rfl rfl rfl rfl rfl rfl rfl id ?_
  rw [List.countP_append]
  exact le_rfl

theorem keeps_endExchange (i : RecId) (st : EndStatus) (status : Byte) (data : List Byte) :
    Keeps A n s (endExchange i st status data s) := by
  unfold endExchange
  split
  · exact .refl s
  · have h : ∀ p, Keeps A n s (reportToGroup s.pool[i].group (reportToPort p i st (modRec i (fun r =>
        { r with endStatus := some st, deviceStatus := status, replyData := data, deadline := none }) s))) := fun p =>
      ((keeps_modRec i _).trans (keeps_reportToPort p i st)).trans (keeps_reportToGroup _)
    dsimp only
    split
    · exact (h _).trans (keeps_endDelivery i st status data)
    · exact (h _).trans (keeps_holdReply i _ _ st status data)

theorem keeps_endOrphan (i : RecId) (st : EndStatus) : Keeps A n s (endOrphan i st s) := by
  unfold endOrphan
  split
  · exact .refl s
  · exact (keeps_reportToPort _ i st).trans (keeps_freeRecord i)

theorem keeps_dropOrphan (i : RecId) : Keeps A n s (dropOrphan i s) := by
  unfold dropOrphan
  split
  · exact .refl s
  · exact (keeps_modPort fun _ h =>
      h.congr rfl rfl rfl rfl rfl rfl rfl rfl rfl rfl rfl releaseTx_ne_idle le_rfl).trans (keeps_freeRecord i)

theorem keeps_orphan (i : RecId) : Keeps A n s (orphan i s) := by
  unfold orphan
  split
  · exact .refl s
  · split
    · exact keeps_dropOrphan i
    · exact keeps_modRec i _

theorem keeps_withdrawQueued (i : RecId) : Keeps A n s (withdrawQueued i s) := by
  unfold withdrawQueued
  split
  · exact (keeps_modPort fun _ h => h.congr rfl rfl rfl rfl rfl rfl rfl rfl rfl rfl rfl id le_rfl).trans (keeps_freeRecord i)
  · exact keeps_freeRecord i

/-! ### Evaluations (R5, R12) -/

theorem keeps_reportUnusable (u : UnitId) : Keeps A n s (reportUnusable u s) := by
  unfold reportUnusable
  split
  · exact keeps_abandonCollecting _ _
  · exact .refl s

theorem keeps_raiseFault (u : UnitId) (r : Usable) : Keeps A n s (raiseFault u r s) := by
  unfold raiseFault
  split
  · exact keeps_raiseNotice _
  · exact .refl s

theorem keeps_evaluationEffects (u : UnitId) (r : Usable) : Keeps A n s (evaluationEffects u r s) := by
  unfold evaluationEffects
  split
  · exact .refl s
  · exact (keeps_raiseFault u r).trans (keeps_reportUnusable u)

theorem keeps_evaluate (u : UnitId) : Keeps A n s (evaluate u s) := keeps_evaluationEffects u _

theorem keeps_reevaluate (p : PortId) : Keeps A n s (reevaluate p s) :=
  Keeps.foldl (fun t u => by
    split
    · exact keeps_evaluate u
    · exact .refl t) _ s

/-! ### Departures (R41, R73, R128) -/

theorem keeps_endInFlight (p : PortId) (st : EndStatus) : Keeps A n s (endInFlight p st s) := by
  unfold endInFlight
  split
  · exact .refl s
  · split
    · exact keeps_dropOrphan _
    · exact keeps_endExchange _ _ _ _

theorem keeps_endQueued (p : PortId) (st : EndStatus) : Keeps A n s (endQueued p st s) :=
  (keeps_modPort fun _ h => h.congr rfl rfl rfl rfl rfl rfl rfl rfl rfl rfl rfl id le_rfl).trans
    (Keeps.foldl (fun _ i => keeps_endExchange i st 0 []) _ _)

theorem keeps_setCard (k : PosId) (c : CardState) : Keeps A n s (modPos k (fun q => { q with card := c }) s) :=
  keeps_modPos rfl rfl rfl rfl rfl (fun _ => rfl) rfl rfl

theorem keeps_clearCard (p : PortId) : Keeps A n s (clearCard p s) := by
  unfold clearCard
  split
  · exact .refl s
  · split
    · exact keeps_setCard _ _
    · exact .refl s

theorem keeps_depart (p : PortId) (st : EndStatus) : Keeps A n s (depart p st s) :=
  (((keeps_endInFlight p st).trans (keeps_endQueued p st)).trans (keeps_reevaluate p)).trans (keeps_clearCard p)

theorem keeps_departIf (r : Bool) (p : PortId) (st : EndStatus) : Keeps A n s (departIf r p st s) := by
  unfold departIf
  split
  · exact keeps_depart p st
  · exact .refl s

/-- What a port at rest must say for its law: nothing on its line, its settings and its outbound list as they were. -/
theorem PortLaw.of_rest {q r : Port} (h : PortLaw q) (ht : r.tx = .idle) (ha : isHunting r.asm = true) (hg : r.gap = none)
    (ho : r.outbound = q.outbound) (hc : r.config.allowance = q.config.allowance ∧ r.config.replyLimit = q.config.replyLimit ∧
      r.config.retryLimit = q.config.retryLimit) (power : r.state = .off ↔ r.config.power = false)
    (supply : r.supply = true ↔ r.state ≠ .off ∧ r.cause ≠ .overcurrent) (cause : r.cause ≠ .none ↔ r.state = .fault)
    (resetLine : r.resetLine = r.pulse.isSome) (pulse : r.pulse.isSome = true → r.state = .settling)
    (settle : r.settle.isSome = true ↔ r.state = .settling ∧ r.pulse = none)
    (identify : r.identify.isSome = true ↔ r.state = .identifying) (identified : r.state = .ready → r.identity.isSome = true)
    (forgotten : r.state = .off ∨ r.state = .empty → r.identity = none) : PortLaw r where
  power := power
  supply := supply
  cause := cause
  resetLine := resetLine
  pulse := pulse
  settle := settle
  identify := identify
  gap := by rw [hg, ha]; decide
  receiver := by rw [ha]; exact nofun
  silent := fun h => absurd ht h
  identified := identified
  forgotten := forgotten
  allowance := by rw [hc.1]; exact h.allowance
  replyLimit := by rw [hc.2.1]; exact h.replyLimit
  retryLimit := by rw [hc.2.2]; exact h.retryLimit
  events := by rw [ho]; exact h.events

/-- The port of a move to FAULT (R35, R39, R40). -/
theorem PortLaw.fault {q : Port} {c : FaultCause} (h : PortLaw q) (hs : q.state ≠ .off) (hc : c ≠ .none)
    (hq : c = .overcurrent ∨ q.cause ≠ .overcurrent) :
    PortLaw { endPulse (stopLine q) with state := .fault, cause := c, supply := q.supply && decide (c ≠ .overcurrent) } := by
  have hp : q.config.power = true := by rw [← Bool.not_eq_false]; exact fun e => hs (h.power.mpr e)
  have hsup := h.supply
  refine h.of_rest rfl rfl rfl rfl ⟨rfl, rfl, rfl⟩ (by simp [endPulse, stopLine, hp]) ?_ (by simpa using hc) rfl nofun
    (by simp [endPulse, stopLine]) (by simp [endPulse, stopLine]) nofun nofun
  rcases hq with rfl | hq
  · simp
  · simp [hsup, hs, hq]

theorem keeps_enterFault {p : PortId} {c : FaultCause} (hs : s.ports[p].state ≠ .off) (hc : c ≠ .none)
    (hq : c = .overcurrent ∨ s.ports[p].state ≠ .fault) : Keeps A n s (enterFault p c s) := by
  refine ((keeps_modPort fun _ h => ?_).trans (keeps_raiseNotice _)).trans (keeps_departIf _ p _)
  refine h.fault hs hc (hq.imp_right fun hq => ?_)
  have := mt h.cause.mp hq
  rw [not_not.mp this]; decide

theorem keeps_silentCheck (p : PortId) : Keeps A n s (silentCheck p s) := by
  unfold silentCheck
  split
  · rename_i h
    have hr := (portReady_iff s p).mp h.1
    exact keeps_enterFault (by rw [hr]; decide) (by decide) (.inr (by rw [hr]; decide))
  · exact .refl s

end

end Sys2Proof.Machine
end

section
/-! SUPPORT. The six laws under what the device side does: pins, received characters, events and keys, frames sent, and expiries. -/

namespace Sys2Proof.Machine

section
variable {A : Prop} {n : Nat} {s : State}

/-! ### Pins -/

theorem PortLaw.cause_none {q : Port} (h : PortLaw q) (hs : q.state ≠ .fault) : q.cause = .none :=
  not_not.mp (mt h.cause.mp hs)

theorem PortLaw.power_on {q : Port} (h : PortLaw q) (hs : q.state ≠ .off) : q.config.power = true := by
  rw [← Bool.not_eq_false]; exact fun e => hs (h.power.mpr e)

theorem PortLaw.supply_on {q : Port} (h : PortLaw q) (hs : q.state ≠ .off) (hf : q.state ≠ .fault) : q.supply = true :=
  h.supply.mpr ⟨hs, by rw [h.cause_none hf]; decide⟩

theorem PortLaw.pulse_none {q : Port} (h : PortLaw q) (hs : q.state ≠ .settling) : q.pulse = none := by
  rw [← Option.not_isSome_iff_eq_none]; exact fun e => hs (h.pulse e)

theorem PortLaw.settle_none {q : Port} (h : PortLaw q) (hs : q.state ≠ .settling) : q.settle = none := by
  rw [← Option.not_isSome_iff_eq_none]; exact fun e => hs (h.settle.mp e).1

theorem PortLaw.identify_none {q : Port} (h : PortLaw q) (hs : q.state ≠ .identifying) : q.identify = none := by
  rw [← Option.not_isSome_iff_eq_none]; exact fun e => hs (h.identify.mp e)

/-- Outside IDENTIFYING and READY the line of a port is at rest (R21, R22). -/
theorem PortLaw.at_rest {q : Port} (h : PortLaw q) (hi : q.state ≠ .identifying) (hr : q.state ≠ .ready) :
    q.tx = .idle ∧ isHunting q.asm = true ∧ q.gap = none := by
  have hh : isHunting q.asm = true := by
    rw [← Bool.not_eq_false]; exact fun e => (h.receiver e).elim hi hr
  refine ⟨not_not.mp fun e => (h.silent e).elim hi hr, hh, ?_⟩
  rw [← Option.not_isSome_iff_eq_none, h.gap, hh]; decide

theorem PortLaw.presenceAsserted {q : Port} (h : PortLaw q) : PortLaw (presenceAsserted q) := by
  unfold Machine.presenceAsserted
  split
  · rename_i he
    obtain ⟨ht, ha, hg⟩ := h.at_rest (by rw [he]; decide) (by rw [he]; decide)
    have ho : q.state ≠ .off := by rw [he]; decide
    have hf : q.state ≠ .fault := by rw [he]; decide
    have hp := h.pulse_none (by rw [he]; decide)
    have hid := h.identify_none (by rw [he]; decide)
    exact h.of_rest ht ha hg rfl ⟨rfl, rfl, rfl⟩ (by simp [h.power_on ho]) (by simp [h.supply_on ho hf, h.cause_none hf])
      (by simp [h.cause_none hf]) h.resetLine (by simp) (by simp [hp]) (by simp [hid]) nofun nofun
  · exact h.congr rfl rfl rfl rfl rfl rfl rfl rfl rfl rfl rfl id le_rfl

/-- A port that enters EMPTY or, with presence asserted, SETTLING: its supply on, no cause, no pulse, its line at rest. -/
theorem PortLaw.enterEmpty {q r : Port} (h : PortLaw r) (ht : q.tx = .idle) (ha : isHunting q.asm = true) (hg : q.gap = none)
    (ho : q.outbound = r.outbound) (hc : q.config.allowance = r.config.allowance ∧ q.config.replyLimit = r.config.replyLimit ∧
      q.config.retryLimit = r.config.retryLimit) (hpow : q.config.power = true) (hsup : q.supply = true) (hcause : q.cause = .none)
    (hres : q.resetLine = false) (hp : q.pulse = none) (hse : q.settle = none) (hid : q.identify = none) :
    PortLaw (enterEmpty q) := by
  unfold Machine.enterEmpty
  split
  · exact h.of_rest ht ha hg ho hc (by simp [hpow]) (by simp [hsup, hcause]) (by simp [hcause]) (by simp [hres, hp]) (by simp)
      (by simp [hp]) (by simp [hid]) nofun nofun
  · exact h.of_rest ht ha hg ho hc (by simp [hpow]) (by simp [hsup, hcause]) (by simp [hcause]) (by simp [hres, hp]) (by simp [hp])
      (by simp [hse]) (by simp [hid]) nofun (by simp)

theorem PortLaw.presenceEmpty {q : Port} (h : PortLaw q) (ho : q.state ≠ .off) (hf : q.state ≠ .fault) (hp : q.pulse = none) :
    PortLaw (presenceEmpty q) :=
  h.enterEmpty (q := stopLine { q with present := false }) rfl rfl rfl rfl ⟨rfl, rfl, rfl⟩ (h.power_on ho) (h.supply_on ho hf)
    (h.cause_none hf) (by have := h.resetLine; rw [hp] at this; exact this) hp rfl rfl

theorem keeps_presenceLost (p : PortId) : Keeps A n s (presenceLost p s) := by
  have level : Keeps A n s (modPort p (fun q => { q with present := false }) s) :=
    keeps_modPort fun _ h => h.congr rfl rfl rfl rfl rfl rfl rfl rfl rfl rfl rfl id le_rfl
  have drop : s.ports[p].state ≠ .off → s.ports[p].state ≠ .fault → (PortLaw s.ports[p] → s.ports[p].pulse = none) →
      Keeps A n s (modPort p presenceEmpty s) := fun ho hf hp => keeps_modPort fun _ h => h.presenceEmpty ho hf (hp h)
  unfold presenceLost
  cases hs : s.ports[p].state with
  | settling =>
    dsimp only
    split
    · exact level
    · rename_i hp
      exact drop (by rw [hs]; decide) (by rw [hs]; decide) fun _ => by simpa using hp
  | identifying => exact drop (by rw [hs]; decide) (by rw [hs]; decide) fun h => h.pulse_none (by rw [hs]; decide)
  | ready =>
    exact ((drop (by rw [hs]; decide) (by rw [hs]; decide) fun h => h.pulse_none (by rw [hs]; decide)).trans
      (keeps_raiseNotice _)).trans (keeps_depart p _)
  | off => exact level
  | empty => exact level
  | fault => exact level

theorem keeps_overCurrent (p : PortId) : Keeps A n s (if supplied s.ports[p] then enterFault p .overcurrent s else s) := by
  split
  · rename_i h
    refine keeps_enterFault (fun e => ?_) (by decide) (.inl rfl)
    rw [supplied, e] at h; cases h
  · exact .refl s

/-! ### Events and keys -/

theorem keeps_queueEvent (p : PortId) (u : UnitId) (session code : Byte) (data : List Byte) :
    Keeps A n s (queueEvent p u session code data s) := by
  unfold queueEvent
  split
  · refine ((keeps_modPort fun _ h => ?_).trans (keeps_countPort _ p)).trans (keeps_raiseNotice _)
    exact h.congr rfl rfl rfl rfl rfl rfl rfl rfl rfl rfl rfl id le_rfl
  · rename_i hlim
    refine keeps_modPort fun _ h => { h with events := ?_ }
    simp only [Config.eventLimit, eventCount] at hlim
    simp only [List.countP_append, List.countP_cons, isEvent, ↓reduceIte, List.countP_nil]
    omega

theorem keeps_passEvent (p : PortId) (u : UnitId) (session code : Byte) (data : List Byte) :
    Keeps A n s (passEvent p u session code data s) := by
  unfold passEvent
  split
  · exact keeps_queueEvent p u session code data
  · exact keeps_countPort _ p

theorem keeps_trackCard (k : PosId) (role : Role) (code : Byte) : Keeps A n s (trackCard k role code s) := by
  unfold trackCard
  split
  · exact keeps_setCard k _
  · split
    · exact (keeps_setCard k _).trans (keeps_abandonCollecting k _)
    · exact .refl s

theorem keeps_cardWaits (k : PosId) (role : Role) (code : Byte) : Keeps A n s (cardWaits k role code s) := by
  unfold cardWaits
  split
  · exact keeps_raiseNotice _
  · exact .refl s

theorem keeps_gateEvent (p : PortId) (u : UnitId) (k : PosId) (role : Role) (code : Byte) (data : List Byte) :
    Keeps A n s (gateEvent p u k role code data s) := by
  unfold gateEvent
  split
  · split
    · exact keeps_raiseNotice _
    · exact keeps_countPort _ p
  · split
    · exact keeps_countPort _ p
    · exact (keeps_cardWaits k role code).trans (keeps_passEvent p u _ code data)

theorem keeps_keyTaken {k : PosId} {e x : Entry} (short full : Bool) (he : s.positions[k].entry = some x)
    (hs : e.state = x.state) : Keeps A n s (keyTaken k e short full s) := by
  refine .trans (keeps_modPos rfl rfl rfl rfl rfl (fun _ => rfl) ?_ ?_) (keeps_queueProgress k _ short full)
  · simp only [he, Option.isSome]
  · simp only [he, isCollecting, hs]

/-- The delivery of a complete ENTER: the entry of a position in collection becomes DELIVERING (R144). -/
theorem keeps_deliver {k : PosId} {e : Entry} (u : UnitId) (p : PortId) (he : s.positions[k].entry = some e) :
    Keeps A n s (deliver k e u p s) := by
  unfold deliver
  set b := modPort p (fun q => { q with queue := e.record :: q.queue }) (modRec e.record (fun _ => { freeExchange with
      state := .queued, origin := some .delivery, unit := some u, port := some p, position := some k,
      command := e.command, data := e.digits }) s) with hb
  have hsb : Keeps A n s b := (keeps_modRec _ _).trans
    (keeps_modPort fun _ h => h.congr rfl rfl rfl rfl rfl rfl rfl rfl rfl rfl rfl id le_rfl)
  refine hsb.trans ⟨fun h => h.congr rfl rfl rfl, fun h => h.refresh rfl rfl, fun _ h => h, fun h => ?_, fun h => h.congr rfl rfl,
    fun h => (h.modPos rfl rfl rfl rfl fun _ => h.entry k (by rw [hb]; exact he ▸ rfl)).refreshLamp k⟩
  refine ⟨h.fits, ?_, h.sending, h.records, h.tags⟩
  rw [heldReservations_refreshLamp, heldReservations_eq_of_entry (s := b) (modPos_field (fun q => q.entry.isSome) ?_) rfl]
  · exact h.held
  · show true = s.positions[k].entry.isSome
    rw [he]; rfl

theorem keeps_completeEnter {k : PosId} {e : Entry} (he : s.positions[k].entry = some e) :
    Keeps A n s (completeEnter k e s) := by
  unfold completeEnter
  split
  · exact keeps_endEntry k _ _ _ _
  · split
    · unfold enterReader
      split
      · exact keeps_deliver _ _ he
      · exact (keeps_raiseFault _ _).trans (keeps_endEntry k _ _ _ _)
    · exact keeps_endEntry k _ _ _ _

theorem keeps_collectKey {k : PosId} {e : Entry} (b : Byte) (he : s.positions[k].entry = some e) :
    Keeps A n s (collectKey k e b s) := by
  unfold collectKey
  split_ifs
  · unfold digitKey
    split
    · exact keeps_keyTaken _ _ he rfl
    · exact keeps_keyTaken _ _ he rfl
  · exact keeps_keyTaken _ _ he rfl
  · unfold enterKey
    split
    · exact keeps_keyTaken _ _ he rfl
    · exact keeps_completeEnter he
  · exact keeps_endEntry k _ _ _ _
  · exact .refl s

theorem keeps_takeKey (k : PosId) (key : Option Byte) : Keeps A n s (takeKey k key s) := by
  unfold takeKey
  split
  · rename_i e b he
    split
    · exact keeps_collectKey b he
    · exact .refl s
  · exact .refl s

theorem keeps_eventPath (p : PortId) (code : Byte) (data : List Byte) : Keeps A n s (eventPath p code data s) := by
  unfold eventPath
  split
  · exact keeps_countPort _ p
  · split
    · exact ((keeps_raiseNotice _).trans (keeps_reportUnusable _)).trans (keeps_countPort _ p)
    · split
      · exact keeps_passEvent p _ _ code data
      · rename_i k role _
        refine (keeps_trackCard k role code).trans ?_
        unfold captureEvent
        split
        · exact keeps_takeKey _ _
        · exact keeps_gateEvent p _ _ _ code data

/-! ### Received characters -/

theorem keeps_takeReply (p : PortId) (f : LineFrame) : Keeps A n s (takeReply p f s) := by
  unfold takeReply
  split
  · exact keeps_countPort _ p
  · split_ifs
    · exact keeps_countPort _ p
    · exact keeps_endOrphan _ _
    · exact keeps_endExchange _ _ _ _

theorem PortLaw.retryIdentify {q : Port} (h : PortLaw q) (d : Identify) (hs : q.state = .identifying) :
    PortLaw (retryIdentify d q) := by
  have hi : q.identify.isSome = true := h.identify.mpr hs
  unfold Machine.retryIdentify
  split
  · exact { h with identify := by simp [hs], silent := fun _ => .inl hs }
  · exact { h with identify := by simp [hs] }

/-- A port that enters READY with an identity (R38). -/
theorem PortLaw.ready {q : Port} (h : PortLaw q) (i : Identity) (hs : q.state = .identifying) :
    PortLaw { q with state := .ready, identity := some i, failures := 0, identify := none, tx := .idle } where
  power := by simp [h.power_on (q := q) (by rw [hs]; decide)]
  supply := by simp [h.supply_on (q := q) (by rw [hs]; decide) (by rw [hs]; decide), h.cause_none (q := q) (by rw [hs]; decide)]
  cause := by simp [h.cause_none (q := q) (by rw [hs]; decide)]
  resetLine := h.resetLine
  pulse := by simp [h.pulse_none (q := q) (by rw [hs]; decide)]
  settle := by simp [h.settle_none (q := q) (by rw [hs]; decide)]
  identify := by simp
  gap := h.gap
  receiver := fun _ => .inr rfl
  silent := fun _ => .inr rfl
  identified := fun _ => rfl
  forgotten := nofun
  allowance := h.allowance
  replyLimit := h.replyLimit
  retryLimit := h.retryLimit
  events := h.events

theorem keeps_raiseIf (c : Prop) [Decidable c] (m : Notice) : Keeps A n s (if c then raiseNotice m s else s) := by
  split
  · exact keeps_raiseNotice m
  · exact .refl s

theorem keeps_enterReady (p : PortId) (i : Identity) (hs : s.ports[p].state = .identifying) : Keeps A n s (enterReady p i s) := by
  unfold enterReady
  have hf : Keeps A n s (modPort p (fun q => { q with
      state := .ready, identity := some i, failures := 0, identify := none, tx := .idle }) s) := keeps_modPort fun _ h => h.ready i hs
  exact ((hf.trans (keeps_raiseNotice _)).trans (keeps_raiseIf _ _)).trans (keeps_reevaluate p)

theorem keeps_takeIdentifyReply (p : PortId) (f : LineFrame) (hs : s.ports[p].state = .identifying) :
    Keeps A n s (takeIdentifyReply p f s) := by
  unfold takeIdentifyReply
  split
  · exact keeps_countPort _ p
  · split
    · exact keeps_countPort _ p
    · split
      · exact keeps_enterReady p _ hs
      · split
        · exact keeps_modPort fun _ h => h.retryIdentify _ hs
        · exact keeps_enterFault (by rw [hs]; decide) (by decide) (.inr (by rw [hs]; decide))

theorem keeps_takeLineFrame (p : PortId) (bytes : List Byte) : Keeps A n s (takeLineFrame p bytes s) := by
  unfold takeLineFrame
  split
  · exact keeps_countPort _ p
  · split
    · unfold passFrame
      split
      · split
        · exact keeps_takeReply p _
        · exact keeps_eventPath p _ _
      · split
        · rename_i hs
          split
          · exact keeps_takeIdentifyReply p _ hs
          · exact keeps_countPort _ p
        · exact .refl s
    · exact keeps_countPort _ p

theorem keeps_takeAssembled (p : PortId) (a : Assembled) : Keeps A n s (takeAssembled p a s) := by
  cases a with
  | quiet => exact .refl s
  | counted => exact keeps_countPort _ p
  | frame bytes => exact keeps_takeLineFrame p bytes

theorem gapFor_isSome (ms : Nat) (a : Assembler) : (gapFor ms a).isSome = true ↔ isHunting a = false := by
  cases a <;> simp [gapFor, isHunting]

/-- A port whose assembler and gap timer have moved together, while its receiver runs. -/
theorem PortLaw.assembled {q : Port} (h : PortLaw q) (a : Assembler) (ms : Nat)
    (hr : q.state = .identifying ∨ q.state = .ready) : PortLaw { q with asm := a, gap := gapFor ms a } :=
  { h with gap := gapFor_isSome ms a, receiver := fun _ => hr }

theorem keeps_receiveCharacter (p : PortId) (c : RxChar) : Keeps A n s (receiveCharacter p c s) := by
  have sample : receiverRuns s.ports[p] = true → Keeps A n s (sampleCharacter p c s) := fun hr => by
    have hr : s.ports[p].state = .identifying ∨ s.ports[p].state = .ready := by simpa [receiverRuns] using hr
    unfold sampleCharacter
    have hf : ∀ a, Keeps A n s (modPort p (fun q => { q with asm := a, gap := gapFor (gapMs q.config) a }) s) := fun a =>
      keeps_modPort fun _ h => h.assembled a _ hr
    exact (hf _).trans (keeps_takeAssembled p _)
  unfold receiveCharacter
  split
  · rename_i hr
    split
    · exact .refl s
    · rename_i o b ht
      refine .trans (keeps_modPort fun _ h => ?_) (keeps_countPort _ p)
      exact { h with gap := by simp [isHunting], receiver := nofun, silent := fun _ => h.silent (by rw [ht]; nofun) }
    · exact sample hr
  · exact .refl s

theorem keeps_deviceGap (p : PortId) : Keeps A n s (if s.ports[p].gap.isSome then
    countPort .lineErrors p (modPort p (fun q => { q with asm := .hunting true, gap := none }) s) else s) := by
  split
  · refine .trans (keeps_modPort fun _ h => ?_) (keeps_countPort _ p)
    exact { h with gap := by simp [isHunting], receiver := nofun }
  · exact .refl s

/-! ### Frames sent -/

theorem keeps_exchangeStart (p : PortId) : Keeps A n s (exchangeStart p s) := by
  unfold exchangeStart
  split
  · split
    · rename_i hf
      have hr : s.ports[p].state = .ready := by
        simp only [portFree, Bool.and_eq_true] at hf
        exact (portReady_iff s p).mp hf.1.1
      unfold startExchange
      exact .trans (keeps_modRec _ _) (keeps_modPort fun _ h => { h with silent := fun _ => .inr hr })
    · exact .refl s
  · exact .refl s

theorem keeps_startDeadline (p : PortId) (owner : TxOwner) (lq : Nat) : Keeps A n s (startDeadline p owner lq s) := by
  unfold startDeadline
  cases owner with
  | exchange i => exact keeps_modRec i _
  | identify =>
    refine keeps_modPort fun _ h => ?_
    exact { h with identify := by rw [Option.isSome_map]; exact h.identify }
  | nobody => exact .refl s

theorem keeps_frameSent (owner : TxOwner) : Keeps A n s (frameSent owner s) := by
  cases owner with
  | exchange i => exact keeps_modRec i _
  | identify => exact .refl s
  | nobody => exact .refl s

theorem keeps_frameStart (p : PortId) (quietMs : Nat) : Keeps A n s (frameStart p quietMs s) := by
  unfold frameStart
  split
  · rename_i owner bytes ht
    split
    · have hf : Keeps A n s (modPort p (fun q => { q with
          tx := .sending owner (sentFrame q.config bytes) (startsHalf q.config) false }) s) :=
        keeps_modPort fun _ h => { h with silent := fun _ => h.silent (by rw [ht]; nofun) }
      exact hf.trans (keeps_startDeadline p owner _)
    · exact .refl s
  · exact .refl s

theorem PortLaw.handIdentify {q : Port} (h : PortLaw q) : PortLaw (handIdentify { q with tx := .idle }) := by
  unfold Machine.handIdentify
  split
  · rename_i d hd
    have hs : q.state = .identifying := h.identify.mp (by rw [show q.identify = some d from hd]; rfl)
    split
    · exact { h with identify := by simp [hs], silent := fun _ => .inl hs }
    · exact { h with silent := fun e => absurd rfl e }
  · exact { h with silent := fun e => absurd rfl e }

theorem keeps_frameEnd (p : PortId) : Keeps A n s (frameEnd p s) := by
  unfold frameEnd
  split
  · have hf : Keeps A n s (modPort p (fun q => handIdentify { q with tx := .idle }) s) := keeps_modPort fun _ h => h.handIdentify
    exact hf.trans (keeps_frameSent _)
  · exact .refl s

/-! ### Expiries -/

theorem PortLaw.settleExpired {q : Port} (h : PortLaw q) : PortLaw (settleExpired q) := by
  unfold Machine.settleExpired
  split
  · rename_i hq
    obtain ⟨hse, hs⟩ := hq
    have ho : q.state ≠ .off := by rw [hs]; decide
    have hf : q.state ≠ .fault := by rw [hs]; decide
    have hp := (h.settle.mp hse).2
    exact { power := by simp [beginIdentify, stopLine, h.power_on ho]
            supply := by simp [beginIdentify, stopLine, h.supply_on ho hf, h.cause_none hf]
            cause := by simp [beginIdentify, stopLine, h.cause_none hf]
            resetLine := h.resetLine
            pulse := by simp [beginIdentify, stopLine, hp]
            settle := by simp [beginIdentify, stopLine]
            identify := by simp [beginIdentify]
            gap := by simp [beginIdentify, stopLine, isHunting]
            receiver := nofun
            silent := fun _ => .inl rfl
            identified := nofun
            forgotten := nofun
            allowance := h.allowance, replyLimit := h.replyLimit, retryLimit := h.retryLimit, events := h.events }
  · exact h

theorem PortLaw.pulseEnded {q : Port} (h : PortLaw q) : PortLaw (pulseEnded q) := by
  unfold Machine.pulseEnded
  split
  · rename_i hp
    have hs := h.pulse hp
    have ho : q.state ≠ .off := by rw [hs]; decide
    have hf : q.state ≠ .fault := by rw [hs]; decide
    have hid := h.identify_none (q := q) (by rw [hs]; decide)
    have hse : q.settle = none := by
      rw [← Option.not_isSome_iff_eq_none]; exact fun e => by rw [(h.settle.mp e).2] at hp; cases hp
    obtain ⟨ht, ha, hg⟩ := h.at_rest (by rw [hs]; decide) (by rw [hs]; decide)
    split
    · exact h.of_rest ht ha hg rfl ⟨rfl, rfl, rfl⟩ (by simp [endPulse, hs, h.power_on ho])
        (by simp [endPulse, hs, h.supply_on ho hf, h.cause_none hf]) (by simp [endPulse, hs, h.cause_none hf]) rfl nofun
        (by simp [endPulse, hs]) (by simp [endPulse, hs, hid]) (by simp [endPulse, hs]) (by simp [endPulse, hs])
    · exact h.of_rest ht ha hg rfl ⟨rfl, rfl, rfl⟩ (by simp [endPulse, h.power_on ho])
        (by simp [endPulse, h.supply_on ho hf, h.cause_none hf]) (by simp [endPulse, h.cause_none hf]) rfl nofun
        (by simp [endPulse, hse]) (by simp [endPulse, hid]) nofun (by simp)
  · exact h

theorem keeps_identifyExpired (p : PortId) : Keeps A n s (identifyExpired p s) := by
  unfold identifyExpired
  split
  · exact .refl s
  · rename_i d hd
    have hs : PortLaw s.ports[p] → s.ports[p].state = .identifying := fun h => h.identify.mp (by rw [hd]; rfl)
    split_ifs
    · exact .refl s
    · exact .trans (keeps_modPort fun _ h => h.retryIdentify _ (hs h)) (keeps_countPort _ p)
    · refine ((keeps_modPort fun _ h => ?_).trans (keeps_raiseNotice _)).trans (keeps_departIf _ p _)
      have hs := hs h
      refine h.fault (by rw [hs]; decide) (by decide) (.inr ?_)
      rw [h.cause_none (by rw [hs]; decide)]; decide

/-- The deadline of an exchange, in a state whose records in flight are on READY ports (R53, R60, R61, R76). -/
theorem keeps_deadlineExpired (p : PortId)
    (hA : A → ∀ i : RecId, isInFlight s.pool[i] = true → ∃ r : PortId, s.pool[i].port = some r ∧ s.ports[r].state = .ready) :
    Keeps A n s (deadlineExpired p s) := by
  unfold deadlineExpired
  split
  · exact .refl s
  · rename_i i hi
    split
    · exact .refl s
    · split
      · unfold awaitingExpired
        split
        · refine .trans (.trans (keeps_modRec i _) (keeps_modPort fun a h => ?_)) (keeps_countPort _ p)
          obtain ⟨hp, hf⟩ := inFlight_spec s hi
          obtain ⟨r, hr, hready⟩ := hA a i hf
          obtain rfl : p = r := Option.some.inj (hp.symm.trans hr)
          exact { h with silent := fun _ => .inr hready }
        · exact (keeps_endExchange i _ _ _).trans (keeps_silentCheck p)
      · exact (keeps_endOrphan i _).trans (keeps_silentCheck p)
      · exact .refl s

theorem keeps_holdExpired (i : RecId) : Keeps A n s (holdExpired i s) := by
  unfold holdExpired
  split
  · split
    · exact .refl s
    · refine .trans (.trans (.trans (keeps_modPort fun _ h => ?_) (keeps_freeRecord i)) (keeps_countPort _ _)) (keeps_raiseNotice _)
      exact h.congr rfl rfl rfl rfl rfl rfl rfl rfl rfl rfl rfl id (List.filter_sublist.countP_le)
  · exact .refl s

theorem keeps_toggleLamp (k : PosId) : Keeps A n s (modPos k toggleLamp s) := by
  have h : toggleLamp s.positions[k] = { s.positions[k] with lampLit := (toggleLamp s.positions[k]).lampLit } := by
    unfold toggleLamp; split <;> rfl
  refine keeps_modPos (by rw [h]) (by rw [h]) (by rw [h]) (by rw [h]) (by rw [h]) (fun hf => ?_) (by rw [h]) (by rw [h])
  rw [h] at hf
  rw [toggleLamp, if_neg hf]

theorem keeps_expireEntry (k : PosId) : Keeps A n s (expireEntry k s) := by
  unfold expireEntry
  split
  · exact .refl s
  · split
    · exact keeps_endEntry k _ _ _ _
    · exact .refl s

end

end Sys2Proof.Machine
end

section
/-! SUPPORT. The six laws under the route table's writes, the transmitter, the restarts and cold resets, and the notices taken. -/

namespace Sys2Proof.Machine

/-! ### What some operations leave alone -/

section
variable (s : State)

theorem endEntry_frame (k : PosId) (o : EntryOutcome) (c : EntryCause) (st : Byte) (d : List Byte) : endEntry k o c st d s =
    { s with
      control := (endEntry k o c st d s).control, reservations := (endEntry k o c st d s).reservations
      pool := (endEntry k o c st d s).pool, positions := (endEntry k o c st d s).positions } := by
  cases he : s.positions[k].entry with
  | none => simp only [endEntry, he]
  | some e => simp only [endEntry, he]; split <;> rfl

theorem raiseNotice_frame (m : Notice) : raiseNotice m s =
    { s with
      notices := (raiseNotice m s).notices, wattn := (raiseNotice m s).wattn, positions := (raiseNotice m s).positions } := by
  unfold raiseNotice
  split
  · rfl
  · rw [noticeChanged_eq]

/-- What an evaluation leaves alone: the ports, the group records and all else that neither a notice nor the end of an entry touches. -/
theorem evaluate_frame (u : UnitId) : evaluate u s =
    { s with
      notices := (evaluate u s).notices, wattn := (evaluate u s).wattn, control := (evaluate u s).control
      reservations := (evaluate u s).reservations, pool := (evaluate u s).pool, positions := (evaluate u s).positions } := by
  have hr : ∀ t : State, reportUnusable u t = { t with
      control := (reportUnusable u t).control, reservations := (reportUnusable u t).reservations
      pool := (reportUnusable u t).pool, positions := (reportUnusable u t).positions } := fun t => by
    unfold reportUnusable
    split
    · unfold abandonCollecting
      split
      · exact endEntry_frame t _ _ _ _ _
      · rfl
    · rfl
  have hf : raiseFault u (usableTest u s) s = { s with
      notices := (raiseFault u (usableTest u s) s).notices, wattn := (raiseFault u (usableTest u s) s).wattn
      positions := (raiseFault u (usableTest u s) s).positions } := by
    unfold raiseFault
    split
    · exact raiseNotice_frame s _
    · rfl
  unfold evaluate evaluationEffects
  split
  · rfl
  · rw [hr, hf]

theorem foldl_evaluate_frame (l : List UnitId) : ∃ no wa co re po ps, l.foldl (fun t u => evaluate u t) s =
    { s with notices := no, wattn := wa, control := co, reservations := re, pool := po, positions := ps } := by
  induction l generalizing s with
  | nil => exact ⟨s.notices, s.wattn, s.control, s.reservations, s.pool, s.positions, rfl⟩
  | cons u l ih =>
    obtain ⟨no, wa, co, re, po, ps, h⟩ := ih (s := evaluate u s)
    refine ⟨no, wa, co, re, po, ps, h.trans ?_⟩
    rw [evaluate_frame s u]

end

/-! ### The route table (R2, R4, R7, R16, R19) -/

section
variable {s : State}

/-- Entries that name no port they did not name, and stay valid, for the same map. -/
theorem RouteLaw.of_names {t : State} (h : RouteLaw s) (hn : ∀ v : UnitId, Names t.routes[v] →
      Names s.routes[v] ∧ t.routes[v].primary = s.routes[v].primary ∧ t.routes[v].standby = s.routes[v].standby)
    (hv : ∀ v : UnitId, s.routes[v].valid = true → t.routes[v].valid = true) (ho : t.owners = s.owners) : RouteLaw t := by
  have hp : ∀ (v : UnitId) (p : PortId), Names t.routes[v] → NamesPort t.routes[v] p → NamesPort s.routes[v] p := fun v p hv hp => by
    obtain ⟨-, h1, h2⟩ := hn v hv
    simpa only [NamesPort, h1, h2] using hp
  refine ⟨fun u hu => ?_, fun u v p hu hv g1 g2 => h.single u v p (hn u hu).1 (hn v hv).1 (hp u p hu g1) (hp v p hv g2),
    fun u p hu g => ?_, fun u p g => hv u (h.owner u p (by rwa [ho] at g))⟩
  · obtain ⟨h0, h1, h2⟩ := hn u hu
    rw [h1, h2]; exact h.standby u h0
  · rw [ho]; exact h.mapped u p (hn u hu).1 (hp u p hu g)

theorem RouteLaw.modRoute {u : UnitId} {f : RouteEntry → RouteEntry} (h : RouteLaw s)
    (hn : Names (f s.routes[u]) → Names s.routes[u] ∧ (f s.routes[u]).primary = s.routes[u].primary ∧
      (f s.routes[u]).standby = s.routes[u].standby)
    (hv : s.routes[u].valid = true → (f s.routes[u]).valid = true) : RouteLaw (modRoute u f s) := by
  refine h.of_names (fun v => ?_) (fun v => ?_) rfl
  · by_cases hvu : v = u
    · subst hvu; rw [modRoute_self]; exact hn
    · rw [modRoute_ne s hvu]; exact fun g => ⟨g, rfl, rfl⟩
  · by_cases hvu : v = u
    · subst hvu; rw [modRoute_self]; exact hv
    · rw [modRoute_ne s hvu]; exact id

theorem getElem_disown (u : UnitId) (owners : Vector (Option UnitId) 12) (r : PortId) :
    (disown u owners)[r] = if owners[r] = some u then none else owners[r] := by simp [disown]

theorem getElem_own (u : UnitId) (p : PortId) (owners : Vector (Option UnitId) 12) (r : PortId) :
    (own u p owners)[r] = if r = p then some u else owners[r] := by
  by_cases h : r = p
  · subst h; simp [own]
  · simp [own, h, Fin.val_ne_of_ne (Ne.symm h)]

/-- The map after a PORTS write: the new ports are the unit's, and its old ones are given up (R7). -/
theorem getElem_ownPorts (u : UnitId) (p : PortId) (q : Option PortId) (owners : Vector (Option UnitId) 12) (r : PortId) :
    (ownPorts u p q owners)[r] =
      if r = p ∨ q = some r then some u else if owners[r] = some u then none else owners[r] := by
  cases q with
  | none => simp only [ownPorts, getElem_own, getElem_disown, reduceCtorEq, or_false]
  | some q =>
    simp only [ownPorts, getElem_own, getElem_disown, Option.some.injEq, eq_comm (a := q)]
    by_cases h1 : r = q <;> by_cases h2 : r = p <;> simp [h1, h2]

/-- A write of the PORTS section whose ports are different and named for no other unit (R2, R15, R18). -/
theorem RouteLaw.write {u : UnitId} {p : PortId} {q : Option PortId} {c : CheckState} (h : RouteLaw s) (hq : q ≠ some p)
    (hc : ∀ r v, (r = p ∨ q = some r) → s.owners[r] = some v → v = u) :
    RouteLaw (Machine.modRoute u (fun e => { e with valid := true, primary := p, standby := q, portsCheck := c })
      { s with owners := ownPorts u p q s.owners }) := by
  set t := Machine.modRoute u (fun e => { e with valid := true, primary := p, standby := q, portsCheck := c })
    { s with owners := ownPorts u p q s.owners } with ht
  have hu : t.routes[u] = { s.routes[u] with valid := true, primary := p, standby := q, portsCheck := c } := modRoute_self _ _ _
  have hne : ∀ v : UnitId, v ≠ u → t.routes[v] = s.routes[v] := fun v hv => modRoute_ne _ hv _
  have ho : ∀ r : PortId, t.owners[r] = if r = p ∨ q = some r then some u else if s.owners[r] = some u then none else s.owners[r] :=
    fun r => getElem_ownPorts u p q s.owners r
  have mapped : ∀ (v : UnitId) (r : PortId), Names t.routes[v] → NamesPort t.routes[v] r → t.owners[r] = some v := by
    intro v r hn hp
    by_cases hv : v = u
    · subst hv
      rw [hu] at hp
      rw [ho, if_pos (hp.imp Eq.symm id)]
    · rw [hne v hv] at hn hp
      have hm := h.mapped v r hn hp
      rw [ho, if_neg (fun g => hv (hc r v g hm)), hm, if_neg (fun e => hv (Option.some.inj e))]
  refine ⟨fun v hn => ?_, fun v w r hv hw gv gw => Option.some.inj ((mapped v r hv gv).symm.trans (mapped w r hw gw)), mapped,
    fun v r g => ?_⟩
  · by_cases hv : v = u
    · subst hv; rw [hu]; exact hq
    · rw [hne v hv] at hn ⊢; exact h.standby v hn
  · by_cases hv : v = u
    · subst hv; rw [hu]
    · rw [hne v hv]
      rw [ho] at g
      split_ifs at g
      · exact absurd (Option.some.inj g).symm hv
      · exact h.owner v r g

theorem RouteLaw.clear {u : UnitId} (h : RouteLaw s) : RouteLaw (Machine.modRoute u (fun _ => coldRoute) { s with owners := disown u s.owners }) := by
  set t := Machine.modRoute u (fun _ => coldRoute) { s with owners := disown u s.owners } with ht
  have hu : ¬ Names t.routes[u] := by rw [ht, modRoute_self]; exact fun h => Bool.noConfusion h.1
  have hne : ∀ v : UnitId, v ≠ u → t.routes[v] = s.routes[v] := fun v hv => modRoute_ne _ hv _
  have ho : ∀ r : PortId, t.owners[r] = if s.owners[r] = some u then none else s.owners[r] := getElem_disown u s.owners
  have old : ∀ v : UnitId, Names t.routes[v] → v ≠ u := fun v hn hv => hu (hv ▸ hn)
  refine ⟨fun v hn => ?_, fun v w r hv hw gv gw => ?_, fun v r hn hp => ?_, fun v r g => ?_⟩
  · have hv := old v hn; rw [hne v hv] at hn ⊢; exact h.standby v hn
  · have hvu := old v hv
    have hwu := old w hw
    rw [hne v hvu] at hv gv
    rw [hne w hwu] at hw gw
    exact h.single v w r hv hw gv gw
  · have hv := old v hn
    rw [hne v hv] at hn hp
    have hm := h.mapped v r hn hp
    rw [ho, hm, if_neg fun e => hv (Option.some.inj e)]
  · rw [ho] at g
    split_ifs at g with hr
    have hv : v ≠ u := fun e => hr (e ▸ g)
    rw [hne v hv]; exact h.owner v r g

end

section
variable {A : Prop} {n : Nat} {s : State}

theorem keeps_routes {t : State} (h : t = { s with routes := t.routes, owners := t.owners }) (hr : RouteLaw s → RouteLaw t) :
    Keeps A n s t where
  notice g := by rw [h]; exact g.congr rfl rfl rfl
  lamp g := by rw [h]; exact g.congr rfl rfl
  ports _ g := by rw [h]; exact g
  slot g := by rw [h]; exact ⟨g.fits, g.held, g.sending, g.records, g.tags⟩
  route := hr
  position g := by rw [h]; exact g.congr rfl rfl rfl

theorem keeps_upsetRoute (u : UnitId) (held : RouteSection) : Keeps A n s (modRoute u (upsetRoute held) s) := by
  refine keeps_routes rfl fun h => h.modRoute ?_ ?_
  · cases held with
    | ports p q =>
      simp only [upsetRoute]
      split
      · exact fun g => ⟨g, rfl, rfl⟩
      · rename_i hf
        intro g
        exact absurd g.2 (by cases hp : s.routes[u].portsCheck <;> simp_all [upsetCheck])
    | cls c => exact fun g => ⟨g, rfl, rfl⟩
  · cases held with
    | ports p q => simp only [upsetRoute]; split <;> exact id
    | cls c => exact id

theorem decodeRoute_standby {r : RouteParams} {w : RouteWrite} (h : decodeRoute r = some w) {p : PortId} {q : Option PortId}
    (hw : w.ports = some (p, q)) : q ≠ some p := by
  unfold decodeRoute at h
  split at h
  · cases h
  · split at h
    · rename_i u ports cls _ hp _
      obtain rfl := Option.some.inj h
      obtain rfl : ports = some (p, q) := hw
      unfold decodePorts at hp
      split at hp
      · cases hp
      · split at hp
        · split at hp
          · cases hp
          · rename_i hne
            cases hp
            exact hne
        · cases hp
    · cases h

theorem keeps_mismatchAt (c : ExpectedClass) (p : PortId) : Keeps A n s (mismatchAt c p s) := by
  unfold mismatchAt
  split
  · exact keeps_raiseNotice _
  · exact .refl s

theorem keeps_reportMismatch (u : UnitId) : Keeps A n s (reportMismatch u s) := by
  unfold reportMismatch
  dsimp only
  split
  · split
    · exact (keeps_mismatchAt _ _).trans (keeps_mismatchAt _ _)
    · exact keeps_mismatchAt _ _
  · exact .refl s

/-- A claim of a port that conflicts with none is a claim of a port the map names for nobody else (R18). -/
theorem owner_of_not_conflict {w : RouteWrite} {p : PortId} {q : Option PortId} (hp : w.ports = some (p, q))
    (hc : routeConflict w s = false) {r : PortId} {v : UnitId} (hr : r = p ∨ q = some r) (ho : s.owners[r] = some v) :
    v = w.unit := by
  have hclaim : ∀ x : PortId, claimedByOther w.unit x s = false → s.owners[x] = some v → v = w.unit := fun x hx hv => by
    simpa [claimedByOther, hv] using hx
  cases q with
  | none =>
    simp only [routeConflict, hp] at hc
    obtain rfl := hr.resolve_right nofun
    exact hclaim r hc ho
  | some q =>
    simp only [routeConflict, hp, Bool.or_eq_false_iff] at hc
    rcases hr with rfl | hr
    · exact hclaim r hc.1 ho
    · obtain rfl := Option.some.inj hr
      exact hclaim q hc.2 ho

theorem keeps_takeSetRoute (params : List Byte) : Keeps A n s (takeSetRoute params s).1 := by
  unfold takeSetRoute
  split
  · exact .refl s
  · split
    · exact .refl s
    · rename_i w hw
      unfold applyRoute
      split_ifs with _ hc
      · exact .refl s
      · exact .refl s
      · refine .trans ?_ (keeps_reportMismatch w.unit)
        have hports : Keeps A n s (writePorts w s) := by
          unfold writePorts
          split
          · exact .refl s
          · rename_i p q hp
            exact keeps_routes rfl fun h => h.write (decodeRoute_standby hw hp) fun r v hr ho =>
              owner_of_not_conflict hp (by simpa using hc) hr ho
        refine hports.trans ?_
        unfold writeClass
        split
        · exact .refl _
        · exact keeps_routes rfl fun h => h.modRoute (fun g => ⟨g, rfl, rfl⟩) id

theorem keeps_takeClearRoute (params : List Byte) : Keeps A n s (takeClearRoute params s).1 := by
  unfold takeClearRoute
  split
  · exact .refl s
  · split
    · exact .refl s
    · split
      · exact .refl s
      · exact keeps_routes rfl fun h => h.clear

/-! ### The workstation transmitter -/

theorem keeps_transmit {src : TxSource} (f : CounterFrame) (hs : src = .control → s.control ≠ []) :
    Keeps A n s (transmit src f s) where
  notice h := h.congr rfl rfl rfl
  lamp h := h.congr rfl rfl
  ports _ h := h
  slot h := ⟨h.fits, h.held, fun e => hs (by cases src with | control => rfl | port => cases e | copy => cases e), h.records, h.tags⟩
  route h := h.congr rfl rfl
  position h := h.congr rfl rfl rfl

theorem choosePort_frame {p : PortId} {t : State} (h : choosePort s = some (p, t)) :
    t = { s with highPtr := t.highPtr, lowPtr := t.lowPtr, starvation := t.starvation } := by
  unfold choosePort at h
  split at h
  · cases h
  · cases h; rfl
  · cases h; rfl
  · split at h <;> (cases h; rfl)

theorem keeps_stopHold (f : OutFrame) : Keeps A n s (stopHold f s) := by
  unfold stopHold
  split
  · exact keeps_modRec _ _
  · exact .refl s

theorem keeps_grant : Keeps A n s (grant s) := by
  unfold grant
  split
  · unfold makeGrant
    split
    · rename_i f rest hc
      exact keeps_transmit _ fun _ => by rw [hc]; exact List.cons_ne_nil _ _
    · split
      · rename_i p t ht
        have h : Keeps A n s t := by rw [choosePort_frame ht]; exact .unseen {}
        refine h.trans ?_
        unfold grantPort
        split
        · exact (keeps_stopHold _).trans (keeps_transmit _ nofun)
        · exact .refl t
      · exact .refl s
  · exact .refl s

theorem keeps_sentFrom (p : PortId) (f : OutFrame) : Keeps A n s (sentFrom p f s) := by
  cases f with
  | reply => exact keeps_freeRecord _
  | event => exact keeps_countPort _ p

theorem keeps_portSent (p : PortId) : Keeps A n s (portSent p s) := by
  unfold portSent
  split
  · rename_i f rest hf
    refine .trans (keeps_modPort fun _ h => ?_) (keeps_sentFrom p f)
    refine h.congr rfl rfl rfl rfl rfl rfl rfl rfl rfl rfl rfl id ?_
    rw [hf]; exact (List.sublist_cons_self f rest).countP_le
  · exact .refl s

/-- The transmitter goes idle. -/
theorem keeps_idle : Keeps A n s { s with tx := .idle } where
  notice h := h.congr rfl rfl rfl
  lamp h := h.congr rfl rfl
  ports _ h := h
  slot h := ⟨h.fits, h.held, fun e => Bool.noConfusion e, h.records, h.tags⟩
  route h := h.congr rfl rfl
  position h := h.congr rfl rfl rfl

/-- The head of the control queue leaves it, the transmitter being idle. -/
theorem keeps_dropControl (ht : s.tx = .idle) : Keeps A n s { s with control := s.control.drop 1 } where
  notice h := h.congr rfl rfl rfl
  lamp h := h.congr rfl rfl
  ports _ h := h
  slot h := by
    refine ⟨le_trans ?_ h.fits, h.held, fun e => ?_, h.records, h.tags⟩
    · simp only [List.length_drop]; omega
    · have hs : controlSending s = true := e
      rw [controlSending, ht] at hs
      cases hs
  route h := h.congr rfl rfl
  position h := h.congr rfl rfl rfl

theorem keeps_frameDone : Keeps A n s (frameDone s) := by
  unfold frameDone
  split
  · rename_i src _ _ _
    cases src with
    | control => exact keeps_idle.trans (keeps_dropControl rfl)
    | port p => exact keeps_idle.trans (keeps_portSent p)
    | copy => exact keeps_idle
  · exact .refl s

/-! ### Settings, notices taken, and limits -/

theorem keeps_applyLine (w : LineWrite) : Keeps A n s (applyLine w s) where
  notice h := ⟨h.ordered, attention_iff { s with
    line := writeLine w s.line, starvation := if w.k.isSome then 0 else s.starvation }⟩
  lamp h := h.congr rfl rfl
  ports _ h := h
  slot h := ⟨h.fits, h.held, h.sending, h.records, h.tags⟩
  route h := h.congr rfl rfl
  position h := h.congr rfl rfl rfl

theorem keeps_takeTheNotice : Keeps A n s (takeTheNotice s).1 := by
  unfold takeTheNotice
  split
  · exact .refl s
  · rename_i m rest hm
    refine keeps_noticeChanged (fun h => ?_) fun x hx => ?_
    · have := h.ordered; rw [hm, List.pairwise_cons] at this; exact this.2
    · rw [hm, List.mem_cons]; exact (or_iff_right hx).symm

theorem keeps_takeSetSessionLimit (params : List Byte) : Keeps A n s (takeSetSessionLimit params s).1 := by
  unfold takeSetSessionLimit
  split
  · exact .refl s
  · rename_i b _
    split_ifs with hb hc
    · exact .refl s
    · exact .refl s
    · refine ⟨fun h => h.congr rfl rfl rfl, fun h => h.congr rfl rfl, fun _ h => h,
        fun h => ⟨h.fits, h.held, h.sending, h.records, h.tags⟩, fun h => h.congr rfl rfl, fun h => ?_⟩
      have hlim : 1 ≤ b.toNat ∧ b.toNat ≤ 4 := by omega
      refine { h with limit := hlim, count := ?_ }
      have h0 : sessionCount { s with sessionLimit := b } = 0 := not_not.mp hc
      rw [h0]; exact Nat.zero_le _

end

end Sys2Proof.Machine
end

section
/-! SUPPORT. Management requests under the six laws: the reserved slot, positions and sessions (R117 to R126, R158). -/

namespace Sys2Proof.Machine

/-! ### Session numbers (R123) -/

section
variable {s : State}

theorem nextNumber_iterate {n : Byte} (h : n ≠ 0) (i : Nat) : (nextNumber^[i] n).toNat = (n.toNat - 1 + i) % 255 + 1 := by
  have hn : 1 ≤ n.toNat := Nat.one_le_iff_ne_zero.mpr fun e => h (BitVec.eq_of_toNat_eq e)
  induction i with
  | zero => have := n.isLt; simp only [Function.iterate_zero, id_eq]; omega
  | succ i ih =>
    rw [Function.iterate_succ_apply', nextNumber]
    split
    · rename_i e
      rw [e] at ih
      have h255 : (0xFF : Byte).toNat = 255 := rfl
      have h1 : (1 : Byte).toNat = 1 := rfl
      omega
    · rename_i e
      have hne : (nextNumber^[i] n).toNat ≠ 255 := fun g => e (BitVec.eq_of_toNat_eq g)
      have h1 : (1 : Byte).toNat = 1 := rfl
      rw [BitVec.toNat_add, ih, h1]
      rw [ih] at hne
      omega

theorem nextNumber_iterate_ne_zero {n : Byte} (h : n ≠ 0) (i : Nat) : nextNumber^[i] n ≠ 0 := fun e => by
  have := nextNumber_iterate h i
  rw [e] at this
  simp at this

theorem sessionHeld_iff (n : Byte) (s : State) :
    sessionHeld n s = true ↔ ∃ j : PosId, s.positions[j].state = .session ∧ s.positions[j].session = n := by
  simp [sessionHeld, toList_eq_map]

/-- Numbers that follow each other and are all held are no more than the positions in SESSION. -/
theorem held_le_sessionCount {n : Byte} {m : Nat} (h : n ≠ 0) (hm : m ≤ 255) (hh : ∀ i < m, sessionHeld (nextNumber^[i] n) s = true) :
    m ≤ sessionCount s := by
  set held := (s.positions.toList.filter fun q => decide (q.state = .session)).map (·.session) with hheld
  have hlen : held.length = sessionCount s := by rw [hheld, List.length_map, ← List.countP_eq_length_filter, sessionCount]
  have hnodup : ((List.range m).map fun i => nextNumber^[i] n).Nodup := by
    refine List.Nodup.map_on (fun i hi j hj hij => ?_) List.nodup_range
    have h1 := nextNumber_iterate h i
    have h2 := nextNumber_iterate h j
    have := n.isLt
    rw [hij] at h1
    rw [List.mem_range] at hi hj
    omega
  have hsub : (List.range m).map (fun i => nextNumber^[i] n) ⊆ held := fun x hx => by
    obtain ⟨i, hi, rfl⟩ := List.mem_map.mp hx
    obtain ⟨j, hj, hn⟩ := (sessionHeld_iff _ s).mp (hh i (List.mem_range.mp hi))
    refine List.mem_map.mpr ⟨s.positions[j], List.mem_filter.mpr ⟨?_, decide_eq_true hj⟩, hn⟩
    simp
  have hle := (hnodup.subperm hsub).length_le
  rwa [List.length_map, List.length_range, hlen] at hle

theorem giveNumber_first (s : State) (fuel : Nat) (n : Byte) : ∃ m ≤ fuel, giveNumber s fuel n = nextNumber^[m] n ∧
    (∀ i < m, sessionHeld (nextNumber^[i] n) s = true) ∧ (m < fuel → sessionHeld (nextNumber^[m] n) s = false) := by
  induction fuel generalizing n with
  | zero => exact ⟨0, le_rfl, rfl, fun i hi => absurd hi (Nat.not_lt_zero i), fun h => absurd h (Nat.lt_irrefl 0)⟩
  | succ fuel ih =>
    rw [giveNumber]
    split
    · rename_i hn
      obtain ⟨m, hm, he, hh, hf⟩ := ih (nextNumber n)
      refine ⟨m + 1, Nat.succ_le_succ hm, he, fun i hi => ?_, fun hlt => hf (Nat.lt_of_succ_lt_succ hlt)⟩
      cases i with
      | zero => exact hn
      | succ i => exact hh i (Nat.lt_of_succ_lt_succ hi)
    · rename_i hn
      exact ⟨0, Nat.zero_le _, rfl, fun i hi => absurd hi (Nat.not_lt_zero i), fun _ => by simpa using hn⟩

/-- The number an OPEN SESSION gives (R123): the first that no position in SESSION holds. -/
theorem newSession_first (h : s.nextSession ≠ 0) (hc : sessionCount s ≤ 4) : ∃ m ≤ sessionCount s, newSession s = nextNumber^[m] s.nextSession ∧
    (∀ i < m, sessionHeld (nextNumber^[i] s.nextSession) s = true) ∧ sessionHeld (nextNumber^[m] s.nextSession) s = false := by
  obtain ⟨m, hm, he, hh, hf⟩ := giveNumber_first s 8 s.nextSession
  have hle : m ≤ sessionCount s := held_le_sessionCount h (by omega) hh
  exact ⟨m, hle, he, hh, hf (by omega)⟩

end

/-! ### Positions -/

section
variable {s : State}

/-- A position that is outside SESSION afterwards, with session number 0 and without an entry (R116, R123, R135). -/
theorem PositionLaw.outside {k : PosId} {f : Position → Position} (h : PositionLaw s)
    (hr : (f s.positions[k]).reader = s.positions[k].reader) (hk : (f s.positions[k]).keypad = s.positions[k].keypad)
    (hst : (f s.positions[k]).state ≠ .session) (hse : (f s.positions[k]).session = 0)
    (he : (f s.positions[k]).entry.isSome = false) : PositionLaw (Machine.modPos k f s) where
  roles j u := by rw [modPos_field _ hr, modPos_field _ hk]; exact h.roles j u
  single i j u hi hj := h.single i j u (by simpa only [Assigned, modPos_field _ hr, modPos_field _ hk] using hi)
    (by simpa only [Assigned, modPos_field _ hr, modPos_field _ hk] using hj)
  limit := h.limit
  count := by
    refine le_trans ?_ h.count
    rw [sessionCount_modPos, if_neg hst]
    omega
  number j := by
    by_cases hj : j = k
    · subst hj; rw [modPos_self]; exact ⟨fun _ => hst, fun _ => hse⟩
    · rw [modPos_ne s hj]; exact h.number j
  distinct i j hi hj := by
    by_cases hik : i = k
    · subst hik; rw [modPos_self] at hi; exact absurd hi hst
    · by_cases hjk : j = k
      · subst hjk; rw [modPos_self] at hj; exact absurd hj hst
      · rw [modPos_ne s hik] at hi ⊢; rw [modPos_ne s hjk] at hj ⊢; exact h.distinct i j hi hj
  next := h.next
  entry j hj := by
    by_cases hjk : j = k
    · subst hjk; rw [modPos_self, he] at hj; exact Bool.noConfusion hj
    · rw [modPos_ne s hjk] at hj ⊢; exact h.entry j hj

theorem PositionLaw.no_entry (h : PositionLaw s) {k : PosId} (hk : s.positions[k].state ≠ .session) : s.positions[k].entry = none := by
  rw [← Option.not_isSome_iff_eq_none]; exact fun e => hk (h.entry k e)

theorem PositionLaw.no_number (h : PositionLaw s) {k : PosId} (hk : s.positions[k].state ≠ .session) : s.positions[k].session = 0 :=
  (h.number k).mpr hk

/-- A position enters SESSION with a number that no position in SESSION holds, below the session limit (R122, R123). -/
theorem PositionLaw.startSession {k : PosId} (h : PositionLaw s) (ho : s.positions[k].state ≠ .session)
    (hc : sessionCount s ≠ s.sessionLimit.toNat) : PositionLaw (Machine.startSession k s) := by
  have hlim := h.limit
  have hcnt := h.count
  obtain ⟨m, -, he, -, hfree⟩ := newSession_first h.next (by omega)
  have hn0 : newSession s ≠ 0 := by rw [he]; exact nextNumber_iterate_ne_zero h.next m
  have hfree : ∀ j : PosId, s.positions[j].state = .session → s.positions[j].session ≠ newSession s := fun j hj e => by
    rw [he] at e
    have := (sessionHeld_iff _ s).mpr ⟨j, hj, e⟩
    rw [hfree] at this
    cases this
  refine PositionLaw.refreshLamp ?_ k
  set f : Position → Position := fun q => { q with state := .session, session := newSession s }
  set t : State := Machine.modPos k f { s with nextSession := nextNumber (newSession s) } with ht
  have hk : t.positions[k] = f s.positions[k] := modPos_self _ _ _
  have hne : ∀ j : PosId, j ≠ k → t.positions[j] = s.positions[j] := fun j hj => modPos_ne _ hj _
  have hr : ∀ j : PosId, t.positions[j].reader = s.positions[j].reader := fun j => modPos_field (s := { s with nextSession := nextNumber (newSession s) }) _ rfl j
  have hp : ∀ j : PosId, t.positions[j].keypad = s.positions[j].keypad := fun j => modPos_field (s := { s with nextSession := nextNumber (newSession s) }) _ rfl j
  refine ⟨fun j u => ?_, fun i j u hi hj => h.single i j u ?_ ?_, hlim, ?_, fun j => ?_, fun i j hi hj hij => ?_, ?_, fun j hj => ?_⟩
  · rw [hr, hp]; exact h.roles j u
  · simpa only [Assigned, hr, hp] using hi
  · simpa only [Assigned, hr, hp] using hj
  · have : sessionCount t ≤ sessionCount s + 1 := sessionCount_modPos_le _ _ _
    show sessionCount t ≤ s.sessionLimit.toNat
    omega
  · by_cases hj : j = k
    · subst hj; rw [hk]; exact ⟨fun e => absurd e hn0, fun e => absurd rfl e⟩
    · rw [hne j hj]; exact h.number j
  · by_cases hik : i = k <;> by_cases hjk : j = k
    · rw [hik, hjk]
    · subst hik; rw [hk, hne j hjk] at hij; rw [hne j hjk] at hj; exact absurd hij.symm (hfree j hj)
    · subst hjk; rw [hk, hne i hik] at hij; rw [hne i hik] at hi; exact absurd hij (hfree i hi)
    · rw [hne i hik] at hi hij; rw [hne j hjk] at hj hij; exact h.distinct i j hi hj hij
  · show nextNumber (newSession s) ≠ 0
    exact nextNumber_iterate_ne_zero hn0 1
  · by_cases hjk : j = k
    · subst hjk; rw [hk]
    · rw [hne j hjk] at hj ⊢; exact h.entry j hj

end

section
variable {A : Prop} {n : Nat} {s : State}

/-- A request that has its slot reserved while its owner takes it, and fills it with its reply (R158). -/
theorem keeps_manage {tag : Byte} {take : State → State × Answer} (h : ∀ b, Keeps A 1 b (take b).1) : Keeps A 0 s (manage tag take s) := by
  unfold manage
  split
  · exact (keeps_countLink _).trans keeps_restartSilence
  · rename_i hs
    have hs : HasSlot s := not_not.mp fun g => hs ((freeSlots_eq_zero s).mpr g)
    refine Keeps.trans ?_ keeps_restartSilence
    have hk := h (reserveSlot s)
    generalize take (reserveSlot s) = r at hk ⊢
    refine ⟨fun g => (hk.notice (g.congr rfl rfl rfl)).congr rfl rfl rfl, fun g => (hk.lamp (g.congr rfl rfl)).congr rfl rfl,
      fun a g => hk.ports a g, fun g => ?_, fun g => (hk.route (g.congr rfl rfl)).congr rfl rfl,
      fun g => (hk.position (g.congr rfl rfl rfl)).congr rfl rfl rfl⟩
    have g1 : SlotLawWith 1 (reserveSlot s) := by
      refine ⟨hs, ?_, g.sending, g.records, g.tags⟩
      show s.reservations + 1 = heldReservations s + 1
      rw [g.held]
    have g2 := hk.slot g1
    have hfits := g2.fits
    have hheld := g2.held
    refine ⟨?_, ?_, fun _ => ?_, g2.records, g2.tags⟩
    · simp only [placeReserved, List.length_append, List.length_cons, List.length_nil]; omega
    · show r.1.reservations - 1 = heldReservations r.1 + 0
      omega
    · simp [placeReserved]

theorem keeps_withPosition {params : List Byte} {act : PosId → State → State × Answer} (h : ∀ k b, Keeps A n b (act k b).1) :
    Keeps A n s (withPosition params act s).1 := by
  obtain e | ⟨k, e⟩ := withPosition_cases params act s
  · rw [e]; exact .refl s
  · rw [e]; exact h k s

/-- A position that changes its state or its number and keeps its entry, its lamp following (R130). -/
theorem keeps_refresh {k : PosId} {f : Position → Position} (x : Byte)
    (hl : (f s.positions[k]).lamp = s.positions[k].lamp) (hd : (f s.positions[k]).lampLit = s.positions[k].lampLit)
    (he : (f s.positions[k]).entry = s.positions[k].entry)
    (hp : PositionLaw s → PositionLaw (refreshLamp k (modPos k f { s with nextSession := x }))) :
    Keeps A n s (refreshLamp k (modPos k f { s with nextSession := x })) where
  notice h := h.congr rfl rfl rfl
  lamp h := LampLaw.refresh (h.congr (t := { s with nextSession := x }) rfl rfl) hl hd
  ports _ h := h
  slot h := by
    have hh : heldReservations (refreshLamp k (modPos k f { s with nextSession := x })) = heldReservations s := by
      rw [heldReservations_refreshLamp]
      exact heldReservations_eq_of_entry (modPos_field (s := { s with nextSession := x }) (fun q => q.entry.isSome) (congrArg _ he)) rfl
    exact ⟨h.fits, by rw [hh]; exact h.held, h.sending, h.records, h.tags⟩
  route h := h.congr rfl rfl
  position := hp

theorem keeps_enterPosition {k : PosId} {st : PositionState} (hs : s.positions[k].state ≠ .session) (hst : st ≠ .session) :
    Keeps A n s (enterPosition k st s) :=
  keeps_refresh s.nextSession rfl rfl rfl fun h =>
    (h.outside (f := fun q => { q with state := st }) rfl rfl hst (h.no_number hs) (by rw [h.no_entry hs]; rfl)).refreshLamp k

theorem keeps_openThePosition (k : PosId) : Keeps A n s (openThePosition k s).1 := by
  unfold openThePosition
  split
  · exact .refl s
  · exact .refl s
  · rename_i hs
    split
    · exact .refl s
    · exact keeps_enterPosition (by rw [hs]; decide) (by decide)

theorem keeps_closeThePosition (k : PosId) : Keeps A n s (closeThePosition k s).1 := by
  unfold closeThePosition
  split
  · exact .refl s
  · exact .refl s
  · rename_i hs
    exact keeps_enterPosition (by rw [hs]; decide) (by decide)

theorem keeps_openTheSession (k : PosId) : Keeps A n s (openTheSession k s).1 := by
  unfold openTheSession
  split
  · exact .refl s
  · rename_i ho
    split
    · exact .refl s
    · rename_i hc
      exact keeps_refresh _ rfl rfl rfl fun h => h.startSession (by rw [not_not.mp ho]; decide) hc

/-! ### CLOSE SESSION (R124, R148) -/

theorem keeps_abandonDelivery (i : RecId) : Keeps A n s (abandonDelivery i s) := by
  unfold abandonDelivery
  split
  · exact keeps_withdrawQueued i
  · exact keeps_orphan i
  · exact keeps_orphan i
  · exact .refl s

theorem keeps_closeEntry (k : PosId) : Keeps A n s (closeEntry k s) := by
  unfold closeEntry
  split
  · exact .refl s
  · dsimp only
    split
    · exact (keeps_abandonDelivery _).trans (keeps_endEntry k _ _ _ _)
    · exact keeps_endEntry k _ _ _ _

/-- The end of an entry leaves its position without one (R146). -/
theorem endEntry_entry (k : PosId) (o : EntryOutcome) (c : EntryCause) (st : Byte) (d : List Byte) :
    (endEntry k o c st d s).positions[k].entry = none := by
  unfold endEntry
  split
  · rename_i h; exact h
  · rw [refreshLamp_field _ lit_entry, modPos_self]

theorem closeEntry_entry (k : PosId) : (closeEntry k s).positions[k].entry = none := by
  unfold closeEntry
  split
  · rename_i h; exact h
  · exact endEntry_entry k _ _ _ _

theorem keeps_closeTheSession (k : PosId) : Keeps A n s (closeTheSession k s).1 := by
  unfold closeTheSession
  split
  · exact .refl s
  · exact (keeps_closeEntry k).trans (keeps_refresh (closeEntry k s).nextSession rfl rfl rfl fun h =>
      (h.outside (f := fun q => { q with state := .open, session := 0 }) rfl rfl nofun rfl
        (by rw [closeEntry_entry]; rfl)).refreshLamp k)

theorem keeps_readThePosition (k : PosId) : Keeps A n s (readThePosition k s).1 := .unseen {}

/-! ### SET POSITION (R118, R119) -/

theorem keeps_askRoute (u : Option UnitId) : Keeps A n s (askRoute u s) := by
  unfold askRoute
  split
  · split
    · exact keeps_raiseNotice _
    · exact .refl s
  · exact .refl s

/-- The RT's answer about a named unit changes the notice set and WATTN only (R118). -/
theorem askRoute_frame (u : Option UnitId) (s : State) :
    askRoute u s = { s with notices := (askRoute u s).notices, wattn := (askRoute u s).wattn } := by
  unfold askRoute
  split
  · split
    · exact (raiseNotice_raised s _ fun _ => Notice.noConfusion).1
    · rfl
  · rfl

theorem askRoute_positions (u : Option UnitId) (s : State) : (askRoute u s).positions = s.positions := by rw [askRoute_frame]

/-- A unit that the PC finds at no other position is assigned to no other (R116, R118). -/
theorem assigned_of_not_elsewhere {u : UnitId} {j k : PosId} (h : PositionLaw s) (he : unitElsewhere (some u) k s = false)
    (hj : Assigned s.positions[j] u) : j = k := by
  rcases hj with hj | hj
  · simpa [unitElsewhere, assignment_reader s h hj] using he
  · simpa [unitElsewhere, assignment_keypad s h hj] using he

theorem decodeUnitsOfPosition_ne {a b : Byte} {r p : Option UnitId} (h : decodeUnitsOfPosition a b = some (r, p)) (u : UnitId) :
    ¬ (r = some u ∧ p = some u) := by
  unfold decodeUnitsOfPosition at h
  split at h
  · split_ifs at h with hn
    cases h
    rintro ⟨rfl, rfl⟩
    exact hn ⟨rfl, rfl⟩
  · cases h

/-- Both units of a position replaced by units that no other position has (R119). -/
theorem PositionLaw.assignUnits {k : PosId} {r p : Option UnitId} (h : PositionLaw s) (hne : ∀ u, ¬ (r = some u ∧ p = some u))
    (ho : ∀ u j, (r = some u ∨ p = some u) → Assigned s.positions[j] u → j = k) : PositionLaw (Machine.assignUnits k r p s) := by
  set f : Position → Position := fun q => { q with reader := r, keypad := p, card := .noCard }
  have hk : (Machine.assignUnits k r p s).positions[k] = f s.positions[k] := modPos_self _ _ _
  have hot : ∀ j : PosId, j ≠ k → (Machine.assignUnits k r p s).positions[j] = s.positions[j] := fun j hj => modPos_ne s hj f
  have hst : ∀ j : PosId, (Machine.assignUnits k r p s).positions[j].state = s.positions[j].state := modPos_field (f := f) _ rfl
  have hse : ∀ j : PosId, (Machine.assignUnits k r p s).positions[j].session = s.positions[j].session := modPos_field (f := f) _ rfl
  refine ⟨fun j u => ?_, fun i j u hi hj => ?_, h.limit, ?_, fun j => ?_, fun i j => ?_, h.next, fun j => ?_⟩
  · by_cases hj : j = k
    · subst hj; rw [hk]; exact hne u
    · rw [hot j hj]; exact h.roles j u
  · by_cases hik : i = k <;> by_cases hjk : j = k
    · rw [hik, hjk]
    · subst hik; rw [hk] at hi; rw [hot j hjk] at hj; exact (ho u j hi hj).symm
    · subst hjk; rw [hk] at hj; rw [hot i hik] at hi; exact ho u i hj hi
    · rw [hot i hik] at hi; rw [hot j hjk] at hj; exact h.single i j u hi hj
  · rw [sessionCount_eq_of_state hst]; exact h.count
  · rw [hse, hst]; exact h.number j
  · rw [hst, hst, hse, hse]; exact h.distinct i j
  · rw [hst, show (Machine.assignUnits k r p s).positions[j].entry = s.positions[j].entry from modPos_field (f := f) _ rfl j]
    exact h.entry j

theorem keeps_assignUnits {k : PosId} {r p : Option UnitId} (h : PositionLaw s → PositionLaw (assignUnits k r p s)) :
    Keeps A n s (assignUnits k r p s) where
  notice h := h.congr rfl rfl rfl
  lamp h := h.modPos rfl (fun _ => rfl) rfl rfl
  ports _ h := h
  slot h := ⟨h.fits, (heldReservations_eq_of_entry (t := assignUnits k r p s)
    (modPos_field (f := fun q => { q with reader := r, keypad := p, card := .noCard }) (fun q => q.entry.isSome) rfl) rfl).symm ▸ h.held,
    h.sending, h.records, h.tags⟩
  route h := h.congr rfl rfl
  position := h

theorem keeps_checkUnits {k : PosId} {r p : Option UnitId} (hne : ∀ u, ¬ (r = some u ∧ p = some u)) :
    Keeps A n s (checkUnits k r p s).1 := by
  have hask : Keeps A n s (askRoute p (askRoute r s)) := (keeps_askRoute r).trans (keeps_askRoute p)
  have hpos : (askRoute p (askRoute r s)).positions = s.positions := by rw [askRoute_positions, askRoute_positions]
  unfold checkUnits
  dsimp only
  split_ifs with _ _ _ he
  · exact hask
  · exact hask
  · exact hask
  · exact hask
  · refine hask.trans (keeps_assignUnits fun h => h.assignUnits hne fun u j hu hj => ?_)
    have h0 : PositionLaw s := h.congr hpos.symm (by rw [askRoute_frame p, askRoute_frame r]) (by rw [askRoute_frame p, askRoute_frame r])
    rw [hpos] at hj
    rw [not_or, Bool.not_eq_true, Bool.not_eq_true] at he
    obtain ⟨he1, he2⟩ := he
    rcases hu with rfl | rfl
    · exact assigned_of_not_elsewhere h0 he1 hj
    · exact assigned_of_not_elsewhere h0 he2 hj

theorem keeps_takeSetPosition (params : List Byte) : Keeps A n s (takeSetPosition params s).1 := by
  unfold takeSetPosition
  split
  · exact .refl s
  · split
    · exact .refl s
    · split
      · exact .refl s
      · rename_i hd
        split
        · exact .refl s
        · exact keeps_checkUnits (decodeUnitsOfPosition_ne hd)

/-! ### OPEN ENTRY and CANCEL ENTRY (R137, R138, R149) -/

theorem keeps_evaluateUnit (u : Option UnitId) : Keeps A n s (evaluateUnit u s) := by
  unfold evaluateUnit
  split
  · exact keeps_evaluate _
  · exact .refl s

theorem evaluateUnit_usable {u : Option UnitId} (h : unitUsable u s = true) : evaluateUnit u s = s := by
  unfold unitUsable at h
  unfold evaluateUnit
  split at h
  · simp only [evaluate, evaluationEffects, h, ↓reduceIte]
  · cases h

theorem keeps_startEntry {k : PosId} {r : EntryParams} {tag : Byte} {i : RecId} (hs : s.positions[k].state = .session)
    (he : s.positions[k].entry = none) (hf : HasSlot s) : Keeps A n s (startEntry k r tag i s) where
  notice h := h.congr rfl rfl rfl
  lamp h := LampLaw.refresh (s := reserveSlot (modRec i (fun x => { x with state := .reserved }) s)) (h.congr rfl rfl) rfl rfl
  ports _ h := h
  slot h := by
    have hh := heldReservations_modPos k (fun q => { q with entry := some (newEntry r tag i) })
      (reserveSlot (modRec i (fun x => { x with state := .reserved }) s))
    have h0 : heldReservations (reserveSlot (modRec i (fun x => { x with state := .reserved }) s)) = heldReservations s := rfl
    simp only [reserveSlot_positions, modRec_positions, he, Option.isSome, Bool.false_eq_true, ↓reduceIte, Nat.add_zero, h0] at hh
    refine ⟨hf, ?_, h.sending, h.records, h.tags⟩
    have hheld := h.held
    unfold startEntry
    rw [heldReservations_refreshLamp]
    show s.reservations + 1 = _
    omega
  route h := h.congr rfl rfl
  position h := PositionLaw.refreshLamp ((h.congr (t := reserveSlot (modRec i (fun x => { x with state := .reserved }) s)) rfl rfl rfl).modPos
    rfl rfl rfl rfl fun _ => hs) k

theorem keeps_admitEntry {k : PosId} {r : EntryParams} {tag : Byte} (hs : s.positions[k].state = .session)
    (he : s.positions[k].entry = none) : Keeps A n s (admitEntry k r tag s).1 := by
  unfold admitEntry
  split
  · exact .refl s
  · split
    · exact .refl s
    · rename_i hf
      exact keeps_startEntry hs he (not_not.mp fun g => hf ((freeSlots_eq_zero s).mpr g))

theorem keeps_checkEntry (k : PosId) (r : EntryParams) (tag : Byte) : Keeps A n s (checkEntry k r tag s).1 := by
  unfold checkEntry
  dsimp only
  split_ifs with hs he _ hu
  · exact .refl s
  · exact .refl s
  · exact .refl s
  · rw [Bool.and_eq_true] at hu
    obtain ⟨hk, hr⟩ := hu
    rw [evaluateUnit_usable hk, evaluateUnit_usable hr]
    exact keeps_admitEntry (not_not.mp hs) (by simpa using he)
  · exact (keeps_evaluateUnit _).trans (keeps_evaluateUnit _)

theorem keeps_takeOpenEntry (tag : Byte) (params : List Byte) : Keeps A n s (takeOpenEntry tag params s).1 := by
  unfold takeOpenEntry
  split
  · exact .refl s
  · split
    · exact .refl s
    · exact keeps_checkEntry _ _ _

theorem keeps_cancelTheEntry (k : PosId) : Keeps A n s (cancelTheEntry k s).1 := by
  unfold cancelTheEntry
  split
  · exact .refl s
  · split
    · exact .refl s
    · split_ifs
      · exact keeps_endEntry k _ _ _ _
      · exact (keeps_withdrawQueued _).trans (keeps_endEntry k _ _ _ _)
      · exact .refl s

end

end Sys2Proof.Machine
end

section
/-! SUPPORT. The six laws under port requests, group requests, counter restarts and resets, and of every command. -/

namespace Sys2Proof.Machine

/-! ### SET PORT, RESET PORT, ABORT PORT and SET PASS (R43 to R46, R72, R114) -/

theorem modPort_modPort (p : PortId) (f g : Port → Port) (s : State) :
    modPort p g (modPort p f s) = modPort p (fun q => g (f q)) s := by
  simp only [modPort, Fin.getElem_fin, Vector.getElem_set_self, Vector.set_set]

theorem decodeField_some {α : Type} {f : Byte → Option α} {o : Option Byte} {x : α} (h : decodeField f o = some (some x)) :
    ∃ b, o = some b ∧ f b = some x := by
  cases o with
  | none => simp [decodeField] at h
  | some b => exact ⟨b, rfl, by simpa [decodeField] using h⟩

theorem settingsFit_of_decodePort {r : PortParams} {w : PortWrite} (h : decodePort r = some w) : SettingsFit w := by
  unfold decodePort at h
  split at h
  · cases h
  · simp only [Option.bind_eq_bind, Option.bind_eq_some_iff] at h
    obtain ⟨p, -, rate, -, charLen, -, duplex, -, allowance, ha, replyLimit, hl, retryLimit, hr, group, -, power, -, hw⟩ := h
    obtain rfl := Option.some.inj hw
    refine ⟨fun b hb => ?_, fun b hb => ?_, fun b hb => ?_⟩
    · obtain rfl : allowance = some b := hb
      obtain ⟨c, -, hc⟩ := decodeField_some ha
      unfold decodeAllowance at hc
      split_ifs at hc with hle
      cases hc; exact hle
    · obtain rfl : replyLimit = some b := hb
      obtain ⟨c, -, hc⟩ := decodeField_some hl
      unfold decodeReplyLimit at hc
      split_ifs at hc with hle
      cases hc; exact hle
    · obtain rfl : retryLimit = some b := hb
      obtain ⟨c, -, hc⟩ := decodeField_some hr
      unfold decodeRetryLimit at hc
      split_ifs at hc with hle
      cases hc; exact hle

/-- The settings stored, the power setting being left as it was. -/
def storedBase (w : PortWrite) (q : Port) : Port :=
  { storeSettings w q with config := { writeConfig w q.config with power := q.config.power } }

theorem storeSettings_eq (w : PortWrite) (q : Port) : storeSettings w q = { storedBase w q with config := writeConfig w q.config } := by
  unfold storedBase storeSettings
  split <;> rfl

theorem isHunting_emptied (a : Assembler) : isHunting (emptied a) = true := by cases a <;> rfl

theorem PortLaw.storedBase {w : PortWrite} {q : Port} (h : PortLaw q) (hw : SettingsFit w) : PortLaw (storedBase w q) := by
  obtain ⟨hwa, hwl, hwr⟩ := hw
  have ha : (w.allowance.getD q.config.allowance).toNat ≤ 250 := by
    cases e : w.allowance with
    | none => exact h.allowance
    | some b => exact hwa b e
  have hl : 16 ≤ (w.replyLimit.getD q.config.replyLimit).toNat ∧ (w.replyLimit.getD q.config.replyLimit).toNat ≤ 64 := by
    cases e : w.replyLimit with
    | none => exact h.replyLimit
    | some b => exact hwl b e
  have hr : (w.retryLimit.getD q.config.retryLimit).toNat ≤ 3 := by
    cases e : w.retryLimit with
    | none => exact h.retryLimit
    | some b => exact hwr b e
  unfold Machine.storedBase storeSettings
  split
  · exact { h with
      allowance := ha, replyLimit := hl, retryLimit := hr
      gap := by simp [isHunting_emptied], receiver := fun e => by rw [isHunting_emptied] at e; cases e }
  · exact { h with allowance := ha, replyLimit := hl, retryLimit := hr }

theorem storeSettings_state (w : PortWrite) (q : Port) : (storeSettings w q).state = q.state := by
  unfold storeSettings; split <;> rfl

/-- A SET PORT that leaves the power setting as it stands. -/
theorem PortLaw.storeSettings {w : PortWrite} {q : Port} (h : PortLaw q) (hw : SettingsFit w)
    (hp : w.power.getD q.config.power = q.config.power) : PortLaw (storeSettings w q) := by
  have hc : writeConfig w q.config = { writeConfig w q.config with power := q.config.power } := by
    conv_lhs => rw [writeConfig, hp]
    rfl
  rw [storeSettings_eq, hc]
  exact h.storedBase hw

theorem PortLaw.switchedOff {w : PortWrite} {q : Port} (h : PortLaw q) (hw : SettingsFit w) (hp : w.power = some false) :
    PortLaw (switchOff (Machine.storeSettings w q)) := by
  rw [storeSettings_eq]
  exact (h.storedBase hw).of_rest rfl rfl rfl rfl ⟨rfl, rfl, rfl⟩ (by simp [switchOff, endPulse, stopLine, writeConfig, hp]) (by simp [switchOff])
    (by simp [switchOff]) rfl nofun (by simp [switchOff, endPulse, stopLine]) (by simp [switchOff, endPulse, stopLine]) nofun
    fun _ => rfl

theorem PortLaw.switchedOn {w : PortWrite} {q : Port} (h : PortLaw q) (hw : SettingsFit w) (hp : w.power = some true) :
    PortLaw (switchOn (Machine.storeSettings w q)) := by
  have hb := h.storedBase hw
  have hst : (Machine.storedBase w q).state = q.state := storeSettings_state w q
  have rest : q.state = .off ∨ q.state = .fault → ∀ fails : Nat, PortLaw (Machine.enterEmpty { Machine.storedBase w q with
      config := writeConfig w q.config, supply := true, cause := .none, failures := fails }) := by
    intro hq fails
    have hi : (Machine.storedBase w q).state ≠ .identifying := by rw [hst]; rcases hq with e | e <;> rw [e] <;> decide
    have hd : (Machine.storedBase w q).state ≠ .ready := by rw [hst]; rcases hq with e | e <;> rw [e] <;> decide
    have hse : (Machine.storedBase w q).state ≠ .settling := by rw [hst]; rcases hq with e | e <;> rw [e] <;> decide
    obtain ⟨h1, h2, h3⟩ := hb.at_rest hi hd
    exact hb.enterEmpty h1 h2 h3 rfl ⟨rfl, rfl, rfl⟩ (by simp [writeConfig, hp]) rfl rfl
      (by rw [hb.resetLine, hb.pulse_none hse]; rfl) (hb.pulse_none hse) (hb.settle_none hse) (hb.identify_none hi)
  unfold switchOn
  rw [storeSettings_state]
  split_ifs with ho hf
  · have hc : (Machine.storedBase w q).cause = .none := hb.cause_none (by rw [hst, ho]; decide)
    have hr := rest (.inl ho) (Machine.storedBase w q).failures
    rw [← hc] at hr
    rw [storeSettings_eq]
    exact hr
  · rw [storeSettings_eq]
    exact rest (.inr hf) 0
  · refine h.storeSettings hw ?_
    rw [hp, h.power_on ho]; rfl

section
variable {A : Prop} {n : Nat} {s : State}

theorem keeps_applyPower {w : PortWrite} (hw : SettingsFit w) :
    Keeps A n s (applyPower w (modPort w.port (storeSettings w) s)) := by
  unfold applyPower
  split
  · rename_i hp
    unfold powerOff
    split
    · rename_i ho
      refine keeps_modPort fun _ h => h.storeSettings hw ?_
      rw [modPort_self, storeSettings_state] at ho
      rw [hp, h.power.mp ho]; rfl
    · rw [modPort_modPort]
      have hf : Keeps A n s (modPort w.port (fun q => switchOff (storeSettings w q)) s) :=
        keeps_modPort fun _ h => h.switchedOff hw hp
      exact hf.trans (keeps_departIf _ _ _)
  · rename_i hp
    rw [modPort_modPort]
    exact keeps_modPort fun _ h => h.switchedOn hw hp
  · rename_i hp
    exact keeps_modPort fun _ h => h.storeSettings hw (by rw [hp]; rfl)

theorem keeps_takeSetPort (params : List Byte) : Keeps A n s (takeSetPort params s).1 := by
  unfold takeSetPort
  split
  · exact .refl s
  · split
    · exact .refl s
    · rename_i hd
      split
      · exact .refl s
      · exact keeps_applyPower (settingsFit_of_decodePort hd)

theorem PortLaw.startPulse {q : Port} (h : PortLaw q) (ho : q.state ≠ .off) (hf : q.state ≠ .fault) : PortLaw (startPulse q) :=
  h.of_rest rfl rfl rfl rfl ⟨rfl, rfl, rfl⟩ (by simp [Machine.startPulse, stopLine, h.power_on ho])
    (by simp [Machine.startPulse, stopLine, h.supply_on ho hf, h.cause_none hf]) (by simp [Machine.startPulse, stopLine, h.cause_none hf])
    rfl (fun _ => rfl) (by simp [Machine.startPulse, stopLine]) (by simp [Machine.startPulse, stopLine]) nofun nofun

theorem keeps_resetThePort {p : PortId} (ho : s.ports[p].state ≠ .off) (hf : s.ports[p].state ≠ .fault) :
    Keeps A n s (resetThePort p s) :=
  (keeps_modPort fun _ h => h.startPulse ho hf).trans (keeps_departIf _ p _)

theorem keeps_takeResetPort (params : List Byte) : Keeps A n s (takeResetPort params s).1 := by
  unfold takeResetPort
  split
  · exact .refl s
  · split
    · exact .refl s
    · split
      · exact .refl s
      · rename_i h
        rw [not_or] at h
        exact keeps_resetThePort h.1 h.2

theorem keeps_abortQueue (p : PortId) : Keeps A n s (abortQueue p s) :=
  (keeps_modPort fun _ h => h.congr rfl rfl rfl rfl rfl rfl rfl rfl rfl rfl rfl id le_rfl).trans
    (Keeps.foldl (fun _ i => keeps_endExchange i .aborted 0 []) _ _)

theorem keeps_takeAbortPort (params : List Byte) : Keeps A n s (takeAbortPort params s).1 := by
  unfold takeAbortPort
  split
  · exact .refl s
  · split
    · exact .refl s
    · exact keeps_abortQueue _

theorem keeps_takeSetPass (params : List Byte) : Keeps A n s (takeSetPass params s).1 := by
  unfold takeSetPass
  split
  · exact .refl s
  · split
    · exact .refl s
    · rename_i p set _
      have hf : Keeps A n s (modPort p (fun q => { q with passSet := set }) s) :=
        keeps_modPort fun _ h => h.congr rfl rfl rfl rfl rfl rfl rfl rfl rfl rfl rfl id le_rfl
      exact hf

/-! ### Reads, settings and notices -/

theorem keeps_takeReadRoute (params : List Byte) : Keeps A n s (takeReadRoute params s).1 := by
  unfold takeReadRoute
  split
  · exact .refl s
  · split <;> exact .refl s

theorem keeps_takeReadPort (params : List Byte) : Keeps A n s (takeReadPort params s).1 := by
  unfold takeReadPort
  split
  · exact .refl s
  · split <;> exact .refl s

theorem keeps_takeReadGroup (params : List Byte) : Keeps A n s (takeReadGroup params s).1 := by
  unfold takeReadGroup
  split
  · exact .refl s
  · split <;> exact .refl s

theorem keeps_takeReadStatus (params : List Byte) : Keeps A n s (takeReadStatus params s).1 := by
  unfold takeReadStatus
  split <;> exact .refl s

theorem keeps_clearCounters (sel : CounterSelection) : Keeps A n s (clearCounters sel s) := by
  cases sel with
  | port p =>
    have hf : Keeps A n s (modPort p (fun q => { q with counters := coldPortCounters }) s) := keeps_modPort fun _ h => h.congr rfl rfl rfl rfl rfl rfl rfl rfl rfl rfl rfl id le_rfl
    exact hf
  | link => exact .unseen {}

theorem keeps_takeReadCounters (params : List Byte) : Keeps A n s (takeReadCounters params s).1 := by
  unfold takeReadCounters
  split
  · exact .refl s
  · split
    · dsimp only
      split
      · exact keeps_clearCounters _
      · exact .refl s
    · exact .refl s

theorem keeps_takeSetGroup (params : List Byte) : Keeps A n s (takeSetGroup params s).1 := by
  unfold takeSetGroup
  split
  · exact .refl s
  · split
    · exact .refl s
    · rename_i w _
      exact keeps_modGroup w.group fun e => writeCount w (writeMembers w e)

theorem keeps_takeSetLine (params : List Byte) : Keeps A n s (takeSetLine params s).1 := by
  unfold takeSetLine
  split
  · exact .refl s
  · split
    · exact .refl s
    · exact keeps_applyLine _

theorem keeps_takeTakeNotice (params : List Byte) : Keeps A n s (takeTakeNotice params s).1 := by
  unfold takeTakeNotice
  split
  · exact .refl s
  · exact keeps_takeTheNotice

end

end Sys2Proof.Machine
end

section
/-! SUPPORT. The six laws under group requests, counter restarts and resets, and what every command keeps. -/

namespace Sys2Proof.Machine

section
variable {A : Prop} {n : Nat} {s : State}

/-! ### UNIT REQUEST and GROUP REQUEST (R56, R57, R93, R94) -/

theorem keeps_acceptExchange (u : UnitId) (p : PortId) (tag : Byte) (group : Option Byte) (command : Byte) (data : List Byte) :
    Keeps A n s (acceptExchange u p tag group command data s) := by
  unfold acceptExchange
  split
  · exact .refl s
  · exact (keeps_modRec _ _).trans (keeps_modPort fun _ h => h.congr rfl rfl rfl rfl rfl rfl rfl rfl rfl rfl rfl id le_rfl)

theorem keeps_admitUnit (u : UnitId) (p : PortId) (tag command : Byte) (data : List Byte) :
    Keeps A n s (admitUnit u p tag command data s) := by
  unfold admitUnit
  split_ifs
  · exact keeps_refuse _ _
  · exact keeps_refuse _ _
  · exact keeps_refuse _ _
  · exact keeps_acceptExchange _ _ _ _ _ _

theorem keeps_takeUnitRequest (unit tag : Byte) (payload : List Byte) : Keeps A n s (takeUnitRequest unit tag payload s) := by
  unfold takeUnitRequest
  split
  · exact keeps_refuse _ _
  · split_ifs
    · exact keeps_refuse _ _
    · exact keeps_refuse _ _
    · split
      · exact keeps_refuse _ _
      · split
        · exact keeps_admitUnit _ _ _ _ _
        · exact (keeps_evaluationEffects _ _).trans (keeps_refuse _ _)

theorem keeps_issueMembers (members : List (UnitId × PortId)) (tag command : Byte) (data : List Byte) :
    Keeps A n s (issueMembers members tag command data s) :=
  Keeps.foldl (fun _ (m : UnitId × PortId) => keeps_acceptExchange m.1 m.2 tag (some tag) command data) _ _

theorem acceptExchange_frame (u : UnitId) (p : PortId) (tag : Byte) (group : Option Byte) (command : Byte) (data : List Byte) (s : State) :
    acceptExchange u p tag group command data s = { s with
      ports := (acceptExchange u p tag group command data s).ports, pool := (acceptExchange u p tag group command data s).pool } := by
  unfold acceptExchange
  split <;> rfl

/-- Members issued change queues and records only (R94). -/
theorem issueMembers_frame (members : List (UnitId × PortId)) (tag command : Byte) (data : List Byte) (s : State) :
    issueMembers members tag command data s = { s with
      ports := (issueMembers members tag command data s).ports, pool := (issueMembers members tag command data s).pool } := by
  induction members generalizing s with
  | nil => rfl
  | cons m l ih =>
    show issueMembers l tag command data (acceptExchange m.1 m.2 tag (some tag) command data s) = _
    have hm := ih (acceptExchange m.1 m.2 tag (some tag) command data s)
    obtain ⟨x, y, hx⟩ : ∃ x y, acceptExchange m.1 m.2 tag (some tag) command data s = { s with ports := x, pool := y } :=
      ⟨_, _, acceptExchange_frame ..⟩
    have hl : issueMembers (m :: l) tag command data s =
        issueMembers l tag command data (acceptExchange m.1 m.2 tag (some tag) command data s) := rfl
    rw [hl]
    rw [hx] at hm ⊢
    exact hm

/-- A group record opened, its slot being reserved or its GROUP END placed at once (R91, R92, R94). -/
theorem keeps_endAtAcceptance {r : GroupRecord} (hs : HasSlot s) (hr : r.endQueued = false) (hl : s.groupRecords.length < 4)
    (ht : ∀ g ∈ s.groupRecords, g.tag ≠ r.tag) : Keeps A n s (endAtAcceptance r (reserveSlot s)) := by
  have tags : ∀ e : Bool, (s.groupRecords.map (·.tag)).Nodup →
      ((s.groupRecords ++ [({ r with endQueued := e } : GroupRecord)]).map (·.tag)).Nodup := fun e h => by
    rw [List.map_append, List.nodup_append]
    refine ⟨h, List.nodup_singleton _, fun a ha b hb => ?_⟩
    obtain ⟨g, hg, rfl⟩ := List.mem_map.mp ha
    obtain rfl : b = r.tag := by simpa using hb
    exact ht g hg
  have records : ∀ e : Bool, (s.groupRecords ++ [({ r with endQueued := e } : GroupRecord)]).length ≤ 4 := fun e => by
    rw [List.length_append, List.length_singleton]; exact hl
  unfold endAtAcceptance
  split
  · refine keeps_groupRecords rfl fun h => ⟨?_, ?_, fun _ => ?_, records true, tags true h.tags⟩
    · have hfit : s.control.length + s.reservations < 16 := hs
      simp only [placeReserved, reserveSlot, List.length_append, List.length_singleton]; omega
    · have hheld := h.held
      simp only [heldReservations] at hheld ⊢
      simp only [placeReserved, reserveSlot, List.countP_append, List.countP_singleton, Bool.not_true, Bool.false_eq_true, ↓reduceIte]
      omega
    · simp [placeReserved]
  · have hr' : ({ r with endQueued := false } : GroupRecord) = r := by rw [← hr]
    refine keeps_groupRecords rfl fun h => ⟨hs, ?_, h.sending, hr' ▸ records false, hr' ▸ tags false h.tags⟩
    have hheld := h.held
    simp only [heldReservations] at hheld ⊢
    simp only [reserveSlot, List.countP_append, List.countP_singleton, hr, Bool.not_false, ↓reduceIte]
    omega

theorem acceptExchange_reserve (u : UnitId) (p : PortId) (tag : Byte) (group : Option Byte) (command : Byte) (data : List Byte) (s : State) :
    acceptExchange u p tag group command data (reserveSlot s) = reserveSlot (acceptExchange u p tag group command data s) := by
  unfold acceptExchange
  rw [show firstFree (reserveSlot s) = firstFree s from rfl]
  split <;> rfl

theorem issueMembers_reserve (members : List (UnitId × PortId)) (tag command : Byte) (data : List Byte) (s : State) :
    issueMembers members tag command data (reserveSlot s) = reserveSlot (issueMembers members tag command data s) := by
  induction members generalizing s with
  | nil => rfl
  | cons m l ih =>
    show issueMembers l tag command data (acceptExchange m.1 m.2 tag (some tag) command data (reserveSlot s)) = _
    rw [acceptExchange_reserve, ih]
    rfl

theorem keeps_acceptGroup {g : GroupId} {e : GroupEntry} {members : List (UnitId × PortId)} {tag command : Byte} {data : List Byte}
    (hs : HasSlot s) (hl : s.groupRecords.length < 4) (ht : ∀ r ∈ s.groupRecords, r.tag ≠ tag) :
    Keeps A n s (acceptGroup g e members tag command data s) := by
  unfold acceptGroup
  rw [issueMembers_reserve]
  refine (keeps_issueMembers members tag command data).trans ?_
  refine keeps_endAtAcceptance ?_ rfl ?_ ?_ <;> rw [issueMembers_frame]
  · exact hs
  · exact hl
  · exact ht

theorem keeps_admitGroup {g : GroupId} {e : GroupEntry} {members : List (UnitId × PortId)} {tag command : Byte} {data : List Byte}
    (hl : s.groupRecords.length < 4) (ht : ∀ r ∈ s.groupRecords, r.tag ≠ tag) :
    Keeps A n s (admitGroup g e members tag command data s) := by
  unfold admitGroup
  split_ifs with _ _ _ hs
  · exact keeps_refuse _ _
  · exact keeps_refuse _ _
  · exact keeps_refuse _ _
  · exact keeps_refuse _ _
  · exact keeps_acceptGroup (not_not.mp fun h => hs ((freeSlots_eq_zero s).mpr h)) hl ht

theorem keeps_evaluateMembers (e : GroupEntry) : Keeps A n s (evaluateMembers e s) :=
  Keeps.foldl (fun _ u => keeps_evaluate u) _ _

theorem keeps_checkGroup {g : GroupId} {e : GroupEntry} {tag command : Byte} {data : List Byte}
    (ht : ∀ r ∈ s.groupRecords, r.tag ≠ tag) : Keeps A n s (checkGroup g e tag command data s) := by
  unfold checkGroup
  split_ifs with _ _ hl
  · exact keeps_refuse _ _
  · exact (keeps_raiseNotice _).trans (keeps_refuse _ _)
  · exact keeps_refuse _ _
  · have hg : (evaluateMembers e s).groupRecords = s.groupRecords := by
      obtain ⟨no, wa, co, re, po, ps, h⟩ := foldl_evaluate_frame (s := s) (ascendingMembers e)
      rw [evaluateMembers, h]
    refine (keeps_evaluateMembers e).trans (keeps_admitGroup ?_ ?_)
    · rw [hg]; exact not_le.mp hl
    · rw [hg]; exact ht

theorem keeps_takeGroupRequest (unit tag : Byte) (payload : List Byte) : Keeps A n s (takeGroupRequest unit tag payload s) := by
  unfold takeGroupRequest
  split
  · exact keeps_refuse _ _
  · split_ifs with _ ht
    · exact keeps_refuse _ _
    · exact keeps_refuse _ _
    · split
      · exact keeps_refuse _ _
      · refine keeps_checkGroup fun r hr => ?_
        obtain ⟨-, hf⟩ := (tagTaken_eq_false s tag).mp (by simpa using ht)
        exact hf r hr

/-! ### Counter restart (R134, R151, R167, R180) -/

theorem keeps_restartRecord (i : RecId) : Keeps A n s (restartRecord i s) := by
  unfold restartRecord
  split
  · exact keeps_freeRecord i
  · exact keeps_freeRecord i
  · split
    · exact .refl s
    · exact keeps_freeRecord i
  · exact keeps_orphan i
  · exact keeps_orphan i
  · exact .refl s
  · exact .refl s

theorem keeps_restartPort (p : PortId) : Keeps A n s (restartPort p s) := by
  refine keeps_modPort fun _ h => h.congr rfl rfl rfl rfl rfl rfl rfl rfl rfl rfl rfl id ?_
  dsimp only
  split
  · exact (List.take_sublist 1 _).countP_le
  · exact Nat.zero_le _

end

/-- A fold over all the numbers of an operation that changes its own part only, and that as a function of what stood there, as long as
`P` holds. -/
theorem get_foldl_finRange {m : Nat} {α : Type} {P : State → Prop} (get : State → Fin m → α) {f : State → Fin m → State}
    (g : Fin m → α → α) (hP : ∀ t i, P t → P (f t i)) (hself : ∀ t i, P t → get (f t i) i = g i (get t i))
    (hne : ∀ t i j, P t → j ≠ i → get (f t i) j = get t j) {s : State} (hs : P s) (j : Fin m) :
    get ((List.finRange m).foldl f s) j = g j (get s j) := by
  have general : ∀ (l : List (Fin m)) (t : State), P t → l.Nodup →
      get (l.foldl f t) j = if j ∈ l then g j (get t j) else get t j := by
    intro l
    induction l with
    | nil => intro t _ _; simp
    | cons i l ih =>
      intro t ht hn
      obtain ⟨hi, hl⟩ := List.nodup_cons.mp hn
      rw [List.foldl_cons, ih _ (hP t i ht) hl]
      by_cases hj : j = i
      · subst hj; rw [if_neg hi, if_pos List.mem_cons_self, hself t j ht]
      · rw [hne t i j ht hj]; simp [hj]
  rw [general _ s hs (List.nodup_finRange m), if_pos (List.mem_finRange j)]

section
variable {A : Prop} {n : Nat} {s : State}

/-- A position at a counter restart, where a CALL of it is in the notice set or not (R134). -/
def restartedPosition (called : Bool) (q : Position) : Position :=
  lit (lampFor (closeForRestart q).state called false) (closeForRestart q)

theorem restartPosition_self (k : PosId) (s : State) :
    (restartPosition k s).positions[k] = restartedPosition (decide (Notice.call k ∈ s.notices)) s.positions[k] := by
  have hc : isCollecting (closeForRestart s.positions[k]).entry = false := by unfold closeForRestart; split <;> rfl
  rw [restartPosition, refreshLamp, modPos_self, setLamp_eq, lampMode, modPos_self, hc]
  rfl

/-- All eight positions at a counter restart (R134, R151). -/
def restartPositions (s : State) : State := (List.finRange 8).foldl (fun t k => restartPosition k t) s

theorem restartPositions_frame (s : State) : restartPositions s = { s with positions := (restartPositions s).positions } := by
  have general : ∀ (l : List PosId) (t : State), ∃ x, l.foldl (fun t k => restartPosition k t) t = { t with positions := x } := by
    intro l
    induction l with
    | nil => exact fun t => ⟨t.positions, rfl⟩
    | cons k l ih => exact fun t => ih (restartPosition k t)
  obtain ⟨x, hx⟩ := general (List.finRange 8) s
  rw [restartPositions, hx]

theorem restartPositions_self (s : State) (k : PosId) :
    (restartPositions s).positions[k] = restartedPosition (decide (Notice.call k ∈ s.notices)) s.positions[k] :=
  get_foldl_finRange (P := fun t => t.notices = s.notices) (get := fun t j => t.positions[j]) (f := fun t k => restartPosition k t)
    (g := fun j q => restartedPosition (decide (Notice.call j ∈ s.notices)) q) (hP := fun _ _ h => h)
    (hself := fun t j h => by rw [restartPosition_self, h])
    (hne := fun t i j _ hj => by rw [restartPosition, refreshLamp, modPos_ne _ hj, modPos_ne _ hj]) (s := s) (hs := rfl) (j := k)

theorem LampLaw.restartPositions (h : LampLaw s) : LampLaw (restartPositions s) :=
  List.foldlRecOn (motive := LampLaw) _ _ h fun t ht k _ => by
    refine ht.refresh ?_ ?_ <;> (unfold closeForRestart; split <;> rfl)

theorem PositionLaw.restartPositions (h : PositionLaw s) : PositionLaw (restartPositions s) :=
  List.foldlRecOn (motive := PositionLaw) _ _ h fun t ht k _ => by
    refine PositionLaw.refreshLamp ?_ k
    by_cases hs : t.positions[k].state = .session
    · have hq : closeForRestart t.positions[k] = { t.positions[k] with state := .open, session := 0, entry := none } := if_pos hs
      exact ht.outside (by rw [hq]) (by rw [hq]) (by rw [hq]; nofun) (by rw [hq]) (by rw [hq]; rfl)
    · have hq : closeForRestart t.positions[k] = { t.positions[k] with entry := none } := if_neg hs
      exact ht.outside (by rw [hq]) (by rw [hq]) (by rw [hq]; exact hs) (by rw [hq]; exact ht.no_number hs) (by rw [hq]; rfl)

theorem lit_entry_none (b : Bool) (q : Position) : (restartedPosition b q).entry = none := by
  rw [restartedPosition, lit_entry]; unfold closeForRestart; split <;> rfl

theorem keeps_counterRestart (hn : n ≤ 15) : Keeps A n s (counterRestart n s) := by
  obtain ⟨s2, hk, he⟩ : ∃ s2, Keeps A n s s2 ∧ counterRestart n s = { restartPositions s2 with
      control := controlInFlight (restartPositions s2), reservations := n, groupRecords := [] } :=
    ⟨_, (Keeps.foldl (fun _ i => keeps_restartRecord i) _ _).trans (Keeps.foldl (fun _ p => keeps_restartPort p) _ _), rfl⟩
  refine hk.trans ?_
  rw [he]
  have hf := restartPositions_frame s2
  have hlamp : LampLaw s2 → LampLaw (restartPositions s2) := fun h => h.restartPositions
  have hpos : PositionLaw s2 → PositionLaw (restartPositions s2) := fun h => h.restartPositions
  have hentry : ∀ k : PosId, (restartPositions s2).positions[k].entry = none := fun k => by
    rw [restartPositions_self, lit_entry_none]
  generalize restartPositions s2 = r at hf hlamp hpos hentry
  refine ⟨fun h => ?_, fun h => (hlamp h).congr rfl rfl, fun _ h => ?_, fun h => ?_, fun h => ?_, fun h => (hpos h).congr rfl rfl rfl⟩
  · rw [hf]; exact h.congr rfl rfl rfl
  · rw [hf]; exact h
  · have hc : controlInFlight r = controlInFlight s2 := by rw [hf]; rfl
    have hw : controlSending r = controlSending s2 := by rw [hf]; rfl
    refine ⟨?_, ?_, fun hs => ?_, Nat.zero_le _, List.nodup_nil⟩
    · have : (controlInFlight s2).length ≤ 1 := by
        unfold controlInFlight; split
        · exact List.length_take_le 1 _
        · exact Nat.zero_le _
      simp only [hc]; omega
    · have h0 : r.positions.toList.countP (fun q => q.entry.isSome) = 0 := by
        rw [toList_eq_map, List.countP_map, List.countP_eq_zero]
        intro k _
        rw [Function.comp_apply, hentry]
        decide
      simp only [heldReservations, h0, List.countP_nil, Nat.zero_add]
    · have hs2 : controlSending s2 = true := hw ▸ hs
      have hne := h.sending hs2
      have hi : controlInFlight s2 = s2.control.take 1 := if_pos hs2
      rw [hc, hi]
      exact fun e => hne (by simpa using e)
  · rw [hf]; exact h.congr rfl rfl

theorem keeps_takeRestart (params : List Byte) : Keeps A 1 s (takeRestart params s).1 := by
  unfold takeRestart
  split
  · exact .refl s
  · split
    · exact keeps_counterRestart (by decide)
    · exact .refl s

theorem keeps_standDown : Keeps A 0 s (standDown s) := by
  have stopped : ∀ t : State, Keeps A 0 t { t with silence := none } := fun _ => .unseen {}
  exact ((keeps_counterRestart (Nat.zero_le _)).trans (stopped _)).trans (keeps_raiseNotice _)

end

/-! ### Cold reset and RESTART ALL (R168, R181) -/

section
variable (rate : LineRate) (wready : Bool) (present : Vector Bool 12) (tx : Transmitter) (cause : StartCause) (pending : List Instr) (draws : Nat)

theorem cold_port (p : PortId) : (State.cold rate wready present tx cause pending draws).ports[p] = coldPort present[p] := by
  simp [State.cold]

theorem cold_pool (i : RecId) : (State.cold rate wready present tx cause pending draws).pool[i] = freeExchange := by
  simp [State.cold]

theorem cold_position (k : PosId) : (State.cold rate wready present tx cause pending draws).positions[k] = coldPosition := by
  simp [State.cold]

theorem cold_route (u : UnitId) : (State.cold rate wready present tx cause pending draws).routes[u] = coldRoute := by
  simp [State.cold]

theorem cold_owner (p : PortId) : (State.cold rate wready present tx cause pending draws).owners[p] = none := by
  simp [State.cold]

theorem noticeLaw_cold : NoticeLaw (State.cold rate wready present tx cause pending draws) :=
  ⟨List.Pairwise.nil, by simp [State.cold]⟩

theorem lampLaw_cold : LampLaw (State.cold rate wready present tx cause pending draws) := by
  refine ⟨fun k => ?_, fun k => ?_⟩
  · rw [tableLamp, cold_position]; rfl
  · rw [cold_position]; decide

theorem portLaw_coldPort (b : Bool) : PortLaw (coldPort b) := by
  cases b <;> constructor <;> decide

theorem portsLaw_cold : PortsLaw (State.cold rate wready present tx cause pending draws) := fun p => by
  rw [cold_port]; exact portLaw_coldPort _

theorem slotLaw_cold : SlotLaw (State.cold rate wready present tx cause pending draws) where
  fits := by show (1 + 0 : Nat) ≤ 16; decide
  held := by
    show 0 = heldReservations _
    have h0 : ∀ q ∈ (State.cold rate wready present tx cause pending draws).positions.toList, ¬ q.entry.isSome = true := by
      rw [toList_eq_map]
      intro q hq
      obtain ⟨k, -, rfl⟩ := List.mem_map.mp hq
      rw [cold_position]; exact nofun
    rw [heldReservations, List.countP_eq_zero.mpr h0]
    rfl
  sending _ := List.cons_ne_nil _ _
  records := Nat.zero_le _
  tags := List.nodup_nil

theorem routeLaw_cold : RouteLaw (State.cold rate wready present tx cause pending draws) := by
  have hn : ∀ u : UnitId, ¬ Names (State.cold rate wready present tx cause pending draws).routes[u] := fun u h => by
    rw [cold_route] at h; exact Bool.noConfusion h.1
  refine ⟨fun u h => absurd h (hn u), fun u v p h => absurd h (hn u), fun u p h => absurd h (hn u), fun u p h => ?_⟩
  rw [cold_owner] at h
  cases h

theorem positionLaw_cold : PositionLaw (State.cold rate wready present tx cause pending draws) := by
  have hc : sessionCount (State.cold rate wready present tx cause pending draws) = 0 :=
    (sessionCount_eq_zero _).mpr fun k => by rw [cold_position]; decide
  refine ⟨fun k u => ?_, fun j k u h => ?_, show 1 ≤ 2 ∧ 2 ≤ 4 by decide, by rw [hc]; exact Nat.zero_le _, fun k => ?_, fun j k h => ?_, nofun,
    fun k h => ?_⟩
  · rw [cold_position]; exact fun h => by cases h.1
  · rw [Assigned, cold_position] at h; exact h.elim (fun e => by cases e) (fun e => by cases e)
  · rw [cold_position]; decide
  · rw [cold_position] at h; cases h
  · rw [cold_position] at h; exact Bool.noConfusion h

theorem poolLaw_cold : PoolLaw (State.cold rate wready present tx cause pending draws) := by
  have hq : ∀ p : PortId, (State.cold rate wready present tx cause pending draws).ports[p].queue = [] := fun p => by rw [cold_port]; rfl
  have ho : ∀ p : PortId, (State.cold rate wready present tx cause pending draws).ports[p].outbound = [] := fun p => by rw [cold_port]; rfl
  have he : ∀ k : PosId, (State.cold rate wready present tx cause pending draws).positions[k].entry = none := fun k => by
    rw [cold_position]; rfl
  refine ⟨fun p i h => ?_, fun p => ?_, fun i h => ?_, fun p h => absurd (hq p) h, fun i h => ?_, fun i j h => ?_, fun i h => ?_,
    fun k e h => ?_, fun k e h => ?_, fun j k e f h => ?_, fun i h => ?_, fun p i f h => ?_⟩
  · rw [hq] at h; cases h
  · rw [hq]; exact List.nodup_nil
  · rw [cold_pool] at h; cases h
  · rw [cold_pool] at h; cases h
  · rw [cold_pool] at h; cases h
  · rw [cold_pool] at h; cases h
  · rw [he] at h; cases h
  · rw [he] at h; cases h
  · rw [he] at h; cases h
  · rw [cold_pool] at h; cases h
  · rw [ho] at h; cases h

end

section
variable {A : Prop} {s : State}

theorem keeps_cold (rate : LineRate) (wready : Bool) (present : Vector Bool 12) {tx : Transmitter} (cause : StartCause)
    (pending : List Instr) (draws : Nat) :
    Keeps A 0 s (State.cold rate wready present tx cause pending draws) :=
  ⟨fun _ => noticeLaw_cold .., fun _ => lampLaw_cold .., fun _ _ => portsLaw_cold _ _ _ _ _ _ _, fun _ => (slotLaw_iff _).mp (slotLaw_cold ..),
    fun _ => routeLaw_cold .., fun _ => positionLaw_cold ..⟩

theorem keeps_restartRequest (tag : Byte) (params : List Byte) : Keeps A 0 s (restartRequest tag params s) := by
  unfold restartRequest
  split
  · exact (keeps_cold ..).trans keeps_restartSilence
  · exact keeps_manage fun _ => keeps_takeRestart params

/-! ### Every command -/

/-- Every listed management request is one of those of Table 12.7. -/
theorem keeps_managementRequest {code tag : Byte} {params : List Byte} {take : State → State}
    (h : managementRequest code tag params = some take) : Keeps A 0 s (take s) := by
  unfold managementRequest at h
  split at h
  case h_25 => cases h
  all_goals obtain rfl := Option.some.inj h
  · exact keeps_manage fun _ => keeps_takeSetRoute params
  · exact keeps_manage fun _ => keeps_takeClearRoute params
  · exact keeps_manage fun _ => keeps_takeReadRoute params
  · exact keeps_manage fun _ => keeps_takeSetGroup params
  · exact keeps_manage fun _ => keeps_takeReadGroup params
  · exact keeps_manage fun _ => keeps_takeSetPort params
  · exact keeps_manage fun _ => keeps_takeReadPort params
  · exact keeps_manage fun _ => keeps_takeResetPort params
  · exact keeps_manage fun _ => keeps_takeAbortPort params
  · exact keeps_manage fun _ => keeps_takeSetPass params
  · exact keeps_manage fun _ => keeps_takeSetPosition params
  · exact keeps_manage fun _ => keeps_withPosition fun k _ => keeps_openThePosition k
  · exact keeps_manage fun _ => keeps_withPosition fun k _ => keeps_closeThePosition k
  · exact keeps_manage fun _ => keeps_withPosition fun k _ => keeps_openTheSession k
  · exact keeps_manage fun _ => keeps_withPosition fun k _ => keeps_closeTheSession k
  · exact keeps_manage fun _ => keeps_takeSetSessionLimit params
  · exact keeps_manage fun _ => keeps_withPosition fun k _ => keeps_readThePosition k
  · exact keeps_manage fun _ => keeps_takeOpenEntry tag params
  · exact keeps_manage fun _ => keeps_withPosition fun k _ => keeps_cancelTheEntry k
  · exact keeps_manage fun _ => keeps_takeSetLine params
  · exact keeps_manage fun _ => keeps_takeReadStatus params
  · exact keeps_manage fun _ => keeps_takeReadCounters params
  · exact keeps_manage fun _ => keeps_takeTakeNotice params
  · exact keeps_restartRequest tag params

theorem keeps_refuseAtDispatch (tag : Byte) (st : Status) : Keeps A 0 s (refuseAtDispatch tag st s) :=
  (keeps_refuse tag st).trans keeps_restartSilence

theorem keeps_dispatch (kind unit tag : Byte) (payload : List Byte) : Keeps A 0 s (dispatch kind unit tag payload s) := by
  unfold dispatch
  split_ifs
  · exact (keeps_takeUnitRequest unit tag payload).trans keeps_restartSilence
  · exact (keeps_takeGroupRequest unit tag payload).trans keeps_restartSilence
  · unfold dispatchManagement
    split
    · exact keeps_refuseAtDispatch _ _
    · split
      · exact keeps_refuseAtDispatch _ _
      · split
        · rename_i h
          exact keeps_managementRequest h
        · exact keeps_refuseAtDispatch _ _
  · exact keeps_refuseAtDispatch _ _

theorem keeps_takeWorkstation (a : Assembled) : Keeps A 0 s (takeWorkstation a s) := by
  unfold takeWorkstation
  split
  · exact .refl _
  · exact keeps_countLink _
  · unfold takeCounterFrame
    split
    · exact keeps_countLink _
    · split
      · exact (keeps_countLink _).trans (keeps_dispatch _ _ _ _)
      · exact (keeps_countLink _).trans (keeps_raiseNotice _)

theorem keeps_receiveWorkstation (b : Byte) (stop : Bool) : Keeps A 0 s (receiveWorkstation b stop s) := by
  have sampled : ∀ (a : Assembler) (g : Timer), Keeps A 0 s { s with wsAsm := a, wsGap := g } := fun _ _ => .unseen {}
  exact (sampled (assemble counterMark 4 255 (!stop) b s.wsAsm).1 _).trans (keeps_takeWorkstation _)

/-- What every command keeps: the six laws, that of the ports in a state whose exchange records are each in one place. -/
theorem exec_keeps {c : Instr} {s t : State} (h : exec c s = .next t) : Keeps (PoolLaw s) 0 s t := by
  cases c <;> obtain rfl := Host.Outcome.next.inj h
  case coldReset => exact keeps_cold ..
  case wreadyAsserted => exact .unseen {}
  case wreadyNegated => exact .unseen {}
  case presenceAsserted p => exact keeps_modPort fun _ h => h.presenceAsserted
  case presenceLost p => exact keeps_presenceLost p
  case overCurrent p => exact keeps_overCurrent p
  case routeStorageUpset u held => exact keeps_upsetRoute u held
  case groupStorageUpset g held => exact keeps_modGroup g _
  case lineFrameReceived p char => exact keeps_receiveCharacter p char
  case deviceCharacterReceived p char => exact keeps_receiveCharacter p char
  case deviceReceiveGapExpiry p => exact keeps_deviceGap p
  case counterFrameReceived b stop => exact keeps_receiveWorkstation b stop
  case workstationCharacterReceived b stop => exact keeps_receiveWorkstation b stop
  case workstationGapExpiry =>
    split
    · have hunts : Keeps (PoolLaw s) 0 s { s with wsAsm := .hunting true, wsGap := none } := .unseen {}
      exact hunts.trans (keeps_countLink _)
    · exact .refl s
  case unitRequest unit tag payload => exact (keeps_takeUnitRequest unit tag payload).trans keeps_restartSilence
  case groupRequest unit tag payload => exact (keeps_takeGroupRequest unit tag payload).trans keeps_restartSilence
  case dispatchRefusal kind unit tag payload =>
    split
    · exact keeps_refuseAtDispatch _ _
    · exact .refl s
  case setRoute tag params => exact keeps_manage fun _ => keeps_takeSetRoute params
  case clearRoute tag params => exact keeps_manage fun _ => keeps_takeClearRoute params
  case readRoute tag params => exact keeps_manage fun _ => keeps_takeReadRoute params
  case setGroup tag params => exact keeps_manage fun _ => keeps_takeSetGroup params
  case readGroup tag params => exact keeps_manage fun _ => keeps_takeReadGroup params
  case setPort tag params => exact keeps_manage fun _ => keeps_takeSetPort params
  case readPort tag params => exact keeps_manage fun _ => keeps_takeReadPort params
  case resetPort tag params => exact keeps_manage fun _ => keeps_takeResetPort params
  case abortPort tag params => exact keeps_manage fun _ => keeps_takeAbortPort params
  case setPass tag params => exact keeps_manage fun _ => keeps_takeSetPass params
  case setPosition tag params => exact keeps_manage fun _ => keeps_takeSetPosition params
  case openPosition tag params => exact keeps_manage fun _ => keeps_withPosition fun k _ => keeps_openThePosition k
  case closePosition tag params => exact keeps_manage fun _ => keeps_withPosition fun k _ => keeps_closeThePosition k
  case openSession tag params => exact keeps_manage fun _ => keeps_withPosition fun k _ => keeps_openTheSession k
  case closeSession tag params => exact keeps_manage fun _ => keeps_withPosition fun k _ => keeps_closeTheSession k
  case setSessionLimit tag params => exact keeps_manage fun _ => keeps_takeSetSessionLimit params
  case readPosition tag params => exact keeps_manage fun _ => keeps_withPosition fun k _ => keeps_readThePosition k
  case openEntry tag params => exact keeps_manage fun _ => keeps_takeOpenEntry tag params
  case cancelEntry tag params => exact keeps_manage fun _ => keeps_withPosition fun k _ => keeps_cancelTheEntry k
  case setLine tag params => exact keeps_manage fun _ => keeps_takeSetLine params
  case readStatus tag params => exact keeps_manage fun _ => keeps_takeReadStatus params
  case readCounters tag params => exact keeps_manage fun _ => keeps_takeReadCounters params
  case takeNotice tag params => exact keeps_manage fun _ => keeps_takeTakeNotice params
  case restartTraffic tag params => exact keeps_restartRequest tag params
  case restartAll tag => exact keeps_restartRequest tag [scopeAll]
  case settleTimerExpiry p => exact keeps_modPort fun _ h => h.settleExpired
  case identifyDeadlineExpiry p => exact keeps_identifyExpired p
  case resetPulseEnd p => exact keeps_modPort fun _ h => h.pulseEnded
  case deadlineExpiry p => exact keeps_deadlineExpired p fun h => h.flying
  case holdTimerExpiry i => exact keeps_holdExpired i
  case silenceTimerExpiry =>
    split
    · exact keeps_standDown
    · exact .refl s
  case entryTimerExpiry k => exact keeps_expireEntry k
  case lampFlashToggle k => exact keeps_toggleLamp k
  case exchangeStart p => exact keeps_exchangeStart p
  case deviceFrameStart p quietMs => exact keeps_frameStart p quietMs
  case deviceFrameEnd p => exact keeps_frameEnd p
  case grant => exact keeps_grant
  case workstationFrameEnd => exact keeps_frameDone

theorem PoolLaw.congr {t : State} (h : PoolLaw s) (ho : t.ports = s.ports) (hp : t.pool = s.pool) (hk : t.positions = s.positions) : PoolLaw t := by
  constructor
  all_goals simp only [hp, ho, hk]
  · exact h.queue
  · exact h.once
  · exact h.queued
  · exact h.waiting
  · exact h.flying
  · exact h.alone
  · exact h.reserved
  · exact h.collecting
  · exact h.delivering
  · exact h.entries
  · exact h.held
  · exact h.replies

/-- What every step keeps. -/
theorem step_keeps {s t : State} (h : step s = .next t) : Keeps (PoolLaw s) 0 s t := by
  unfold step at h
  split at h
  · rename_i c rest _
    have hq : Keeps (PoolLaw s) 0 s { s with pending := rest } := .unseen {}
    have hk := exec_keeps h
    exact hq.trans ⟨hk.notice, hk.lamp, fun a => hk.ports (a.congr rfl rfl rfl), hk.slot, hk.route, hk.position⟩
  · obtain rfl := Host.Outcome.next.inj h
    exact .refl s

end

/-! ### The laws the reset state obeys and every step keeps -/

/-- Settles O3: the cold state obeys each of the seven laws. -/
theorem resetObeysLaws : Obligations.ResetObeysLaws :=
  ⟨noticeLaw_cold .., lampLaw_cold .., portsLaw_cold _ _ _ _ _ _ _, slotLaw_cold .., routeLaw_cold .., positionLaw_cold .., poolLaw_cold ..⟩

/-- Settles O4, by what every command does to the notice set, WATTN and the enable set. -/
theorem stepKeepsNoticeLaw : Obligations.StepKeepsNoticeLaw := fun _ _ hs h => (step_keeps h).notice hs

/-- Settles O5: every change of a position's state, entry or CALL is followed by its lamp. -/
theorem stepKeepsLampLaw : Obligations.StepKeepsLampLaw := fun _ _ hs h => (step_keeps h).lamp hs

/-- Settles O6, port by port; the pool's law says that the exchange whose deadline expires is on a READY port. -/
theorem stepKeepsPortsLaw : Obligations.StepKeepsPortsLaw := fun _ _ hs hp h => (step_keeps h).ports hp hs

/-- Settles O7, counting a request's own reservation while its owner takes it. -/
theorem stepKeepsSlotLaw : Obligations.StepKeepsSlotLaw := fun s t hs h => (slotLaw_iff t).mpr ((step_keeps h).slot ((slotLaw_iff s).mp hs))

/-- Settles O8: only SET ROUTE, CLEAR ROUTE, a storage upset and a reset touch the table or the map. -/
theorem stepKeepsRouteLaw : Obligations.StepKeepsRouteLaw := fun _ _ hs h => (step_keeps h).route hs

/-- Settles O9, by the position requests and the restarts. -/
theorem stepKeepsPositionLaw : Obligations.StepKeepsPositionLaw := fun _ _ hs h => (step_keeps h).position hs

end Sys2Proof.Machine
end

section
/-! SUPPORT. The places of the exchange records: what the law of the exchange pool looks at, and the law while records are on their way from
one place to another. -/

namespace Sys2Proof.Machine

/-! ### Places -/

/-- What the law of the pool looks at in a record. -/
structure Place where
  state : RecState
  port : Option PortId
  origin : Option Origin
  position : Option PosId

def placeOf (r : Exchange) : Place := ⟨r.state, r.port, r.origin, r.position⟩

def freePlace : Place := ⟨.free, none, none, none⟩

/-- What the law of the pool looks at in a state: the request queues, the outbound lists, the records, and the entries with their records. -/
structure Places where
  queue : PortId → List RecId
  out : PortId → List OutFrame
  place : RecId → Place
  entry : PosId → Option (EntryState × RecId)

def entryPlace (e : Option Entry) : Option (EntryState × RecId) := e.map fun e => (e.state, e.record)

def placesOf (s : State) : Places where
  queue p := s.ports[p].queue
  out p := s.ports[p].outbound
  place i := placeOf s.pool[i]
  entry k := entryPlace s.positions[k].entry

/-- In flight (R50). -/
def flies (x : RecState) : Bool := decide (x = .sending) || decide (x = .awaiting) || decide (x = .orphaned)

theorem flies_iff (x : RecState) : flies x = true ↔ x = .sending ∨ x = .awaiting ∨ x = .orphaned := by cases x <;> decide

theorem flies_placeOf (r : Exchange) : flies (placeOf r).state = isInFlight r := rfl

namespace Places

def setPlace (i : RecId) (x : Place) (v : Places) : Places := { v with place := Function.update v.place i x }
def setQueue (p : PortId) (l : List RecId) (v : Places) : Places := { v with queue := Function.update v.queue p l }
def setOut (p : PortId) (l : List OutFrame) (v : Places) : Places := { v with out := Function.update v.out p l }
def setEntry (k : PosId) (e : Option (EntryState × RecId)) (v : Places) : Places := { v with entry := Function.update v.entry k e }

/-- The entry of a position is none any more, and a RESERVED record that it held is FREE (R146). -/
def ended (k : PosId) (v : Places) : Places :=
  match v.entry k with
  | none => v
  | some (_, i) => if (v.place i).state = .reserved then (v.setPlace i freePlace).setEntry k none else v.setEntry k none

@[simp] theorem setPlace_queue (i : RecId) (x : Place) (v : Places) : (v.setPlace i x).queue = v.queue := rfl
@[simp] theorem setPlace_out (i : RecId) (x : Place) (v : Places) : (v.setPlace i x).out = v.out := rfl
@[simp] theorem setPlace_entry (i : RecId) (x : Place) (v : Places) : (v.setPlace i x).entry = v.entry := rfl
@[simp] theorem setPlace_self (i : RecId) (x : Place) (v : Places) : (v.setPlace i x).place i = x := Function.update_self ..
@[simp] theorem setQueue_out (p : PortId) (l : List RecId) (v : Places) : (v.setQueue p l).out = v.out := rfl
@[simp] theorem setQueue_place (p : PortId) (l : List RecId) (v : Places) : (v.setQueue p l).place = v.place := rfl
@[simp] theorem setQueue_entry (p : PortId) (l : List RecId) (v : Places) : (v.setQueue p l).entry = v.entry := rfl
@[simp] theorem setQueue_self (p : PortId) (l : List RecId) (v : Places) : (v.setQueue p l).queue p = l := Function.update_self ..
@[simp] theorem setOut_queue (p : PortId) (l : List OutFrame) (v : Places) : (v.setOut p l).queue = v.queue := rfl
@[simp] theorem setOut_place (p : PortId) (l : List OutFrame) (v : Places) : (v.setOut p l).place = v.place := rfl
@[simp] theorem setOut_entry (p : PortId) (l : List OutFrame) (v : Places) : (v.setOut p l).entry = v.entry := rfl
@[simp] theorem setOut_self (p : PortId) (l : List OutFrame) (v : Places) : (v.setOut p l).out p = l := Function.update_self ..
@[simp] theorem setEntry_queue (k : PosId) (e : Option (EntryState × RecId)) (v : Places) : (v.setEntry k e).queue = v.queue := rfl
@[simp] theorem setEntry_out (k : PosId) (e : Option (EntryState × RecId)) (v : Places) : (v.setEntry k e).out = v.out := rfl
@[simp] theorem setEntry_place (k : PosId) (e : Option (EntryState × RecId)) (v : Places) : (v.setEntry k e).place = v.place := rfl
@[simp] theorem setEntry_self (k : PosId) (e : Option (EntryState × RecId)) (v : Places) : (v.setEntry k e).entry k = e :=
  Function.update_self ..

section
variable {v : Places}
theorem setPlace_ne {i j : RecId} (h : j ≠ i) (x : Place) : (v.setPlace i x).place j = v.place j := Function.update_of_ne h ..
theorem setQueue_ne {p r : PortId} (h : r ≠ p) (l : List RecId) : (v.setQueue p l).queue r = v.queue r := Function.update_of_ne h ..
theorem setOut_ne {p r : PortId} (h : r ≠ p) (l : List OutFrame) : (v.setOut p l).out r = v.out r := Function.update_of_ne h ..
theorem setEntry_ne {k j : PosId} (h : j ≠ k) (e : Option (EntryState × RecId)) : (v.setEntry k e).entry j = v.entry j :=
  Function.update_of_ne h ..
end

end Places

/-! ### The law of the places -/

/-- The law of the exchange pool (R50, R53, R54) for the READY ports `R`, while the records `X` are on their way, QUEUED in no queue or in
flight on a port that has left READY, and the entries of the positions `K` have lost their record. -/
structure Placed (R : PortId → Prop) (X : RecId → Prop) (K : PosId → Prop) (v : Places) : Prop where
  queue : ∀ p i, i ∈ v.queue p → (v.place i).state = .queued ∧ (v.place i).port = some p ∧ ¬ X i
  once : ∀ p, (v.queue p).Nodup
  queued : ∀ i, (v.place i).state = .queued → ¬ X i → ∃ p, (v.place i).port = some p ∧ i ∈ v.queue p
  waiting : ∀ p, v.queue p ≠ [] → R p
  flying : ∀ i, flies (v.place i).state = true → ∃ p, (v.place i).port = some p ∧ R p
  alone : ∀ i j, flies (v.place i).state = true → flies (v.place j).state = true → (v.place i).port = (v.place j).port → i = j
  reserved : ∀ i, (v.place i).state = .reserved → ∃ k x, v.entry k = some (x, i)
  collecting : ∀ k i, v.entry k = some (.collecting, i) → ¬ K k → (v.place i).state = .reserved
  delivering : ∀ k i, v.entry k = some (.delivering, i) → ¬ K k →
    ((v.place i).state = .queued ∨ (v.place i).state = .sending ∨ (v.place i).state = .awaiting) ∧
      (v.place i).origin = some .delivery ∧ (v.place i).position = some k
  entries : ∀ j k x y i, v.entry j = some (x, i) → v.entry k = some (y, i) → j = k
  held : ∀ i, (v.place i).state = .held → ∃ p, (v.place i).port = some p ∧ (v.out p).countP (isReplyOf i) = 1
  replies : ∀ p i f, f ∈ v.out p → isReplyOf i f = true → (v.place i).state = .held ∧ (v.place i).port = some p
  limbo : ∀ i, X i → ((v.place i).state = .queued ∨ flies (v.place i).state = true) ∧ ∃ p, (v.place i).port = some p

/-- No record is on its way, and no entry has lost its record. -/
abbrev PlacedAll (R : PortId → Prop) (v : Places) : Prop := Placed R (fun _ => False) (fun _ => False) v

def Ready (s : State) (p : PortId) : Prop := s.ports[p].state = .ready

theorem entryPlace_eq_some {e : Option Entry} {x : EntryState} {i : RecId} :
    entryPlace e = some (x, i) ↔ ∃ f, e = some f ∧ f.state = x ∧ f.record = i := by
  cases e <;> simp [entryPlace]

theorem poolLaw_iff (s : State) : PoolLaw s ↔ PlacedAll (Ready s) (placesOf s) := by
  constructor
  · intro h
    refine ⟨fun p i hi => ?_, h.once, fun i hi _ => h.queued i hi, h.waiting, h.flying, h.alone, fun i hi => ?_, fun k i he _ => ?_,
      fun k i he _ => ?_, fun j k x y i hx hy => ?_, h.held, h.replies, fun i hi => hi.elim⟩
    · obtain ⟨h1, h2⟩ := h.queue p i hi
      exact ⟨h1, h2, id⟩
    · obtain ⟨k, e, he, hr⟩ := h.reserved i hi
      exact ⟨k, e.state, entryPlace_eq_some.mpr ⟨e, he, rfl, hr⟩⟩
    · obtain ⟨e, hk, hs, rfl⟩ := entryPlace_eq_some.mp he
      exact h.collecting k e hk hs
    · obtain ⟨e, hk, hs, rfl⟩ := entryPlace_eq_some.mp he
      exact h.delivering k e hk hs
    · obtain ⟨e, he, -, h1⟩ := entryPlace_eq_some.mp hx
      obtain ⟨f, hf, -, h2⟩ := entryPlace_eq_some.mp hy
      exact h.entries j k e f he hf (h1.trans h2.symm)
  · intro h
    refine ⟨fun p i hi => ?_, h.once, fun i hi => h.queued i hi id, h.waiting, h.flying, h.alone, fun i hi => ?_, fun k e he hs => ?_,
      fun k e he hs => ?_, fun j k e f he hf hr => ?_, h.held, h.replies⟩
    · obtain ⟨h1, h2, -⟩ := h.queue p i hi
      exact ⟨h1, h2⟩
    · obtain ⟨k, x, he⟩ := h.reserved i hi
      obtain ⟨e, he, -, hr⟩ := entryPlace_eq_some.mp he
      exact ⟨k, e, he, hr⟩
    · exact h.collecting k e.record (entryPlace_eq_some.mpr ⟨e, he, hs, rfl⟩) id
    · exact h.delivering k e.record (entryPlace_eq_some.mpr ⟨e, he, hs, rfl⟩) id
    · exact h.entries j k e.state f.state e.record (entryPlace_eq_some.mpr ⟨e, he, rfl, rfl⟩)
        (entryPlace_eq_some.mpr ⟨f, hf, rfl, hr.symm⟩)

namespace Placed

section
variable {R R' : PortId → Prop} {X Y : RecId → Prop} {K : PosId → Prop} {v : Places}

theorem congr (h : Placed R X K v) (hx : ∀ i, Y i ↔ X i) : Placed R Y K v := by
  obtain rfl : Y = X := funext fun i => propext (hx i)
  exact h

/-- The READY ports may be others, where the port of every waiting and every flying record is READY still. -/
theorem ready (h : Placed R X K v) (hw : ∀ p, v.queue p ≠ [] → R p → R' p)
    (hf : ∀ i p, flies (v.place i).state = true → (v.place i).port = some p → R p → R' p) : Placed R' X K v :=
  { h with
    waiting := fun p hp => hw p hp (h.waiting p hp)
    flying := fun i hi => by
      obtain ⟨p, hp, hr⟩ := h.flying i hi
      exact ⟨p, hp, hf i p hi hp hr⟩ }

theorem lose (h : Placed R X (fun _ => False) v) : Placed R X K v :=
  { h with
    collecting := fun k i he _ => h.collecting k i he id
    delivering := fun k i he _ => h.delivering k i he id }

/-- A record whose state none of the entries relies on: where it stands is known to no entry. -/
theorem no_entry (h : Placed R X (fun _ => False) v) {i : RecId} (h1 : (v.place i).state ≠ .reserved)
    (h2 : (v.place i).origin ≠ some .delivery ∨
      (v.place i).state ≠ .queued ∧ (v.place i).state ≠ .sending ∧ (v.place i).state ≠ .awaiting) (k : PosId) (x : EntryState) :
    v.entry k ≠ some (x, i) := by
  intro he
  cases x with
  | collecting => exact h1 (h.collecting k i he id)
  | delivering =>
    obtain ⟨hs, ho, -⟩ := h.delivering k i he id
    rcases h2 with h2 | ⟨n1, n2, n3⟩
    · exact h2 ho
    · exact hs.elim n1 fun hs => hs.elim n2 n3

/-- A record on its way is in no queue, has no UNIT REPLY, and is not set aside. -/
theorem away (h : Placed R X K v) {i : RecId} (hi : X i) :
    (∀ p, i ∉ v.queue p) ∧ (∀ p f, f ∈ v.out p → isReplyOf i f = false) ∧ (v.place i).state ≠ .reserved ∧ (v.place i).state ≠ .held := by
  obtain ⟨hs, -⟩ := h.limbo i hi
  have hh : (v.place i).state ≠ .held := by
    rcases hs with e | e
    · rw [e]; decide
    · intro g; rw [g] at e; cases e
  refine ⟨fun p hp => (h.queue p i hp).2.2 hi, fun p f hf => ?_, ?_, hh⟩
  · rw [← Bool.not_eq_true]; exact fun g => hh (h.replies p i f hf g).1
  · rcases hs with e | e
    · rw [e]; decide
    · intro g; rw [g] at e; cases e

/-- A record in no queue and without a UNIT REPLY is freed: an entry that it was the record of has lost it. -/
theorem free_of (h : Placed R X K v) {i : RecId} (hq : ∀ p, i ∉ v.queue p) (ho : ∀ p f, f ∈ v.out p → isReplyOf i f = false)
    (he : ∀ k x, v.entry k = some (x, i) → K k) : Placed R (fun j => X j ∧ j ≠ i) K (v.setPlace i freePlace) := by
  have eq_or : ∀ j, j = i ∧ (v.setPlace i freePlace).place j = freePlace ∨ j ≠ i ∧ (v.setPlace i freePlace).place j = v.place j := fun j => by
    by_cases hj : j = i
    · subst hj; exact .inl ⟨rfl, Places.setPlace_self ..⟩
    · exact .inr ⟨hj, Places.setPlace_ne hj _⟩
  refine ⟨fun p j hj => ?_, h.once, fun j hj hx => ?_, h.waiting, fun j hj => ?_, fun j l hj hl => ?_, fun j hj => ?_, fun k j hk hn => ?_,
    fun k j hk hn => ?_, h.entries, fun j hj => ?_, fun p j f hf hj => ?_, fun j hj => ?_⟩
  · obtain ⟨h1, h2, h3⟩ := h.queue p j hj
    have hne : j ≠ i := fun e => hq p (e ▸ hj)
    rw [Places.setPlace_ne hne]
    exact ⟨h1, h2, fun g => h3 g.1⟩
  · rcases eq_or j with ⟨rfl, e⟩ | ⟨hn, e⟩
    · rw [e] at hj; cases hj
    · rw [e] at hj ⊢; exact h.queued j hj fun g => hx ⟨g, hn⟩
  · rcases eq_or j with ⟨rfl, e⟩ | ⟨hn, e⟩
    · rw [e] at hj; cases hj
    · rw [e] at hj ⊢; exact h.flying j hj
  · rcases eq_or j with ⟨rfl, e⟩ | ⟨hn, e⟩
    · rw [e] at hj; cases hj
    · rcases eq_or l with ⟨rfl, e'⟩ | ⟨hn', e'⟩
      · rw [e'] at hl; cases hl
      · rw [e] at hj ⊢; rw [e'] at hl ⊢; exact h.alone j l hj hl
  · rcases eq_or j with ⟨rfl, e⟩ | ⟨hn, e⟩
    · rw [e] at hj; cases hj
    · rw [e] at hj; exact h.reserved j hj
  · rw [Places.setPlace_ne fun e => hn (he k _ (e ▸ hk))]; exact h.collecting k j hk hn
  · rw [Places.setPlace_ne fun e => hn (he k _ (e ▸ hk))]; exact h.delivering k j hk hn
  · rcases eq_or j with ⟨rfl, e⟩ | ⟨hn, e⟩
    · rw [e] at hj; cases hj
    · rw [e] at hj ⊢; exact h.held j hj
  · have hne : j ≠ i := fun e => by rw [e, ho p f hf] at hj; cases hj
    rw [Places.setPlace_ne hne]; exact h.replies p j f hf hj
  · rw [Places.setPlace_ne hj.2]; exact h.limbo j hj.1

theorem free (h : Placed R X K v) {i : RecId} (hi : X i) (he : ∀ k x, v.entry k = some (x, i) → K k) :
    Placed R (fun j => X j ∧ j ≠ i) K (v.setPlace i freePlace) := by
  obtain ⟨hq, ho, -, -⟩ := h.away hi
  exact h.free_of hq ho he

/-- A record that is neither QUEUED nor HELD is in no queue and has no UNIT REPLY. -/
theorem nowhere (h : Placed R X K v) {i : RecId} (h1 : (v.place i).state ≠ .queued) (h2 : (v.place i).state ≠ .held) :
    (∀ p, i ∉ v.queue p) ∧ ∀ p f, f ∈ v.out p → isReplyOf i f = false :=
  ⟨fun p hp => h1 (h.queue p i hp).1, fun p f hf => by rw [← Bool.not_eq_true]; exact fun g => h2 (h.replies p i f hf g).1⟩

/-- A RESERVED record returns to FREE (R146). -/
theorem unreserve (h : Placed R X K v) {i : RecId} (hi : (v.place i).state = .reserved) (he : ∀ k x, v.entry k = some (x, i) → K k) :
    Placed R X K (v.setPlace i freePlace) := by
  obtain ⟨hq, ho⟩ := h.nowhere (i := i) (by rw [hi]; decide) (by rw [hi]; decide)
  refine (h.free_of hq ho he).congr fun j => ⟨fun hj => ⟨hj, ?_⟩, And.left⟩
  rintro rfl
  obtain ⟨hs, -⟩ := h.limbo j hj
  rw [hi] at hs
  rcases hs with hs | hs <;> cases hs

/-- The workstation exchange on its way ends: it is HELD, its UNIT REPLY the last of its port's list (R68). -/
theorem hold (h : Placed R X K v) {i : RecId} {p : PortId} {x : Place} {f : OutFrame} (hi : X i) (he : ∀ k y, v.entry k ≠ some (y, i))
    (hx : x.state = .held) (hp : x.port = some p) (hf : ∀ j, isReplyOf j f = decide (i = j)) :
    Placed R (fun j => X j ∧ j ≠ i) K ((v.setPlace i x).setOut p (v.out p ++ [f])) := by
  obtain ⟨hq, ho, -, -⟩ := h.away hi
  have hfl : flies x.state = false := by rw [hx]; rfl
  set w := (v.setPlace i x).setOut p (v.out p ++ [f])
  have place_i : w.place i = x := Places.setPlace_self ..
  have place_ne : ∀ j, j ≠ i → w.place j = v.place j := fun j hj => Places.setPlace_ne hj _
  have count : ∀ r j, j ≠ i → (w.out r).countP (isReplyOf j) = (v.out r).countP (isReplyOf j) := fun r j hj => by
    by_cases hr : r = p
    · subst hr
      rw [Places.setOut_self, List.countP_append, List.countP_singleton, hf, if_neg (by simpa using hj.symm), Nat.add_zero]
    · rw [Places.setOut_ne hr]; rfl
  refine ⟨fun r j hj => ?_, h.once, fun j hj hx' => ?_, h.waiting, fun j hj => ?_, fun j l hj hl => ?_, fun j hj => ?_, fun k j hk hn => ?_,
    fun k j hk hn => ?_, h.entries, fun j hj => ?_, fun r j g hg hj => ?_, fun j hj => ?_⟩
  · obtain ⟨h1, h2, h3⟩ := h.queue r j hj
    have hne : j ≠ i := fun e => hq r (e ▸ hj)
    rw [place_ne j hne]
    exact ⟨h1, h2, fun g => h3 g.1⟩
  · by_cases e : j = i
    · subst e; rw [place_i, hx] at hj; cases hj
    · rw [place_ne j e] at hj ⊢; exact h.queued j hj fun g => hx' ⟨g, e⟩
  · by_cases e : j = i
    · subst e; rw [place_i, hfl] at hj; cases hj
    · rw [place_ne j e] at hj ⊢; exact h.flying j hj
  · by_cases e : j = i
    · subst e; rw [place_i, hfl] at hj; cases hj
    · by_cases e' : l = i
      · subst e'; rw [place_i, hfl] at hl; cases hl
      · rw [place_ne j e] at hj ⊢; rw [place_ne l e'] at hl ⊢; exact h.alone j l hj hl
  · by_cases e : j = i
    · subst e; rw [place_i, hx] at hj; cases hj
    · rw [place_ne j e] at hj; exact h.reserved j hj
  · have hne : j ≠ i := fun e => he k _ (e ▸ hk)
    rw [place_ne j hne]; exact h.collecting k j hk hn
  · have hne : j ≠ i := fun e => he k _ (e ▸ hk)
    rw [place_ne j hne]; exact h.delivering k j hk hn
  · by_cases e : j = i
    · subst e
      refine ⟨p, by rw [place_i]; exact hp, ?_⟩
      have h0 : (v.out p).countP (isReplyOf j) = 0 := List.countP_eq_zero.mpr fun g hg => by rw [ho p g hg]; exact Bool.false_ne_true
      rw [Places.setOut_self, List.countP_append, List.countP_singleton, hf, if_pos (decide_eq_true rfl), h0]
    · rw [place_ne j e] at hj ⊢
      obtain ⟨r, hr, hc⟩ := h.held j hj
      exact ⟨r, hr, by rw [count r j e, hc]⟩
  · by_cases e : j = i
    · subst e
      rw [place_i]
      by_cases hr : r = p
      · subst hr; exact ⟨hx, hp⟩
      · rw [Places.setOut_ne hr] at hg
        rw [ho r g hg] at hj; cases hj
    · rw [place_ne j e]
      by_cases hr : r = p
      · subst hr
        rw [Places.setOut_self, List.mem_append, List.mem_singleton] at hg
        rcases hg with hg | rfl
        · exact h.replies r j g hg hj
        · rw [hf] at hj; exact absurd (of_decide_eq_true hj).symm e
      · rw [Places.setOut_ne hr] at hg; exact h.replies r j g hg hj
  · rw [place_ne j hj.2]; exact h.limbo j hj.1

/-- A record in flight stays in flight on its port (R59, R60, R75). -/
theorem refly (h : Placed R X K v) {i : RecId} {x : Place} (hi : flies (v.place i).state = true) (hx : flies x.state = true)
    (hp : x.port = (v.place i).port)
    (he : ∀ k, v.entry k = some (.delivering, i) → K k ∨
      (x.state = .sending ∨ x.state = .awaiting) ∧ x.origin = (v.place i).origin ∧ x.position = (v.place i).position) :
    Placed R X K (v.setPlace i x) := by
  have state_ne : ∀ st, flies st = false → (v.place i).state ≠ st ∧ x.state ≠ st := fun st hs =>
    ⟨fun e => (by rw [e, hs] at hi; cases hi), fun e => (by rw [e, hs] at hx; cases hx)⟩
  have port_eq : ∀ j, ((v.setPlace i x).place j).port = (v.place j).port := fun j => by
    by_cases e : j = i
    · subst e; rw [Places.setPlace_self]; exact hp
    · rw [Places.setPlace_ne e]
  have flies_eq : ∀ j, flies ((v.setPlace i x).place j).state = flies (v.place j).state := fun j => by
    by_cases e : j = i
    · subst e; rw [Places.setPlace_self, hi]; exact hx
    · rw [Places.setPlace_ne e]
  have state_iff : ∀ j st, flies st = false → (((v.setPlace i x).place j).state = st ↔ (v.place j).state = st) := fun j st hs => by
    by_cases e : j = i
    · subst e; rw [Places.setPlace_self]; exact iff_of_false (state_ne st hs).2 (state_ne st hs).1
    · rw [Places.setPlace_ne e]
  refine ⟨fun p j hj => ?_, h.once, fun j hj => ?_, h.waiting, fun j hj => ?_, fun j l hj hl => ?_, fun j hj => ?_, fun k j hk hn => ?_,
    fun k j hk hn => ?_, h.entries, fun j hj => ?_, fun p j f hf hj => ?_, fun j hj => ?_⟩
  · rw [state_iff j _ rfl, port_eq]; exact h.queue p j hj
  · rw [state_iff j _ rfl] at hj; rw [port_eq]; exact h.queued j hj
  · rw [flies_eq] at hj; rw [port_eq]; exact h.flying j hj
  · rw [flies_eq] at hj hl; rw [port_eq, port_eq]; exact h.alone j l hj hl
  · rw [state_iff j _ rfl] at hj; exact h.reserved j hj
  · rw [state_iff j _ rfl]; exact h.collecting k j hk hn
  · obtain ⟨hs, ho, hk'⟩ := h.delivering k j hk hn
    by_cases e : j = i
    · subst e
      obtain ⟨h1, h2, h3⟩ := (he k hk).resolve_left hn
      rw [Places.setPlace_self, h2, h3]
      exact ⟨.inr h1, ho, hk'⟩
    · rw [Places.setPlace_ne e]; exact ⟨hs, ho, hk'⟩
  · rw [state_iff j _ rfl] at hj; rw [port_eq]; exact h.held j hj
  · rw [state_iff j _ rfl, port_eq]; exact h.replies p j f hf hj
  · rw [state_iff j _ rfl, flies_eq, port_eq]; exact h.limbo j hj

/-- The entry of a position ends, its record not RESERVED (R146). -/
theorem dropEntry (h : Placed R X K v) {k : PosId} (hk : ∀ j, K j → j = k)
    (hr : ∀ x i, v.entry k = some (x, i) → (v.place i).state ≠ .reserved) : Placed R X (fun _ => False) (v.setEntry k none) := by
  have still : ∀ j x i, (v.setEntry k none).entry j = some (x, i) → j ≠ k ∧ v.entry j = some (x, i) := fun j x i hj => by
    by_cases e : j = k
    · subst e; rw [Places.setEntry_self] at hj; cases hj
    · rw [Places.setEntry_ne e] at hj; exact ⟨e, hj⟩
  refine { h with reserved := fun i hi => ?_, collecting := fun j i hj _ => ?_, delivering := fun j i hj _ => ?_, entries := fun j l x y i hj hl => ?_ }
  · obtain ⟨j, x, hj⟩ := h.reserved i hi
    have hne : j ≠ k := fun e => hr x i (e ▸ hj) hi
    exact ⟨j, x, by rw [Places.setEntry_ne hne]; exact hj⟩
  · obtain ⟨hne, hj⟩ := still j _ i hj
    exact h.collecting j i hj fun g => hne (hk j g)
  · obtain ⟨hne, hj⟩ := still j _ i hj
    exact h.delivering j i hj fun g => hne (hk j g)
  · exact h.entries j l x y i (still j x i hj).2 (still l y i hl).2

/-- The entry of a position ends, and its RESERVED record returns to FREE (R146). -/
theorem ended (h : Placed R X K v) {k : PosId} (hk : ∀ j, K j → j = k) : Placed R X (fun _ => False) (v.ended k) := by
  unfold Places.ended
  split
  · rename_i he
    have h0 := h.dropEntry hk fun x i hi => by rw [he] at hi; cases hi
    have : v.setEntry k none = v := by
      rw [Places.setEntry, ← he, Function.update_eq_self]
    rwa [this] at h0
  · rename_i x i he
    have only : ∀ y j, v.entry k = some (y, j) → j = i := fun y j hj => by rw [he] at hj; cases hj; rfl
    split
    · rename_i hr
      have hu : Placed R X (fun j => j = k) (v.setPlace i freePlace) :=
        Placed.unreserve { h with
          collecting := fun j l hj hn => h.collecting j l hj fun g => hn (hk j g)
          delivering := fun j l hj hn => h.delivering j l hj fun g => hn (hk j g) } hr fun j y hj => h.entries j k y x i hj he
      exact hu.dropEntry (fun _ => id) fun y j hj => by rw [only y j hj, Places.setPlace_self]; decide
    · rename_i hr
      exact h.dropEntry hk fun y j hj => by rw [only y j hj]; exact hr

/-- Records of a queue leave it and are on their way (R68, R72, R73). -/
theorem leaveQueue (h : Placed R X K v) {p : PortId} {l : List RecId} (hl : l.Sublist (v.queue p)) :
    Placed R (fun i => X i ∨ i ∈ v.queue p ∧ i ∉ l) K (v.setQueue p l) := by
  have mem : ∀ r i, i ∈ (v.setQueue p l).queue r → i ∈ v.queue r ∧ (r = p → i ∈ l) := fun r i hi => by
    by_cases e : r = p
    · subst e; rw [Places.setQueue_self] at hi; exact ⟨hl.subset hi, fun _ => hi⟩
    · rw [Places.setQueue_ne e] at hi; exact ⟨hi, fun g => absurd g e⟩
  refine { h with queue := fun r i hi => ?_, once := fun r => ?_, queued := fun i hi hx => ?_, waiting := fun r hr => ?_, limbo := fun i hi => ?_ }
  · obtain ⟨hi, hp⟩ := mem r i hi
    obtain ⟨h1, h2, h3⟩ := h.queue r i hi
    refine ⟨h1, h2, fun g => g.elim h3 fun g => ?_⟩
    have : r = p := by
      have := (h.queue p i g.1).2.1
      exact Option.some.inj (h2.symm.trans this)
    exact g.2 (hp this)
  · by_cases e : r = p
    · subst e; rw [Places.setQueue_self]; exact (h.once r).sublist hl
    · rw [Places.setQueue_ne e]; exact h.once r
  · rw [not_or] at hx
    obtain ⟨r, hr, hq⟩ := h.queued i hi hx.1
    refine ⟨r, hr, ?_⟩
    by_cases e : r = p
    · subst e; rw [Places.setQueue_self]; exact not_not.mp fun g => hx.2 ⟨hq, g⟩
    · rw [Places.setQueue_ne e]; exact hq
  · by_cases e : r = p
    · subst e
      rw [Places.setQueue_self] at hr
      refine h.waiting r fun e => hr ?_
      rw [e] at hl; exact List.eq_nil_of_sublist_nil hl
    · rw [Places.setQueue_ne e] at hr; exact h.waiting r hr
  · rcases hi with hi | ⟨hi, -⟩
    · exact h.limbo i hi
    · obtain ⟨h1, h2, -⟩ := h.queue p i hi
      exact ⟨.inl h1, p, h2⟩

/-- A record in flight is on its way. -/
theorem leaveLine (h : Placed R X K v) {i : RecId} (hi : flies (v.place i).state = true) : Placed R (fun j => X j ∨ j = i) K v := by
  have hq : (v.place i).state ≠ .queued := fun e => by rw [e] at hi; cases hi
  refine { h with queue := fun p j hj => ?_, queued := fun j hj hx => h.queued j hj fun g => hx (.inl g), limbo := fun j hj => ?_ }
  · obtain ⟨h1, h2, h3⟩ := h.queue p j hj
    exact ⟨h1, h2, fun g => g.elim h3 fun g => hq (g ▸ h1)⟩
  · rcases hj with hj | rfl
    · exact h.limbo j hj
    · obtain ⟨p, hp, -⟩ := h.flying j hi
      exact ⟨.inr hi, p, hp⟩

/-- A FREE record is filled and QUEUED on a READY port (R57, R144). -/
theorem enqueue (h : Placed R X (fun _ => False) v) {i : RecId} {p : PortId} {x : Place} (hi : (v.place i).state = .free) (hr : R p)
    (hx : x.state = .queued) (hp : x.port = some p) {l : List RecId} (hl : l.Perm (i :: v.queue p)) :
    Placed R X (fun _ => False) ((v.setPlace i x).setQueue p l) := by
  obtain ⟨hq, ho⟩ := h.nowhere (i := i) (by rw [hi]; decide) (by rw [hi]; decide)
  have hn : ∀ k y, v.entry k ≠ some (y, i) := h.no_entry (by rw [hi]; decide) (.inr (by rw [hi]; decide))
  have hX : ¬ X i := fun g => by
    obtain ⟨hs, -⟩ := h.limbo i g
    rw [hi] at hs
    rcases hs with hs | hs <;> cases hs
  set w := (v.setPlace i x).setQueue p l
  have place_i : w.place i = x := Places.setPlace_self ..
  have place_ne : ∀ j, j ≠ i → w.place j = v.place j := fun j hj => Places.setPlace_ne hj _
  have queue_p : w.queue p = l := Places.setQueue_self ..
  have mem_l : ∀ j, j ∈ l ↔ j = i ∨ j ∈ v.queue p := fun j => by rw [hl.mem_iff, List.mem_cons]
  have queue_ne : ∀ r, r ≠ p → w.queue r = v.queue r := fun r hr => Places.setQueue_ne hr _
  have old : ∀ r j, j ∈ w.queue r → j ∈ v.queue r ∨ r = p ∧ j = i := fun r j hj => by
    by_cases e : r = p
    · subst e; rw [queue_p, mem_l] at hj; exact hj.symm.imp id fun g => ⟨rfl, g⟩
    · rw [queue_ne r e] at hj; exact .inl hj
  have hf : flies x.state = false := by rw [hx]; rfl
  refine ⟨fun r j hj => ?_, fun r => ?_, fun j hj hx' => ?_, fun r hr' => ?_, fun j hj => ?_, fun j m hj hm => ?_, fun j hj => ?_,
    fun k j hk hK => ?_, fun k j hk hK => ?_, h.entries, fun j hj => ?_, fun r j f hf hj => ?_, fun j hj => ?_⟩
  · rcases old r j hj with hj | ⟨rfl, rfl⟩
    · have hne : j ≠ i := fun e => hq r (e ▸ hj)
      rw [place_ne j hne]; exact h.queue r j hj
    · rw [place_i]; exact ⟨hx, hp, hX⟩
  · by_cases e : r = p
    · subst e
      rw [queue_p, hl.nodup_iff, List.nodup_cons]
      exact ⟨hq r, h.once r⟩
    · rw [queue_ne r e]; exact h.once r
  · by_cases e : j = i
    · subst e; rw [place_i]; exact ⟨p, hp, by rw [queue_p, mem_l]; exact .inl rfl⟩
    · rw [place_ne j e] at hj ⊢
      obtain ⟨r, h1, h2⟩ := h.queued j hj hx'
      refine ⟨r, h1, ?_⟩
      by_cases e : r = p
      · subst e; rw [queue_p, mem_l]; exact .inr h2
      · rw [queue_ne r e]; exact h2
  · by_cases e : r = p
    · subst e; exact hr
    · rw [queue_ne r e] at hr'; exact h.waiting r hr'
  · by_cases e : j = i
    · subst e; rw [place_i, hf] at hj; cases hj
    · rw [place_ne j e] at hj ⊢; exact h.flying j hj
  · by_cases e : j = i
    · subst e; rw [place_i, hf] at hj; cases hj
    · by_cases e' : m = i
      · subst e'; rw [place_i, hf] at hm; cases hm
      · rw [place_ne j e] at hj ⊢; rw [place_ne m e'] at hm ⊢; exact h.alone j m hj hm
  · by_cases e : j = i
    · subst e; rw [place_i, hx] at hj; cases hj
    · rw [place_ne j e] at hj; exact h.reserved j hj
  · have hne : j ≠ i := fun e => hn k _ (e ▸ hk)
    rw [place_ne j hne]; exact h.collecting k j hk hK
  · have hne : j ≠ i := fun e => hn k _ (e ▸ hk)
    rw [place_ne j hne]; exact h.delivering k j hk hK
  · by_cases e : j = i
    · subst e; rw [place_i, hx] at hj; cases hj
    · rw [place_ne j e] at hj ⊢; exact h.held j hj
  · have hne : j ≠ i := fun e => by rw [e, ho r f hf] at hj; cases hj
    rw [place_ne j hne]; exact h.replies r j f hf hj
  · have hne : j ≠ i := fun e => hX (e ▸ hj)
    rw [place_ne j hne]; exact h.limbo j hj

/-- An entry without a record takes one that is on its delivery (R144). -/
theorem enterEntry (h : Placed R X (fun _ => False) v) {k : PosId} {i : RecId} (hn : ∀ j x, v.entry j ≠ some (x, i))
    (hk : v.entry k = none) (hs : (v.place i).state = .queued) (ho : (v.place i).origin = some .delivery)
    (hp : (v.place i).position = some k) : Placed R X (fun _ => False) (v.setEntry k (some (.delivering, i))) := by
  have old : ∀ j x m, (v.setEntry k (some (.delivering, i))).entry j = some (x, m) → v.entry j = some (x, m) ∨ j = k ∧ x = .delivering ∧ m = i :=
    fun j x m hj => by
      by_cases e : j = k
      · subst e; rw [Places.setEntry_self] at hj; cases hj; exact .inr ⟨rfl, rfl, rfl⟩
      · rw [Places.setEntry_ne e] at hj; exact .inl hj
  refine { h with reserved := fun m hm => ?_, collecting := fun j m hj _ => ?_, delivering := fun j m hj _ => ?_, entries := fun j l x y m hj hl => ?_ }
  · obtain ⟨j, x, hj⟩ := h.reserved m hm
    have hne : j ≠ k := fun e => by rw [e, hk] at hj; cases hj
    exact ⟨j, x, by rw [Places.setEntry_ne hne]; exact hj⟩
  · rcases old j _ m hj with hj | ⟨-, hx, -⟩
    · exact h.collecting j m hj id
    · cases hx
  · rcases old j _ m hj with hj | ⟨rfl, -, rfl⟩
    · exact h.delivering j m hj id
    · exact ⟨.inl hs, ho, hp⟩
  · rcases old j x m hj with hj' | ⟨ej, -, em⟩ <;> rcases old l y m hl with hl' | ⟨el, -, em'⟩
    · exact h.entries j l x y m hj' hl'
    · exact absurd (em' ▸ hj') (hn j x)
    · exact absurd (em ▸ hl') (hn l y)
    · rw [ej, el]

/-- A FREE record is set aside by a new entry (R138). -/
theorem reserve (h : Placed R X (fun _ => False) v) {k : PosId} {i : RecId} {x : Place} (hi : (v.place i).state = .free)
    (hx : x.state = .reserved) (hk : v.entry k = none) :
    Placed R X (fun _ => False) ((v.setPlace i x).setEntry k (some (.collecting, i))) := by
  obtain ⟨hq, ho⟩ := h.nowhere (i := i) (by rw [hi]; decide) (by rw [hi]; decide)
  have hn : ∀ j y, v.entry j ≠ some (y, i) := h.no_entry (by rw [hi]; decide) (.inr (by rw [hi]; decide))
  have hX : ¬ X i := fun g => by
    obtain ⟨hs, -⟩ := h.limbo i g
    rw [hi] at hs
    rcases hs with hs | hs <;> cases hs
  set w := (v.setPlace i x).setEntry k (some (.collecting, i))
  have place_i : w.place i = x := Places.setPlace_self ..
  have place_ne : ∀ j, j ≠ i → w.place j = v.place j := fun j hj => Places.setPlace_ne hj _
  have state_ne : ∀ j st, st ≠ .reserved → (w.place j).state = st → j ≠ i := fun j st hs hj e => by
    rw [e, place_i, hx] at hj; exact hs hj.symm
  have fly_ne : ∀ j, flies (w.place j).state = true → j ≠ i := fun j hj e => by rw [e, place_i, hx] at hj; cases hj
  have old : ∀ j y m, w.entry j = some (y, m) → v.entry j = some (y, m) ∧ m ≠ i ∨ j = k ∧ y = .collecting ∧ m = i := fun j y m hj => by
    by_cases e : j = k
    · subst e; rw [Places.setEntry_self] at hj; cases hj; exact .inr ⟨rfl, rfl, rfl⟩
    · rw [Places.setEntry_ne e] at hj; exact .inl ⟨hj, fun g => hn j y (g ▸ hj)⟩
  refine ⟨fun p j hj => ?_, h.once, fun j hj hx' => ?_, h.waiting, fun j hj => ?_, fun j m hj hm => ?_, fun j hj => ?_, fun j m hj _ => ?_,
    fun j m hj _ => ?_, fun j l y z m hj hl => ?_, fun j hj => ?_, fun p j f hf hj => ?_, fun j hj => ?_⟩
  · have hne : j ≠ i := fun e => hq p (e ▸ hj)
    rw [place_ne j hne]; exact h.queue p j hj
  · have hne := state_ne j _ (by decide) hj
    rw [place_ne j hne] at hj ⊢; exact h.queued j hj hx'
  · have hne := fly_ne j hj
    rw [place_ne j hne] at hj ⊢; exact h.flying j hj
  · have hne := fly_ne j hj
    have hne' := fly_ne m hm
    rw [place_ne j hne] at hj ⊢; rw [place_ne m hne'] at hm ⊢; exact h.alone j m hj hm
  · by_cases e : j = i
    · exact ⟨k, .collecting, by rw [e]; exact Places.setEntry_self ..⟩
    · rw [place_ne j e] at hj
      obtain ⟨l, y, hl⟩ := h.reserved j hj
      have hne : l ≠ k := fun g => by rw [g, hk] at hl; cases hl
      exact ⟨l, y, (Places.setEntry_ne hne _).trans hl⟩
  · rcases old j _ m hj with ⟨hj, hm⟩ | ⟨-, -, rfl⟩
    · rw [place_ne m hm]; exact h.collecting j m hj id
    · rw [place_i]; exact hx
  · rcases old j _ m hj with ⟨hj, hm⟩ | ⟨-, hy, -⟩
    · rw [place_ne m hm]; exact h.delivering j m hj id
    · cases hy
  · rcases old j y m hj with ⟨hj, hm⟩ | ⟨rfl, -, rfl⟩ <;> rcases old l z m hl with ⟨hl, hm'⟩ | ⟨rfl, -, e⟩
    · exact h.entries j l y z m hj hl
    · exact absurd e hm
    · exact absurd rfl hm'
    · rfl
  · have hne := state_ne j _ (by decide) hj
    rw [place_ne j hne] at hj ⊢; exact h.held j hj
  · have hne : j ≠ i := fun e => by rw [e, ho p f hf] at hj; cases hj
    rw [place_ne j hne]; exact h.replies p j f hf hj
  · have hne : j ≠ i := fun e => hX (e ▸ hj)
    rw [place_ne j hne]; exact h.limbo j hj

/-- A QUEUED record that has left its queue goes in flight, alone on its READY port (R54, R59). -/
theorem launch (h : Placed R X (fun _ => False) v) {i : RecId} {p : PortId} (hX : X i) (hi : (v.place i).state = .queued) (hr : R p)
    (hp : (v.place i).port = some p) (ha : ∀ j, flies (v.place j).state = true → (v.place j).port ≠ some p) :
    Placed R (fun j => X j ∧ j ≠ i) (fun _ => False) (v.setPlace i { v.place i with state := .sending }) := by
  obtain ⟨hq, ho, -, -⟩ := h.away hX
  set w := v.setPlace i { v.place i with state := .sending }
  have place_i : w.place i = { v.place i with state := .sending } := Places.setPlace_self ..
  have place_ne : ∀ j, j ≠ i → w.place j = v.place j := fun j hj => Places.setPlace_ne hj _
  have state_ne : ∀ j st, st ≠ .sending → (w.place j).state = st → j ≠ i := fun j st hs hj e => by
    rw [e, place_i] at hj; exact hs hj.symm
  refine ⟨fun r j hj => ?_, h.once, fun j hj hx => ?_, h.waiting, fun j hj => ?_, fun j m hj hm hjm => ?_, fun j hj => ?_, fun k j hk _ => ?_,
    fun k j hk _ => ?_, h.entries, fun j hj => ?_, fun r j f hf hj => ?_, fun j hj => ?_⟩
  · have hne : j ≠ i := fun e => hq r (e ▸ hj)
    obtain ⟨h1, h2, h3⟩ := h.queue r j hj
    rw [place_ne j hne]; exact ⟨h1, h2, fun g => h3 g.1⟩
  · have hne := state_ne j _ (by decide) hj
    rw [place_ne j hne] at hj ⊢; exact h.queued j hj fun g => hx ⟨g, hne⟩
  · by_cases e : j = i
    · subst e; rw [place_i]; exact ⟨p, hp, hr⟩
    · rw [place_ne j e] at hj ⊢; exact h.flying j hj
  · by_cases e : j = i <;> by_cases e' : m = i
    · rw [e, e']
    · subst e; rw [place_ne m e'] at hm hjm; rw [place_i] at hjm; exact absurd (hjm.symm.trans hp) (ha m hm)
    · subst e'; rw [place_ne j e] at hj hjm; rw [place_i] at hjm; exact absurd (hjm.trans hp) (ha j hj)
    · rw [place_ne j e] at hj hjm; rw [place_ne m e'] at hm hjm; exact h.alone j m hj hm hjm
  · have hne := state_ne j _ (by decide) hj
    rw [place_ne j hne] at hj; exact h.reserved j hj
  · have hc := h.collecting k j hk id
    have hne : j ≠ i := fun e => by rw [e, hi] at hc; cases hc
    rw [place_ne j hne]; exact hc
  · obtain ⟨hs, hd⟩ := h.delivering k j hk id
    by_cases e : j = i
    · subst e; rw [place_i]; exact ⟨.inr (.inl rfl), hd⟩
    · rw [place_ne j e]; exact ⟨hs, hd⟩
  · have hne := state_ne j _ (by decide) hj
    rw [place_ne j hne] at hj ⊢; exact h.held j hj
  · have hne : j ≠ i := fun e => by rw [e, ho r f hf] at hj; cases hj
    rw [place_ne j hne]; exact h.replies r j f hf hj
  · rw [place_ne j hj.2]; exact h.limbo j hj.1

/-- A HELD record is freed, its UNIT REPLY gone from its port's list (R68, R71). -/
theorem unhold (h : Placed R X K v) {i : RecId} {p : PortId} {l : List OutFrame} (hi : (v.place i).state = .held)
    (hp : (v.place i).port = some p) (hl : l.Sublist (v.out p)) (hc : ∀ j, j ≠ i → l.countP (isReplyOf j) = (v.out p).countP (isReplyOf j))
    (h0 : l.countP (isReplyOf i) = 0) : Placed R X K ((v.setOut p l).setPlace i freePlace) := by
  have he : ∀ k x, v.entry k = some (x, i) → K k := fun k x hk => by
    by_contra hK
    cases x with
    | collecting => rw [h.collecting k i hk hK] at hi; cases hi
    | delivering =>
      obtain ⟨hs, -⟩ := h.delivering k i hk hK
      rw [hi] at hs
      rcases hs with hs | hs | hs <;> cases hs
  set w := (v.setOut p l).setPlace i freePlace
  have place_i : w.place i = freePlace := Places.setPlace_self ..
  have place_ne : ∀ j, j ≠ i → w.place j = v.place j := fun j hj => Places.setPlace_ne hj _
  have state_ne : ∀ j st, st ≠ .free → (w.place j).state = st → j ≠ i := fun j st hs hj e => by
    rw [e, place_i] at hj; exact hs hj.symm
  have fly_ne : ∀ j, flies (w.place j).state = true → j ≠ i := fun j hj e => by rw [e, place_i] at hj; cases hj
  have old_ne : ∀ j, (v.place j).state ≠ .held → j ≠ i := fun j hj e => hj (e ▸ hi)
  have mem : ∀ r f, f ∈ w.out r → f ∈ v.out r ∧ isReplyOf i f = false := fun r f hf => by
    by_cases e : r = p
    · subst e
      have hf : f ∈ l := by rw [show w.out r = l from Places.setOut_self ..] at hf; exact hf
      rw [List.countP_eq_zero] at h0
      exact ⟨hl.subset hf, by simpa using h0 f hf⟩
    · have hf : f ∈ v.out r := by rw [show w.out r = v.out r from Places.setOut_ne e _] at hf; exact hf
      refine ⟨hf, ?_⟩
      rw [← Bool.not_eq_true]
      exact fun g => e (Option.some.inj ((h.replies r i f hf g).2.symm.trans hp))
  refine ⟨fun r j hj => ?_, h.once, fun j hj => ?_, h.waiting, fun j hj => ?_, fun j m hj hm => ?_, fun j hj => ?_, fun k j hk hK => ?_,
    fun k j hk hK => ?_, h.entries, fun j hj => ?_, fun r j f hf hj => ?_, fun j hj => ?_⟩
  · have hq := h.queue r j hj
    have hne := old_ne j (by rw [hq.1]; decide)
    rw [place_ne j hne]; exact hq
  · have hne := state_ne j _ (by decide) hj
    rw [place_ne j hne] at hj ⊢; exact h.queued j hj
  · have hne := fly_ne j hj
    rw [place_ne j hne] at hj ⊢; exact h.flying j hj
  · have hne := fly_ne j hj
    have hne' := fly_ne m hm
    rw [place_ne j hne] at hj ⊢; rw [place_ne m hne'] at hm ⊢; exact h.alone j m hj hm
  · have hne := state_ne j _ (by decide) hj
    rw [place_ne j hne] at hj; exact h.reserved j hj
  · have hne : j ≠ i := fun e => hK (he k _ (e ▸ hk))
    rw [place_ne j hne]; exact h.collecting k j hk hK
  · have hne : j ≠ i := fun e => hK (he k _ (e ▸ hk))
    rw [place_ne j hne]; exact h.delivering k j hk hK
  · have hne := state_ne j _ (by decide) hj
    rw [place_ne j hne] at hj ⊢
    obtain ⟨r, hr, hn⟩ := h.held j hj
    refine ⟨r, hr, ?_⟩
    by_cases e : r = p
    · subst e; rw [show w.out r = l from Places.setOut_self .., hc j hne]; exact hn
    · rw [show w.out r = v.out r from Places.setOut_ne e _]; exact hn
  · obtain ⟨hf, hi'⟩ := mem r f hf
    have hne : j ≠ i := fun e => by rw [e, hi'] at hj; cases hj
    rw [place_ne j hne]; exact h.replies r j f hf hj
  · have hs := (h.limbo j hj).1
    have hne := old_ne j fun e => by rw [e] at hs; rcases hs with hs | hs <;> cases hs
    rw [place_ne j hne]; exact h.limbo j hj

/-- A list that changes in UNIT EVENTs only (R110, R111). -/
theorem setOut (h : Placed R X K v) {p : PortId} {l : List OutFrame} (hc : ∀ i, l.countP (isReplyOf i) = (v.out p).countP (isReplyOf i)) :
    Placed R X K (v.setOut p l) := by
  have same : ∀ r i, ((v.setOut p l).out r).countP (isReplyOf i) = (v.out r).countP (isReplyOf i) := fun r i => by
    by_cases e : r = p
    · subst e; rw [Places.setOut_self, hc]
    · rw [Places.setOut_ne e]
  refine { h with held := fun i hi => ?_, replies := fun r i f hf hi => ?_ }
  · obtain ⟨r, hr, hn⟩ := h.held i hi
    exact ⟨r, hr, by rw [same]; exact hn⟩
  · have hpos : 0 < (v.out r).countP (isReplyOf i) := by rw [← same]; exact List.countP_pos_iff.mpr ⟨f, hf, hi⟩
    obtain ⟨g, hg, hgi⟩ := List.countP_pos_iff.mp hpos
    exact h.replies r i g hg hgi

end

end Placed

end Sys2Proof.Machine
end

section
/-! SUPPORT. What the operations of the model do to the places of the exchange records, and that they keep the law of the places. -/

namespace Sys2Proof.Machine

/-! ### Updates of one record -/

section
variable {s t : State}

theorem placesOf_modPort (p : PortId) (f : Port → Port) (s : State) : placesOf (modPort p f s) =
    ((placesOf s).setQueue p (f s.ports[p]).queue).setOut p (f s.ports[p]).outbound := by
  have hq : (fun r => (modPort p f s).ports[r].queue) = Function.update (fun r => s.ports[r].queue) p (f s.ports[p]).queue := by
    funext r
    by_cases h : r = p
    · subst h; rw [modPort_self, Function.update_self]
    · rw [modPort_ne s h, Function.update_of_ne h]
  have ho : (fun r => (modPort p f s).ports[r].outbound) = Function.update (fun r => s.ports[r].outbound) p (f s.ports[p]).outbound := by
    funext r
    by_cases h : r = p
    · subst h; rw [modPort_self, Function.update_self]
    · rw [modPort_ne s h, Function.update_of_ne h]
  simp only [placesOf, Places.setQueue, Places.setOut, hq, ho]
  rfl

theorem placesOf_modPort_queue {p : PortId} {f : Port → Port} (h : (f s.ports[p]).outbound = s.ports[p].outbound) :
    placesOf (modPort p f s) = (placesOf s).setQueue p (f s.ports[p]).queue := by
  rw [placesOf_modPort, h]
  exact congrArg (fun o => { (placesOf s).setQueue p (f s.ports[p]).queue with out := o }) (Function.update_eq_self p (placesOf s).out)

theorem placesOf_modPort_out {p : PortId} {f : Port → Port} (h : (f s.ports[p]).queue = s.ports[p].queue) :
    placesOf (modPort p f s) = (placesOf s).setOut p (f s.ports[p]).outbound := by
  rw [placesOf_modPort, h]
  exact congrArg (fun q => { (placesOf s).setOut p (f s.ports[p]).outbound with queue := q }) (Function.update_eq_self p (placesOf s).queue)

theorem placesOf_modPort_same {p : PortId} {f : Port → Port} (hq : (f s.ports[p]).queue = s.ports[p].queue)
    (ho : (f s.ports[p]).outbound = s.ports[p].outbound) : placesOf (modPort p f s) = placesOf s := by
  rw [placesOf_modPort_queue ho, hq]
  exact congrArg (fun q => { placesOf s with queue := q }) (Function.update_eq_self p (placesOf s).queue)

theorem placesOf_modRec (i : RecId) (f : Exchange → Exchange) (s : State) :
    placesOf (modRec i f s) = (placesOf s).setPlace i (placeOf (f s.pool[i])) := by
  have h : (fun j => placeOf (modRec i f s).pool[j]) = Function.update (fun j => placeOf s.pool[j]) i (placeOf (f s.pool[i])) := by
    funext j
    by_cases h : j = i
    · subst h; rw [modRec_self, Function.update_self]
    · rw [modRec_ne s h, Function.update_of_ne h]
  simp only [placesOf, Places.setPlace, h]
  rfl

theorem placesOf_modRec_same {i : RecId} {f : Exchange → Exchange} (h : placeOf (f s.pool[i]) = placeOf s.pool[i]) :
    placesOf (modRec i f s) = placesOf s := by
  rw [placesOf_modRec, h]
  exact congrArg (fun q => { placesOf s with place := q }) (Function.update_eq_self i (placesOf s).place)

theorem placesOf_freeRecord (i : RecId) (s : State) : placesOf (freeRecord i s) = (placesOf s).setPlace i freePlace := placesOf_modRec i _ s

theorem placesOf_modPos (k : PosId) (f : Position → Position) (s : State) :
    placesOf (modPos k f s) = (placesOf s).setEntry k (entryPlace (f s.positions[k]).entry) := by
  have h : (fun j => entryPlace (modPos k f s).positions[j].entry) =
      Function.update (fun j => entryPlace s.positions[j].entry) k (entryPlace (f s.positions[k]).entry) := by
    funext j
    by_cases h : j = k
    · subst h; rw [modPos_self, Function.update_self]
    · rw [modPos_ne s h, Function.update_of_ne h]
  simp only [placesOf, Places.setEntry, h]
  rfl

theorem placesOf_of_entries (hp : t.ports = s.ports) (hr : t.pool = s.pool)
    (he : ∀ k : PosId, entryPlace t.positions[k].entry = entryPlace s.positions[k].entry) : placesOf t = placesOf s := by
  simp only [placesOf, hp, hr, he]

end

/-! ### Operations that move no record -/

/-- What leads from `s` to `t` moves no record, and no port enters or leaves READY. -/
structure Still (s t : State) : Prop where
  places : placesOf t = placesOf s
  ready : Ready t = Ready s

namespace Still

section
variable {s t u : State}

protected theorem refl (s : State) : Still s s := ⟨rfl, rfl⟩

protected theorem trans (h : Still s t) (g : Still t u) : Still s u := ⟨g.places.trans h.places, g.ready.trans h.ready⟩

theorem foldl {α : Type} {f : State → α → State} (hf : ∀ t a, Still t (f t a)) (l : List α) (s : State) : Still s (l.foldl f s) :=
  l.foldlRecOn f (motive := fun t => Still s t) (.refl s) fun _ ht a _ => ht.trans (hf _ a)

theorem of_eq (hp : t.ports = s.ports := by rfl) (hr : t.pool = s.pool := by rfl) (hk : t.positions = s.positions := by rfl) : Still s t :=
  ⟨placesOf_of_entries hp hr fun k => by rw [hk], by funext p; simp only [Ready, hp]⟩

theorem poolLaw (h : Still s t) (hl : PoolLaw s) : PoolLaw t := by
  rw [poolLaw_iff] at hl ⊢
  rw [h.places, h.ready]
  exact hl

end

end Still

section
variable {s : State}

theorem ready_modPort {p : PortId} {f : Port → Port} (h : (f s.ports[p]).state = .ready ↔ s.ports[p].state = .ready) :
    Ready (modPort p f s) = Ready s := by
  funext r
  by_cases hr : r = p
  · subst hr; exact propext (by rw [Ready, modPort_self]; exact h)
  · rw [Ready, modPort_ne s hr, Ready]

theorem still_modPort {p : PortId} {f : Port → Port} (hq : (f s.ports[p]).queue = s.ports[p].queue)
    (ho : (f s.ports[p]).outbound = s.ports[p].outbound) (hs : (f s.ports[p]).state = .ready ↔ s.ports[p].state = .ready) :
    Still s (modPort p f s) := ⟨placesOf_modPort_same hq ho, ready_modPort hs⟩

theorem still_modRec {i : RecId} {f : Exchange → Exchange} (h : placeOf (f s.pool[i]) = placeOf s.pool[i]) : Still s (modRec i f s) :=
  ⟨placesOf_modRec_same h, rfl⟩

theorem still_modPos {k : PosId} {f : Position → Position} (h : entryPlace (f s.positions[k]).entry = entryPlace s.positions[k].entry) :
    Still s (modPos k f s) := ⟨placesOf_of_entries rfl rfl (modPos_field (fun q => entryPlace q.entry) h), rfl⟩

theorem still_refreshLamp (k : PosId) : Still s (refreshLamp k s) := still_modPos (by rw [setLamp_eq, lit_entry])

theorem still_noticeChanged (m : Notice) : Still s (noticeChanged m s) := by
  cases m with
  | call k =>
    have h : Still s (refreshAttention s) := .of_eq
    exact h.trans (still_refreshLamp k)
  | _ => exact .of_eq

theorem still_raiseNotice (m : Notice) : Still s (raiseNotice m s) := by
  unfold raiseNotice
  split
  · exact .refl s
  · have h : Still s { s with notices := insertNotice m s.notices } := .of_eq
    exact h.trans (still_noticeChanged m)

theorem still_countPort (c : PortCounter) (p : PortId) : Still s (countPort c p s) := still_modPort rfl rfl Iff.rfl

theorem still_refuse (tag : Byte) (st : Status) : Still s (refuse tag st s) := by
  unfold refuse
  split
  · exact .of_eq
  · exact .of_eq

theorem still_queueProgress (k : PosId) (n : Nat) (a b : Bool) : Still s (queueProgress k n a b s) := by
  unfold queueProgress
  split
  · exact .of_eq
  · split
    · exact .of_eq
    · exact .of_eq

theorem still_reportToGroup (g : Option Byte) : Still s (reportToGroup g s) := by
  cases g with
  | none => exact .refl s
  | some tag =>
    have h := memberEnded_frame s tag
    show Still s (memberEnded tag s)
    rw [h]
    exact .of_eq

theorem still_reportToPort (p : PortId) (i : RecId) (st : EndStatus) : Still s (reportToPort p i st s) := still_modPort rfl rfl Iff.rfl

end

/-! ### Operations that keep the law of the places whatever the READY ports -/

/-- What leads from `s` to `t` keeps the law of the places, whatever the READY ports and the records on their way; no port enters or leaves
READY, no record goes in flight, and the queues stay. -/
structure Moves (s t : State) : Prop where
  placed : ∀ R X, Placed R X (fun _ => False) (placesOf s) → Placed R X (fun _ => False) (placesOf t)
  ready : Ready t = Ready s

theorem Still.moves {s t : State} (h : Still s t) : Moves s t := ⟨fun _ _ => by rw [h.places]; exact id, h.ready⟩

namespace Moves

section
variable {s t u : State}

protected theorem refl (s : State) : Moves s s := (Still.refl s).moves

protected theorem trans (h : Moves s t) (g : Moves t u) : Moves s u := ⟨fun R X => g.placed R X ∘ h.placed R X, g.ready.trans h.ready⟩

theorem foldl {α : Type} {f : State → α → State} (hf : ∀ t a, Moves t (f t a)) (l : List α) (s : State) : Moves s (l.foldl f s) :=
  l.foldlRecOn f (motive := fun t => Moves s t) (.refl s) fun _ ht a _ => ht.trans (hf _ a)

theorem poolLaw (h : Moves s t) (hl : PoolLaw s) : PoolLaw t := by
  rw [poolLaw_iff] at hl ⊢
  rw [h.ready]
  exact h.placed _ _ hl

end

end Moves

section
variable {s : State}

theorem placesOf_endEntry (k : PosId) (o : EntryOutcome) (c : EntryCause) (st : Byte) (d : List Byte) :
    placesOf (endEntry k o c st d s) = (placesOf s).ended k := by
  cases he : s.positions[k].entry with
  | none =>
    have h0 : (placesOf s).entry k = none := by simp only [placesOf, he, entryPlace, Option.map_none]
    simp only [endEntry, he, Places.ended, h0]
  | some e =>
    have h0 : (placesOf s).entry k = some (e.state, e.record) := by simp only [placesOf, he, entryPlace, Option.map_some]
    simp only [endEntry, he, Places.ended, h0]
    rw [(still_refreshLamp k).places, placesOf_modPos]
    by_cases hr : s.pool[e.record].state = .reserved
    · have hr' : ((placesOf s).place e.record).state = .reserved := hr
      rw [if_pos hr, if_pos hr', ← placesOf_freeRecord]
      rfl
    · have hr' : ¬ ((placesOf s).place e.record).state = .reserved := hr
      rw [if_neg hr, if_neg hr']
      rfl

theorem moves_endEntry (k : PosId) (o : EntryOutcome) (c : EntryCause) (st : Byte) (d : List Byte) : Moves s (endEntry k o c st d s) := by
  refine ⟨fun R X h => ?_, ?_⟩
  · rw [placesOf_endEntry]; exact h.ended fun _ g => g.elim
  · rw [endEntry_frame]; rfl

theorem moves_abandonCollecting (k : PosId) (c : EntryCause) : Moves s (abandonCollecting k c s) := by
  unfold abandonCollecting
  split
  · exact moves_endEntry k _ _ _ _
  · exact .refl s

theorem moves_reportUnusable (u : UnitId) : Moves s (reportUnusable u s) := by
  unfold reportUnusable
  split
  · exact moves_abandonCollecting _ _
  · exact .refl s

theorem still_raiseFault (u : UnitId) (r : Usable) : Still s (raiseFault u r s) := by
  unfold raiseFault
  split
  · exact still_raiseNotice _
  · exact .refl s

theorem moves_evaluationEffects (u : UnitId) (r : Usable) : Moves s (evaluationEffects u r s) := by
  unfold evaluationEffects
  split
  · exact .refl s
  · exact (still_raiseFault u r).moves.trans (moves_reportUnusable u)

theorem moves_evaluate (u : UnitId) : Moves s (evaluate u s) := moves_evaluationEffects u _

theorem moves_reevaluate (p : PortId) : Moves s (reevaluate p s) :=
  Moves.foldl (fun t u => by
    split
    · exact moves_evaluate u
    · exact .refl t) _ _

theorem still_clearCard (p : PortId) : Still s (clearCard p s) := by
  unfold clearCard
  split
  · exact .refl s
  · split
    · exact still_modPos rfl
    · exact .refl s

end

/-! ### Ends of exchanges -/

/-- What an end of an exchange on its way leads to: the record is no longer on its way and not in flight, nothing else goes in flight, and the
queues and the READY ports stay. -/
structure Ends (X : RecId → Prop) (R : PortId → Prop) (i : RecId) (s t : State) : Prop where
  placed : Placed R (fun j => X j ∧ j ≠ i) (fun _ => False) (placesOf t)
  queue : (placesOf t).queue = (placesOf s).queue
  flies : ∀ j, flies ((placesOf t).place j).state = true → (placesOf t).place j = (placesOf s).place j ∧ j ≠ i
  ready : Ready t = Ready s

theorem Places.ended_queue (k : PosId) (v : Places) : (v.ended k).queue = v.queue := by
  unfold Places.ended
  split
  · rfl
  · split <;> rfl

theorem Places.ended_flies {k : PosId} {v : Places} {j : RecId} (h : flies ((v.ended k).place j).state = true) :
    (v.ended k).place j = v.place j := by
  unfold Places.ended at h ⊢
  split at h
  · rfl
  · rename_i x i he
    split at h
    · rename_i hr
      simp only [hr, ↓reduceIte] at h ⊢
      by_cases e : j = i
      · subst e; rw [Places.setEntry_place, Places.setPlace_self] at h; cases h
      · exact Places.setPlace_ne e _
    · rename_i hr
      simp only [hr, ↓reduceIte] at h ⊢
      rfl

section
variable {s : State} {R : PortId → Prop} {X : RecId → Prop} {i : RecId}

/-- A record on its way is freed, no entry having it. -/
theorem ends_freeRecord (h : Placed R X (fun _ => False) (placesOf s)) (hi : X i) (he : ∀ k x, (placesOf s).entry k ≠ some (x, i)) :
    Ends X R i s (freeRecord i s) where
  placed := by rw [placesOf_freeRecord]; exact h.free hi fun k x g => he k x g
  queue := by rw [placesOf_freeRecord]; rfl
  flies j hj := by
    rw [placesOf_freeRecord] at hj ⊢
    by_cases e : j = i
    · subst e; rw [Places.setPlace_self] at hj; cases hj
    · exact ⟨Places.setPlace_ne e _, e⟩
  ready := rfl

theorem Ends.of_still {t u : State} (hs : Still s t) (h : Ends X R i t u) : Ends X R i s u where
  placed := h.placed
  queue := by rw [h.queue, hs.places]
  flies := by have := h.flies; rwa [hs.places] at this
  ready := h.ready.trans hs.ready

theorem ends_endDelivery (h : Placed R X (fun _ => False) (placesOf s)) (hi : X i) (st : EndStatus) (status : Byte) (data : List Byte) :
    Ends X R i s (endDelivery i st status data s) := by
  obtain ⟨-, -, hr, -⟩ := h.away hi
  unfold endDelivery
  dsimp only
  split
  · rename_i k hk
    have he : ∀ j x, (placesOf s).entry j = some (x, i) → j = k := fun j x hj => by
      cases x with
      | collecting => exact absurd (h.collecting j i hj id) hr
      | delivering =>
        obtain ⟨-, -, hp⟩ := h.delivering j i hj id
        exact Option.some.inj (hp.symm.trans hk)
    have hlost : Placed R X (fun j => j = k) (placesOf s) := h.lose
    refine ⟨?_, ?_, fun j hj => ?_, ?_⟩
    · rw [placesOf_endEntry, placesOf_freeRecord]
      exact (hlost.free hi he).ended fun _ => id
    · rw [placesOf_endEntry, placesOf_freeRecord, Places.ended_queue]; rfl
    · rw [placesOf_endEntry, placesOf_freeRecord] at hj ⊢
      have hsame := Places.ended_flies hj
      rw [hsame] at hj ⊢
      by_cases e : j = i
      · subst e; rw [Places.setPlace_self] at hj; cases hj
      · exact ⟨Places.setPlace_ne e _, e⟩
    · rw [endEntry_frame]; rfl
  · rename_i hk
    refine ends_freeRecord h hi fun j x hj => ?_
    cases x with
    | collecting => exact hr (h.collecting j i hj id)
    | delivering =>
      obtain ⟨-, -, hp⟩ := h.delivering j i hj id
      have hk' : ((placesOf s).place i).position = none := hk
      rw [hk'] at hp; cases hp

theorem ends_holdReply {p : PortId} (h : Placed R X (fun _ => False) (placesOf s)) (hi : X i) (hp : s.pool[i].port = some p)
    (ho : s.pool[i].origin ≠ some .delivery) (late : Bool) (st : EndStatus) (status : Byte) (data : List Byte) :
    Ends X R i s (holdReply i p late st status data s) := by
  obtain ⟨-, -, hr, -⟩ := h.away hi
  have hv : placesOf (holdReply i p late st status data s) =
      ((placesOf s).setPlace i { placeOf s.pool[i] with state := .held }).setOut p ((placesOf s).out p ++
        [OutFrame.reply i (s.pool[i].unit.getD 0) (s.pool[i].tag.getD 0) s.pool[i].group.isSome late st status data]) := by
    unfold holdReply
    dsimp only
    rw [placesOf_modPort_out rfl, placesOf_modRec]
    rfl
  refine ⟨?_, ?_, fun j hj => ?_, ?_⟩
  · rw [hv]
    exact h.hold hi (h.no_entry hr (.inl ho)) rfl hp fun _ => rfl
  · rw [hv]; rfl
  · rw [hv] at hj ⊢
    by_cases e : j = i
    · subst e; rw [Places.setOut_place, Places.setPlace_self] at hj; cases hj
    · exact ⟨Places.setPlace_ne e _, e⟩
  · exact ready_modPort (s := modRec i _ s) Iff.rfl

theorem ends_endExchange (h : Placed R X (fun _ => False) (placesOf s)) (hi : X i) (st : EndStatus) (status : Byte) (data : List Byte) :
    Ends X R i s (endExchange i st status data s) := by
  obtain ⟨-, p, hp⟩ := h.limbo i hi
  have hp : s.pool[i].port = some p := hp
  unfold endExchange
  simp only [hp]
  set s1 := modRec i (fun r => { r with endStatus := some st, deviceStatus := status, replyData := data, deadline := none }) s
  have h1 : Still s s1 := still_modRec rfl
  have h3 : Still s (reportToGroup s.pool[i].group (reportToPort p i st s1)) := h1.trans ((still_reportToPort p i st).trans (still_reportToGroup _))
  set s3 := reportToGroup s.pool[i].group (reportToPort p i st s1)
  have hpl : placeOf s3.pool[i] = placeOf s.pool[i] := congrFun (congrArg Places.place h3.places) i
  have h' : Placed R X (fun _ => False) (placesOf s3) := by rw [h3.places]; exact h
  split
  · exact (ends_endDelivery h' hi st status data).of_still h3
  · rename_i ho
    refine (ends_holdReply h' hi ?_ ?_ _ st status data).of_still h3
    · exact (congrArg Place.port hpl).trans hp
    · rw [show s3.pool[i].origin = s.pool[i].origin from congrArg Place.origin hpl]; exact ho

/-- An orphan on its way is known to no entry. -/
theorem orphan_no_entry (h : Placed R X (fun _ => False) (placesOf s)) (ho : s.pool[i].state = .orphaned) (k : PosId) (x : EntryState) :
    (placesOf s).entry k ≠ some (x, i) := by
  have ho : ((placesOf s).place i).state = .orphaned := ho
  exact h.no_entry (by rw [ho]; decide) (.inr (by rw [ho]; decide)) k x

theorem ends_endOrphan (h : Placed R X (fun _ => False) (placesOf s)) (hi : X i) (ho : s.pool[i].state = .orphaned) (st : EndStatus) :
    Ends X R i s (endOrphan i st s) := by
  obtain ⟨-, p, hp⟩ := h.limbo i hi
  have hp : s.pool[i].port = some p := hp
  unfold endOrphan
  simp only [hp]
  have hs : Still s (reportToPort p i st s) := still_reportToPort p i st
  refine (ends_freeRecord ?_ hi ?_).of_still hs
  · rw [hs.places]; exact h
  · rw [hs.places]; exact orphan_no_entry h ho

theorem ends_dropOrphan (h : Placed R X (fun _ => False) (placesOf s)) (hi : X i) (ho : s.pool[i].state = .orphaned) :
    Ends X R i s (dropOrphan i s) := by
  obtain ⟨-, p, hp⟩ := h.limbo i hi
  have hp : s.pool[i].port = some p := hp
  unfold dropOrphan
  simp only [hp]
  have hs : Still s (modPort p (fun q => { q with tx := releaseTx i q.tx }) s) := still_modPort rfl rfl Iff.rfl
  refine (ends_freeRecord ?_ hi ?_).of_still hs
  · rw [hs.places]; exact h
  · rw [hs.places]; exact orphan_no_entry h ho

end

end Sys2Proof.Machine
end

section
/-! SUPPORT. Departures from READY, and the law of the exchange pool under every operation of the model. -/

namespace Sys2Proof.Machine

/-! ### Departures (R73) -/

section
variable {s : State}

/-- Records on their way end one after the other. -/
theorem ends_foldl {R : PortId → Prop} (st : EndStatus) (status : Byte) (data : List Byte) (l : List RecId) (hl : l.Nodup)
    (h : Placed R (fun i => i ∈ l) (fun _ => False) (placesOf s)) :
    let t := l.foldl (fun t i => endExchange i st status data t) s
    PlacedAll R (placesOf t) ∧ (placesOf t).queue = (placesOf s).queue ∧
      (∀ j, flies ((placesOf t).place j).state = true → (placesOf t).place j = (placesOf s).place j) ∧ Ready t = Ready s := by
  induction l generalizing s with
  | nil => exact ⟨h.congr fun i => (by simp), rfl, fun _ _ => rfl, rfl⟩
  | cons i l ih =>
    obtain ⟨hi, hl⟩ := List.nodup_cons.mp hl
    have he := ends_endExchange h List.mem_cons_self st status data
    have h1 : Placed R (fun j => j ∈ l) (fun _ => False) (placesOf (endExchange i st status data s)) :=
      he.placed.congr fun j => ⟨fun hj => ⟨List.mem_cons_of_mem i hj, fun e => hi (e ▸ hj)⟩, fun hj => (List.mem_cons.mp hj.1).resolve_left hj.2⟩
    obtain ⟨g1, g2, g3, g4⟩ := ih hl h1
    refine ⟨g1, g2.trans he.queue, fun j hj => ?_, g4.trans he.ready⟩
    have hs := g3 j hj
    refine hs.trans (he.flies j ?_).1
    rw [← hs]; exact hj

/-- The exchange in flight on a port ends, or its orphan is freed: nothing is in flight there afterwards. -/
theorem placed_endInFlight {R : PortId → Prop} {p : PortId} (st : EndStatus) (h : PlacedAll R (placesOf s)) :
    PlacedAll R (placesOf (endInFlight p st s)) ∧ (placesOf (endInFlight p st s)).queue = (placesOf s).queue ∧
      (∀ j, flies ((placesOf (endInFlight p st s)).place j).state = true → ((placesOf (endInFlight p st s)).place j).port ≠ some p) ∧
      Ready (endInFlight p st s) = Ready s := by
  unfold endInFlight
  split
  · rename_i hn
    refine ⟨h, rfl, fun j hj hp => ?_, rfl⟩
    have := inFlight_none s hn j hp
    rw [← flies_placeOf] at this
    exact Bool.false_ne_true (this.symm.trans hj)
  · rename_i i hf
    obtain ⟨hp, hfly⟩ := inFlight_spec s hf
    have hfly : flies ((placesOf s).place i).state = true := hfly
    have hx : Placed R (fun j => j = i) (fun _ => False) (placesOf s) := (h.leaveLine hfly).congr fun j => by simp
    have done : ∀ t, Ends (fun j => j = i) R i s t → PlacedAll R (placesOf t) ∧ (placesOf t).queue = (placesOf s).queue ∧
        (∀ j, flies ((placesOf t).place j).state = true → ((placesOf t).place j).port ≠ some p) ∧ Ready t = Ready s := fun t ht => by
      refine ⟨ht.placed.congr fun j => ⟨False.elim, fun g => g.2 g.1⟩, ht.queue, fun j hj hpj => ?_, ht.ready⟩
      obtain ⟨hs, hne⟩ := ht.flies j hj
      rw [hs] at hj hpj
      exact hne (h.alone j i hj hfly (hpj.trans hp.symm))
    split
    · rename_i ho
      exact done _ (ends_dropOrphan hx rfl ho)
    · exact done _ (ends_endExchange hx rfl _ _ _)

/-- The exchanges of a port that has left READY end: none of it waits or flies, and every other READY port is as it was. -/
theorem placed_endAll {R R' : PortId → Prop} {p : PortId} (st : EndStatus) (h : PlacedAll R (placesOf s)) (hr : ∀ r, r ≠ p → R r → R' r) :
    PlacedAll R' (placesOf (endQueued p st (endInFlight p st s))) ∧ Ready (endQueued p st (endInFlight p st s)) = Ready s := by
  obtain ⟨h1, -, hfly, hready⟩ := placed_endInFlight (p := p) st h
  set a := endInFlight p st s
  unfold endQueued
  set b := modPort p (fun q => { q with queue := [] }) a
  have hb : placesOf b = (placesOf a).setQueue p [] := placesOf_modPort_queue rfl
  have hleave : Placed R (fun i => i ∈ a.ports[p].queue) (fun _ => False) (placesOf b) := by
    rw [hb]
    refine (h1.leaveQueue (List.nil_sublist _)).congr fun i => ?_
    show i ∈ a.ports[p].queue ↔ False ∨ i ∈ a.ports[p].queue ∧ i ∉ []
    simp
  obtain ⟨g1, g2, g3, g4⟩ := ends_foldl st 0 [] a.ports[p].queue (h1.once p) hleave
  refine ⟨g1.ready (fun r hq hR => ?_) (fun i r hi hp hR => ?_), ?_⟩
  · refine hr r (fun e => hq ?_) hR
    rw [g2, hb, e]
    exact Places.setQueue_self ..
  · refine hr r (fun e => ?_) hR
    have hs := g3 i hi
    rw [hs, hb] at hi hp
    exact hfly i hi (e ▸ hp)
  · rw [g4, ready_modPort Iff.rfl, hready]

/-- A port changes its state, and departs where it was READY: the pool's law holds again at the end. -/
theorem poolLaw_departIf {t : State} {p : PortId} {st : EndStatus} (h : PoolLaw s) (hv : placesOf t = placesOf s)
    (hr : ∀ r, r ≠ p → (Ready t r ↔ Ready s r)) : PoolLaw (departIf (portReady p s) p st t) := by
  rw [poolLaw_iff] at h
  rw [← hv] at h
  unfold departIf
  split
  · obtain ⟨h1, h2⟩ := placed_endAll (R' := Ready t) st h fun r hp => (hr r hp).mpr
    refine (still_clearCard p).poolLaw ((moves_reevaluate p).poolLaw ?_)
    rw [poolLaw_iff, h2]
    exact h1
  · rename_i hn
    have hn : ¬ Ready s p := fun e => hn ((portReady_iff s p).mpr e)
    rw [poolLaw_iff]
    exact h.ready (fun r _ hR => (hr r fun e => hn (e ▸ hR)).mpr hR) fun _ r _ _ hR => (hr r fun e => hn (e ▸ hR)).mpr hR

theorem ready_ne_modPort {p : PortId} (f : Port → Port) (r : PortId) (h : r ≠ p) : Ready (modPort p f s) r ↔ Ready s r := by
  rw [Ready, modPort_ne s h, Ready]

theorem ready_ne_of_still {t u : State} {p : PortId} (h : ∀ r, r ≠ p → (Ready t r ↔ Ready s r)) (hu : Still t u) (r : PortId) (hr : r ≠ p) :
    Ready u r ↔ Ready s r := by rw [hu.ready]; exact h r hr

theorem poolLaw_enterFault (p : PortId) (c : FaultCause) (h : PoolLaw s) : PoolLaw (enterFault p c s) := by
  refine poolLaw_departIf h ?_ (ready_ne_of_still (ready_ne_modPort _) (still_raiseNotice _))
  rw [(still_raiseNotice _).places]
  exact placesOf_modPort_same rfl rfl

theorem poolLaw_silentCheck (p : PortId) (h : PoolLaw s) : PoolLaw (silentCheck p s) := by
  unfold silentCheck
  split
  · exact poolLaw_enterFault p _ h
  · exact h

/-- A port that is not READY changes its state. -/
theorem poolLaw_unready {p : PortId} {f : Port → Port} (h : PoolLaw s) (hn : s.ports[p].state ≠ .ready)
    (hq : (f s.ports[p]).queue = s.ports[p].queue) (ho : (f s.ports[p]).outbound = s.ports[p].outbound) : PoolLaw (modPort p f s) := by
  have hd := poolLaw_departIf (p := p) (st := .detached) h (placesOf_modPort_same hq ho) (ready_ne_modPort f)
  rwa [departIf, if_neg fun e => hn ((portReady_iff s p).mp e)] at hd

/-! ### Pins (R33 to R35) -/

theorem enterEmpty_queue (q : Port) : (enterEmpty q).queue = q.queue := by unfold enterEmpty; split <;> rfl
theorem enterEmpty_outbound (q : Port) : (enterEmpty q).outbound = q.outbound := by unfold enterEmpty; split <;> rfl

theorem poolLaw_presenceAsserted (p : PortId) (h : PoolLaw s) : PoolLaw (modPort p presenceAsserted s) := by
  by_cases he : s.ports[p].state = .empty
  · refine poolLaw_unready h (by rw [he]; decide) ?_ ?_ <;> (unfold presenceAsserted; split <;> rfl)
  · have hq : presenceAsserted s.ports[p] = { s.ports[p] with present := true } := if_neg he
    exact (still_modPort (by rw [hq]) (by rw [hq]) (by rw [hq])).poolLaw h

theorem poolLaw_presenceLost (p : PortId) (h : PoolLaw s) : PoolLaw (presenceLost p s) := by
  have level : PoolLaw (modPort p (fun q => { q with present := false }) s) := (still_modPort rfl rfl Iff.rfl).poolLaw h
  have hq : (presenceEmpty s.ports[p]).queue = s.ports[p].queue := enterEmpty_queue _
  have ho : (presenceEmpty s.ports[p]).outbound = s.ports[p].outbound := enterEmpty_outbound _
  unfold presenceLost
  split
  · rename_i hs
    split
    · exact level
    · exact poolLaw_unready h (by rw [hs]; decide) hq ho
  · rename_i hs
    exact poolLaw_unready h (by rw [hs]; decide) hq ho
  · rename_i hs
    have hd := poolLaw_departIf (p := p) (st := .detached) h
      (((still_raiseNotice (.portDetached p)).places).trans (placesOf_modPort_same hq ho))
      (ready_ne_of_still (ready_ne_modPort _) (still_raiseNotice _))
    rwa [departIf, if_pos ((portReady_iff s p).mpr hs)] at hd
  · exact level

/-! ### Events and keys (R55, R100 to R112, R139 to R144) -/

theorem poolLaw_queueEvent (p : PortId) (u : UnitId) (session code : Byte) (data : List Byte) (h : PoolLaw s) :
    PoolLaw (queueEvent p u session code data s) := by
  unfold queueEvent
  split
  · have hlost : Still s (modPort p (fun q => { q with lost := if q.lost = 0xFF then q.lost else q.lost + 1 }) s) :=
      still_modPort rfl rfl Iff.rfl
    exact (hlost.trans ((still_countPort _ p).trans (still_raiseNotice _))).poolLaw h
  · rw [poolLaw_iff] at h ⊢
    rw [placesOf_modPort_out rfl, ready_modPort Iff.rfl]
    refine h.setOut fun i => ?_
    simp only [List.countP_append, List.countP_singleton, isReplyOf, Bool.false_eq_true, ↓reduceIte, Nat.add_zero]
    rfl

theorem poolLaw_passEvent (p : PortId) (u : UnitId) (session code : Byte) (data : List Byte) (h : PoolLaw s) :
    PoolLaw (passEvent p u session code data s) := by
  unfold passEvent
  split
  · exact poolLaw_queueEvent _ _ _ _ _ h
  · exact (still_countPort _ p).poolLaw h

theorem moves_trackCard (k : PosId) (role : Role) (code : Byte) : Moves s (trackCard k role code s) := by
  unfold trackCard
  split
  · exact (still_modPos rfl).moves
  · split
    · have hc : Still s (modPos k (fun q => { q with card := .noCard }) s) := still_modPos rfl
      exact hc.moves.trans (moves_abandonCollecting k _)
    · exact .refl s

theorem still_cardWaits (k : PosId) (role : Role) (code : Byte) : Still s (cardWaits k role code s) := by
  unfold cardWaits
  split
  · exact still_raiseNotice _
  · exact .refl s

theorem poolLaw_gateEvent (p : PortId) (u : UnitId) (k : PosId) (role : Role) (code : Byte) (data : List Byte) (h : PoolLaw s) :
    PoolLaw (gateEvent p u k role code data s) := by
  unfold gateEvent
  split
  · split
    · exact (still_raiseNotice _).poolLaw h
    · exact (still_countPort _ p).poolLaw h
  · split
    · exact (still_countPort _ p).poolLaw h
    · exact poolLaw_passEvent _ _ _ _ _ ((still_cardWaits k role code).poolLaw h)

theorem still_keyTaken {k : PosId} {e x : Entry} (short full : Bool) (he : s.positions[k].entry = some x) (hs : e.state = x.state)
    (hr : e.record = x.record) : Still s (keyTaken k e short full s) := by
  refine Still.trans (still_modPos ?_) (still_queueProgress k _ short full)
  simp only [entryPlace, he, Option.map_some, hs, hr]

theorem Places.overwrite (v : Places) (i : RecId) (k : PosId) (p : PortId) (a b : Place) (c d : Option (EntryState × RecId)) (l : List RecId) :
    ((((v.setPlace i a).setEntry k c).setPlace i b).setQueue p l).setEntry k d = ((v.setPlace i b).setQueue p l).setEntry k d := by
  simp only [Places.setEntry, Places.setQueue, Places.setPlace, Function.update_idem]

/-- The record of a COLLECTING entry becomes its delivery, at the head of a READY port's queue (R55, R144). -/
theorem Placed.deliver {R : PortId → Prop} {v : Places} {k : PosId} {i : RecId} {p : PortId} (h : PlacedAll R v)
    (hk : v.entry k = some (.collecting, i)) (hp : R p) :
    PlacedAll R (((v.setPlace i ⟨.queued, some p, some .delivery, some k⟩).setQueue p (i :: v.queue p)).setEntry k (some (.delivering, i))) := by
  have hended : v.ended k = (v.setPlace i freePlace).setEntry k none := by
    unfold Places.ended; rw [hk]; exact if_pos (h.collecting k i hk id)
  have h1 : PlacedAll R ((v.setPlace i freePlace).setEntry k none) := hended ▸ h.ended fun _ g => g.elim
  have hfree : (((v.setPlace i freePlace).setEntry k none).place i).state = .free := by
    rw [Places.setEntry_place, Places.setPlace_self]; rfl
  have hnone := h1.no_entry (i := i) (by rw [hfree]; decide) (.inr (by rw [hfree]; decide))
  have h2 := h1.enqueue (x := ⟨.queued, some p, some .delivery, some k⟩) hfree hp rfl rfl (List.Perm.refl (i :: v.queue p))
  have hself : ((((v.setPlace i freePlace).setEntry k none).setPlace i ⟨.queued, some p, some .delivery, some k⟩).setQueue p
      (i :: v.queue p)).place i = ⟨.queued, some p, some .delivery, some k⟩ := by rw [Places.setQueue_place, Places.setPlace_self]
  have h3 := h2.enterEntry (k := k) (i := i) hnone (Places.setEntry_self ..) (by rw [hself]) (by rw [hself]) (by rw [hself])
  rwa [Places.overwrite] at h3

theorem placesOf_deliver (k : PosId) (e : Entry) (u : UnitId) (p : PortId) : placesOf (deliver k e u p s) =
    (((placesOf s).setPlace e.record ⟨.queued, some p, some .delivery, some k⟩).setQueue p (e.record :: (placesOf s).queue p)).setEntry k
      (some (.delivering, e.record)) := by
  unfold deliver
  rw [(still_refreshLamp k).places, placesOf_modPos, placesOf_modPort_queue rfl, placesOf_modRec]
  rfl

theorem poolLaw_deliver {k : PosId} {e : Entry} {u : UnitId} {p : PortId} (he : s.positions[k].entry = some e)
    (hc : e.state = .collecting) (hp : s.ports[p].state = .ready) (h : PoolLaw s) : PoolLaw (deliver k e u p s) := by
  have hports : (deliver k e u p s).ports = (modPort p (fun q => { q with queue := e.record :: q.queue }) s).ports := rfl
  have hready : Ready (deliver k e u p s) = Ready s := by
    rw [← ready_modPort (s := s) (p := p) (f := fun q => { q with queue := e.record :: q.queue }) Iff.rfl]
    funext r
    simp only [Ready, hports]
  rw [poolLaw_iff] at h ⊢
  rw [placesOf_deliver, hready]
  exact h.deliver (entryPlace_eq_some.mpr ⟨e, he, hc, rfl⟩) hp

theorem ready_of_usableTest {u : UnitId} {p : PortId} (h : usableTest u s = .usable p) : s.ports[p].state = .ready := by
  have ha : activePort s.routes[u] s = some p := by
    unfold usableTest at h
    dsimp only at h
    split at h
    · cases h
    · split at h
      · cases h
      · split at h
        · cases h
        · rename_i r hr
          split at h
          · cases h
          · cases h; exact hr
  unfold activePort at ha
  split at ha
  · rename_i hr; cases ha; exact (portReady_iff s _).mp hr
  · split at ha
    · split at ha
      · rename_i hr; cases ha; exact (portReady_iff s _).mp hr
      · cases ha
    · cases ha

theorem poolLaw_completeEnter {k : PosId} {e : Entry} (he : s.positions[k].entry = some e) (hc : e.state = .collecting) (h : PoolLaw s) :
    PoolLaw (completeEnter k e s) := by
  unfold completeEnter
  split
  · exact (moves_endEntry k _ _ _ _).poolLaw h
  · split
    · unfold enterReader
      split
      · rename_i hu
        exact poolLaw_deliver he hc (ready_of_usableTest hu) h
      · exact ((still_raiseFault _ _).moves.trans (moves_endEntry k _ _ _ _)).poolLaw h
    · exact (moves_endEntry k _ _ _ _).poolLaw h

theorem poolLaw_collectKey {k : PosId} {e : Entry} (b : Byte) (he : s.positions[k].entry = some e) (hc : e.state = .collecting)
    (h : PoolLaw s) : PoolLaw (collectKey k e b s) := by
  unfold collectKey
  split_ifs
  · unfold digitKey
    split
    · exact (still_keyTaken (e := { e with digits := e.digits ++ [b], count := e.digits.length + 1 }) _ _ he rfl rfl).poolLaw h
    · exact (still_keyTaken _ _ he rfl rfl).poolLaw h
  · exact (still_keyTaken (e := { e with digits := [], count := 0 }) _ _ he rfl rfl).poolLaw h
  · unfold enterKey
    split
    · exact (still_keyTaken _ _ he rfl rfl).poolLaw h
    · exact poolLaw_completeEnter he hc h
  · exact (moves_endEntry k _ _ _ _).poolLaw h
  · exact h

theorem poolLaw_takeKey (k : PosId) (key : Option Byte) (h : PoolLaw s) : PoolLaw (takeKey k key s) := by
  unfold takeKey
  split
  · rename_i he
    split
    · rename_i hc
      exact poolLaw_collectKey _ he hc h
    · exact h
  · exact h

theorem poolLaw_eventPath (p : PortId) (code : Byte) (data : List Byte) (h : PoolLaw s) : PoolLaw (eventPath p code data s) := by
  unfold eventPath
  split
  · exact (still_countPort _ p).poolLaw h
  · split
    · exact ((still_raiseNotice _).moves.trans ((moves_reportUnusable _).trans (still_countPort _ p).moves)).poolLaw h
    · split
      · exact poolLaw_passEvent _ _ _ _ _ h
      · have ht := (moves_trackCard (s := s) ‹_› ‹_› code).poolLaw h
        unfold captureEvent
        split
        · exact poolLaw_takeKey _ _ ht
        · exact poolLaw_gateEvent _ _ _ _ _ _ ht

end

end Sys2Proof.Machine
end

section
/-! SUPPORT. The law of the exchange pool under line frames, timers, the transmitter and the requests. -/

namespace Sys2Proof.Machine

section
variable {s : State}

/-! ### Replies and frames of the device lines -/

/-- The exchange in flight on a port ends, or its orphan is freed. -/
theorem poolLaw_of_ends {i : RecId} (h : PoolLaw s) (hi : isInFlight s.pool[i] = true)
    {t : State} (ht : Placed (Ready s) (fun j => j = i) (fun _ => False) (placesOf s) → Ends (fun j => j = i) (Ready s) i s t) : PoolLaw t := by
  rw [poolLaw_iff] at h ⊢
  have hx : Placed (Ready s) (fun j => j = i) (fun _ => False) (placesOf s) := (h.leaveLine (i := i) hi).congr fun j => by simp
  have he := ht hx
  rw [he.ready]
  exact he.placed.congr fun j => ⟨False.elim, fun g => g.2 g.1⟩

theorem poolLaw_takeReply (p : PortId) (f : LineFrame) (h : PoolLaw s) : PoolLaw (takeReply p f s) := by
  unfold takeReply
  split
  · exact (still_countPort _ p).poolLaw h
  · rename_i i hi
    obtain ⟨-, hfly⟩ := inFlight_spec s hi
    split
    · exact (still_countPort _ p).poolLaw h
    · split
      · rename_i ho
        exact poolLaw_of_ends h hfly fun hx => ends_endOrphan hx rfl ho _
      · exact poolLaw_of_ends h hfly fun hx => ends_endExchange hx rfl _ _ _

theorem poolLaw_enterReady (p : PortId) (d : Identity) (h : PoolLaw s) : PoolLaw (enterReady p d s) := by
  unfold enterReady
  set a := modPort p (fun q => { q with state := .ready, identity := some d, failures := 0, identify := none, tx := .idle }) s
  have ha : PoolLaw a := by
    rw [poolLaw_iff] at h ⊢
    rw [placesOf_modPort_same rfl rfl]
    have mono : ∀ r, Ready s r → Ready a r := fun r hr => by
      by_cases e : r = p
      · subst e; rw [Ready, modPort_self]
      · exact (ready_ne_modPort _ r e).mpr hr
    exact h.ready (fun r _ => mono r) fun _ r _ _ => mono r
  have hn := (still_raiseNotice (.portReady p)).poolLaw ha
  refine (moves_reevaluate p).poolLaw ?_
  split
  · exact (still_raiseNotice _).poolLaw hn
  · exact hn

theorem poolLaw_takeIdentifyReply (p : PortId) (f : LineFrame) (h : PoolLaw s) : PoolLaw (takeIdentifyReply p f s) := by
  unfold takeIdentifyReply
  split
  · exact (still_countPort _ p).poolLaw h
  · split
    · exact (still_countPort _ p).poolLaw h
    · split
      · exact poolLaw_enterReady p _ h
      · split
        · refine (still_modPort ?_ ?_ ?_).poolLaw h
          · unfold retryIdentify; split <;> rfl
          · unfold retryIdentify; split <;> rfl
          · unfold retryIdentify; split <;> rfl
        · exact poolLaw_enterFault p _ h

theorem poolLaw_takeLineFrame (p : PortId) (bytes : List Byte) (h : PoolLaw s) : PoolLaw (takeLineFrame p bytes s) := by
  have counted : ∀ c, PoolLaw (countPort c p s) := fun c => (still_countPort c p).poolLaw h
  unfold takeLineFrame
  split
  · exact counted _
  · split
    · unfold passFrame
      split_ifs
      · exact poolLaw_takeReply p _ h
      · exact poolLaw_eventPath p _ _ h
      · exact poolLaw_takeIdentifyReply p _ h
      · exact counted _
      · exact h
    · exact counted _

theorem poolLaw_takeAssembled (p : PortId) (a : Assembled) (h : PoolLaw s) : PoolLaw (takeAssembled p a s) := by
  cases a with
  | quiet => exact h
  | counted => exact (still_countPort _ p).poolLaw h
  | frame bytes => exact poolLaw_takeLineFrame p bytes h

theorem poolLaw_receiveCharacter (p : PortId) (c : RxChar) (h : PoolLaw s) : PoolLaw (receiveCharacter p c s) := by
  unfold receiveCharacter
  split
  · split
    · exact h
    · have ht : ∀ o f, Still s (modPort p (fun q => { q with tx := .sending o f true true, asm := .hunting false, gap := none }) s) :=
        fun _ _ => still_modPort rfl rfl Iff.rfl
      exact ((ht _ _).trans (still_countPort _ p)).poolLaw h
    · unfold sampleCharacter
      dsimp only
      refine poolLaw_takeAssembled p _ (Still.poolLaw (still_modPort ?_ ?_ ?_) h) <;> rfl
  · exact h

/-! ### Starting and sending exchanges (R54, R59, R60) -/

theorem poolLaw_exchangeStart (p : PortId) (h : PoolLaw s) : PoolLaw (exchangeStart p s) := by
  unfold exchangeStart
  split
  · rename_i i rest hq
    split
    · rename_i hf
      simp only [portFree, Bool.and_eq_true, Option.isNone_iff_eq_none, decide_eq_true_eq] at hf
      obtain ⟨⟨hr, hn⟩, -⟩ := hf
      have hr : Ready s p := (portReady_iff s p).mp hr
      have hready : Ready (startExchange p i rest s) = Ready s := by
        have hp : Ready (modRec i (fun r => { r with seq := nextSeq s.ports[p].seq, attempt := 1, state := .sending }) s) = Ready s := rfl
        rw [← hp]
        exact ready_modPort Iff.rfl
      rw [poolLaw_iff] at h ⊢
      have hq' : (placesOf s).queue p = i :: rest := hq
      have hi := h.queue p i (by rw [hq']; exact List.mem_cons_self)
      obtain ⟨hst, hport, -⟩ := hi
      have hnd := h.once p
      rw [hq', List.nodup_cons] at hnd
      have hsub : rest.Sublist ((placesOf s).queue p) := by rw [hq']; exact List.sublist_cons_self i rest
      have h1 : Placed (Ready s) (fun j => j = i) (fun _ => False) ((placesOf s).setQueue p rest) := by
        refine (h.leaveQueue hsub).congr fun j => ?_
        rw [hq', false_or, List.mem_cons]
        refine ⟨fun e => ⟨.inl e, e ▸ hnd.1⟩, fun g => g.1.resolve_right g.2⟩
      have h2 := h1.launch (i := i) rfl hst hr hport fun j hj hp => by
        have := inFlight_none s hn j hp
        exact Bool.false_ne_true (this.symm.trans hj)
      have hv : placesOf (startExchange p i rest s) =
          ((placesOf s).setQueue p rest).setPlace i { ((placesOf s).setQueue p rest).place i with state := .sending } := by
        unfold startExchange
        dsimp only
        rw [placesOf_modPort_queue rfl, placesOf_modRec]
        rfl
      rw [hv, hready]
      exact h2.congr fun j => ⟨False.elim, fun g => g.2 g.1⟩
    · exact h
  · exact h

theorem poolLaw_frameStart (p : PortId) (quietMs : Nat) (h : PoolLaw s) : PoolLaw (frameStart p quietMs s) := by
  unfold frameStart
  split
  · split
    · rename_i owner bytes _ _
      have hs : Still s (modPort p (fun q => { q with tx := .sending owner (sentFrame q.config bytes) (startsHalf q.config) false }) s) :=
        still_modPort rfl rfl Iff.rfl
      refine Still.poolLaw ?_ (hs.poolLaw h)
      unfold startDeadline
      cases owner with
      | exchange i => exact still_modRec rfl
      | identify => exact still_modPort rfl rfl Iff.rfl
      | nobody => exact .refl _
    · exact h
  · exact h

/-- A SENDING record becomes AWAITING, or an AWAITING one SENDING again. -/
theorem poolLaw_refly {i : RecId} {f : Exchange → Exchange} (h : PoolLaw s) (hi : s.pool[i].state = .sending ∨ s.pool[i].state = .awaiting)
    (hf : (f s.pool[i]).state = .sending ∨ (f s.pool[i]).state = .awaiting)
    (hp : (f s.pool[i]).port = s.pool[i].port ∧ (f s.pool[i]).origin = s.pool[i].origin ∧ (f s.pool[i]).position = s.pool[i].position) :
    PoolLaw (modRec i f s) := by
  rw [poolLaw_iff] at h ⊢
  rw [placesOf_modRec]
  exact h.refly ((flies_iff _).mpr (hi.imp id .inl)) ((flies_iff _).mpr (hf.imp id .inl)) hp.1 fun _ _ => .inr ⟨hf, hp.2.1, hp.2.2⟩

theorem poolLaw_frameSent (owner : TxOwner) (h : PoolLaw s) : PoolLaw (frameSent owner s) := by
  cases owner with
  | exchange i =>
    by_cases hi : s.pool[i].state = .sending
    · exact poolLaw_refly h (.inl hi) (.inr (by rw [if_pos hi])) (by rw [if_pos hi]; exact ⟨rfl, rfl, rfl⟩)
    · exact (still_modRec (by rw [if_neg hi])).poolLaw h
  | identify => exact h
  | nobody => exact h

theorem poolLaw_frameEnd (p : PortId) (h : PoolLaw s) : PoolLaw (frameEnd p s) := by
  unfold frameEnd
  split
  · rename_i owner _ _ _ _
    have hs : Still s (modPort p (fun q => handIdentify { q with tx := .idle }) s) := by
      refine still_modPort ?_ ?_ ?_ <;>
        (unfold handIdentify; split; · (split <;> rfl)
         · rfl)
    have ha := hs.poolLaw h
    exact poolLaw_frameSent owner ha
  · exact h

/-! ### Timers -/

theorem poolLaw_settleExpired (p : PortId) (h : PoolLaw s) : PoolLaw (modPort p settleExpired s) := by
  by_cases hs : s.ports[p].settle.isSome = true ∧ s.ports[p].state = .settling
  · have hq : settleExpired s.ports[p] = beginIdentify s.ports[p] := if_pos hs
    exact poolLaw_unready h (by rw [hs.2]; decide) (by rw [hq]; rfl) (by rw [hq]; rfl)
  · have hq : settleExpired s.ports[p] = s.ports[p] := if_neg hs
    exact (still_modPort (by rw [hq]) (by rw [hq]) (by rw [hq])).poolLaw h

/-- The reset pulse of a port in SETTLING ends (R44). -/
theorem poolLaw_pulseEnded (p : PortId) (hp : PortLaw s.ports[p]) (h : PoolLaw s) : PoolLaw (modPort p pulseEnded s) := by
  by_cases hs : s.ports[p].pulse.isSome = true
  · have hset := hp.pulse hs
    refine poolLaw_unready h (by rw [hset]; decide) ?_ ?_ <;> (unfold pulseEnded; rw [if_pos hs]; split <;> rfl)
  · have hq : pulseEnded s.ports[p] = s.ports[p] := if_neg hs
    exact (still_modPort (by rw [hq]) (by rw [hq]) (by rw [hq])).poolLaw h

theorem poolLaw_identifyExpired (p : PortId) (h : PoolLaw s) : PoolLaw (identifyExpired p s) := by
  unfold identifyExpired
  split
  · exact h
  · split_ifs
    · exact h
    · refine Still.poolLaw (Still.trans (still_modPort ?_ ?_ ?_) (still_countPort _ p)) h <;> (unfold retryIdentify; split <;> rfl)
    · exact poolLaw_enterFault p _ h

theorem poolLaw_deadlineExpired (p : PortId) (h : PoolLaw s) : PoolLaw (deadlineExpired p s) := by
  unfold deadlineExpired
  split
  · exact h
  · rename_i i hi
    obtain ⟨-, hfly⟩ := inFlight_spec s hi
    split
    · exact h
    · split
      · rename_i ha
        unfold awaitingExpired
        split
        · unfold retryExchange
          dsimp only
          have hr : PoolLaw (modRec i (fun r => { r with attempt := r.attempt + 1, state := .sending, deadline := none }) s) :=
            poolLaw_refly h (.inr ha) (.inl rfl) ⟨rfl, rfl, rfl⟩
          exact (still_countPort _ p).poolLaw (Still.poolLaw (still_modPort rfl rfl Iff.rfl) hr)
        · exact poolLaw_silentCheck p (poolLaw_of_ends h hfly fun hx => ends_endExchange hx rfl _ _ _)
      · rename_i ho
        exact poolLaw_silentCheck p (poolLaw_of_ends h hfly fun hx => ends_endOrphan hx rfl ho _)
      · exact h

theorem poolLaw_holdExpired (i : RecId) (h : PoolLaw s) : PoolLaw (holdExpired i s) := by
  unfold holdExpired
  split
  · rename_i hi
    split
    · exact h
    · rename_i p hp
      refine (still_raiseNotice _).poolLaw ((still_countPort _ p).poolLaw ?_)
      rw [poolLaw_iff] at h ⊢
      rw [placesOf_freeRecord, placesOf_modPort_out rfl]
      have hready : Ready (freeRecord i (modPort p (fun q => { q with outbound := q.outbound.filter (fun f => !isReplyOf i f) }) s)) = Ready s :=
        ready_modPort (s := s) (p := p) (f := fun q => { q with outbound := q.outbound.filter (fun f => !isReplyOf i f) }) Iff.rfl
      rw [hready]
      refine h.unhold hi.1 hp List.filter_sublist (fun j hj => ?_) ?_
      · rw [List.countP_filter]
        refine List.countP_congr fun f _ => ?_
        cases f with
        | reply r => simp only [isReplyOf, Bool.and_eq_true, decide_eq_true_eq, Bool.not_eq_true', decide_eq_false_iff_not]
                     exact ⟨And.left, fun e => ⟨e, fun g => hj (e.symm.trans g)⟩⟩
        | event => simp [isReplyOf]
      · rw [List.countP_filter, List.countP_eq_zero]
        exact fun f _ => by simp
  · exact h

theorem still_toggleLamp (k : PosId) : Still s (modPos k toggleLamp s) :=
  still_modPos (by unfold toggleLamp; split <;> rfl)

theorem moves_expireEntry (k : PosId) : Moves s (expireEntry k s) := by
  unfold expireEntry
  split
  · exact .refl s
  · split
    · exact moves_endEntry k _ _ _ _
    · exact .refl s

/-! ### The workstation transmitter -/

theorem still_grant : Still s (grant s) := by
  unfold grant
  split
  · unfold makeGrant
    split
    · exact .of_eq
    · split
      · rename_i p t ht
        have hf : Still s t := by rw [choosePort_frame ht]; exact .of_eq
        refine hf.trans ?_
        unfold grantPort
        split
        · rename_i f _ _
          have hs : Still t (stopHold f t) := by
            unfold stopHold
            split
            · exact still_modRec rfl
            · exact .refl t
          exact hs.trans .of_eq
        · exact .refl t
      · exact .refl s
  · exact .refl s

theorem poolLaw_portSent (p : PortId) (h : PoolLaw s) : PoolLaw (portSent p s) := by
  unfold portSent
  split
  · rename_i f rest hf
    have hready : Ready (modPort p (fun q => { q with outbound := rest }) s) = Ready s := ready_modPort Iff.rfl
    have hout : (placesOf s).out p = f :: rest := hf
    cases f with
    | reply i u tag m e st ds d =>
      show PoolLaw (freeRecord i (modPort p (fun q => { q with outbound := rest }) s))
      rw [poolLaw_iff] at h ⊢
      rw [placesOf_freeRecord, placesOf_modPort_out rfl, show Ready (freeRecord i (modPort p (fun q => { q with outbound := rest }) s)) = Ready s from hready]
      have hself : isReplyOf i (.reply i u tag m e st ds d) = true := decide_eq_true rfl
      obtain ⟨hst, hp⟩ := h.replies p i _ (by rw [hout]; exact List.mem_cons_self) hself
      refine h.unhold hst hp (by rw [hout]; exact List.sublist_cons_self _ _) (fun j hj => ?_) ?_
      · rw [hout, List.countP_cons, show isReplyOf j (.reply i u tag m e st ds d) = false from decide_eq_false (Ne.symm hj)]
        simp
      · obtain ⟨r, hr, hc⟩ := h.held i hst
        obtain rfl : r = p := Option.some.inj (hr.symm.trans hp)
        rw [hout, List.countP_cons, hself, if_pos rfl] at hc
        show rest.countP (isReplyOf i) = 0
        omega
    | event u n c l d =>
      show PoolLaw (countPort _ p (modPort p (fun q => { q with outbound := rest }) s))
      refine (still_countPort _ p).poolLaw ?_
      rw [poolLaw_iff] at h ⊢
      rw [placesOf_modPort_out rfl, hready]
      refine h.setOut fun i => ?_
      rw [hout, List.countP_cons]
      simp [isReplyOf]
  · exact h

theorem poolLaw_frameDone (h : PoolLaw s) : PoolLaw (frameDone s) := by
  unfold frameDone
  split
  · rename_i src _ _ _
    have hi : PoolLaw { s with tx := .idle } := h.congr rfl rfl rfl
    cases src with
    | control => exact h.congr rfl rfl rfl
    | port p => exact poolLaw_portSent p hi
    | copy => exact hi
  · exact h

end

end Sys2Proof.Machine
end

section
/-! SUPPORT. The whole of a counter restart (R49, R77, R99, R115, R134, R151, R167), and the law of the exchange pool after it. -/

namespace Sys2Proof.Machine

/-! ### The records -/

/-- What a counter restart makes of a record (R76, R77). -/
def restartedRecord (s : State) (i : RecId) : Exchange :=
  match s.pool[i].state with
  | .queued => freeExchange
  | .reserved => freeExchange
  | .held => if replySending i s then s.pool[i] else freeExchange
  | .free => s.pool[i]
  | .orphaned => s.pool[i]
  | _ =>
    match s.pool[i].port with
    | none => s.pool[i]
    | some p => if heldUnstarted i s.ports[p].tx then freeExchange else { s.pool[i] with state := .orphaned }

/-- A port's frame for which an orphan of the records `l` has been dropped (R76). -/
def restartedTx (l : List RecId) (s : State) (p : PortId) : DeviceTx :=
  match s.ports[p].tx with
  | .holding (.exchange i) b =>
    if i ∈ l ∧ s.pool[i].port = some p ∧ (s.pool[i].state = .sending ∨ s.pool[i].state = .awaiting) then .idle
    else .holding (.exchange i) b
  | x => x

/-- `t` is `s` after the records of `l` have been restarted. -/
structure RecordsRestarted (l : List RecId) (s t : State) : Prop where
  kept : t = { s with ports := t.ports, pool := t.pool }
  done : ∀ i ∈ l, t.pool[i] = restartedRecord s i
  others : ∀ i ∉ l, t.pool[i] = s.pool[i]
  ports : ∀ p : PortId, t.ports[p] = { s.ports[p] with tx := restartedTx l s p }

section
variable {s t u : State} {i j : RecId} {p : PortId}

theorem restartedRecord_freed (h : s.pool[i].state = .queued ∨ s.pool[i].state = .reserved) : restartedRecord s i = freeExchange := by
  rcases h with h | h <;> (unfold restartedRecord; rw [h])

theorem restartedRecord_held (h : s.pool[i].state = .held) :
    restartedRecord s i = if replySending i s then s.pool[i] else freeExchange := by unfold restartedRecord; rw [h]

theorem restartedRecord_rest (h : s.pool[i].state = .free ∨ s.pool[i].state = .orphaned) : restartedRecord s i = s.pool[i] := by
  rcases h with h | h <;> (unfold restartedRecord; rw [h])

theorem restartedRecord_sent (h : s.pool[i].state = .sending ∨ s.pool[i].state = .awaiting) : restartedRecord s i =
    match s.pool[i].port with
    | none => s.pool[i]
    | some p => if heldUnstarted i s.ports[p].tx then freeExchange else { s.pool[i] with state := .orphaned } := by
  rcases h with h | h <;> (unfold restartedRecord; rw [h])

/-- A record that does not fly with a held frame changes alone. -/
theorem RecordsRestarted.of_record (hp : ∀ p : PortId, restartedTx [i] s p = s.ports[p].tx) (f : Exchange → Exchange)
    (hf : f s.pool[i] = restartedRecord s i) : RecordsRestarted [i] s (modRec i f s) where
  kept := rfl
  done j hj := by obtain rfl := List.mem_singleton.mp hj; rw [modRec_self, hf]
  others j hj := modRec_ne s (fun e => hj (List.mem_singleton.mpr e)) f
  ports p := by rw [hp]; rfl

theorem restartedTx_of_state (h1 : s.pool[i].state ≠ .sending) (h2 : s.pool[i].state ≠ .awaiting) : restartedTx [i] s p = s.ports[p].tx := by
  unfold restartedTx
  split
  · rename_i k b hk
    rw [if_neg, hk]
    rintro ⟨hm, -, hs⟩
    obtain rfl := List.mem_singleton.mp hm
    exact hs.elim h1 h2
  · rfl

theorem modRec_id (i : RecId) (s : State) : modRec i (fun r => r) s = s := by
  unfold modRec
  rw [show s.pool.set i s.pool[i] = s.pool from Vector.set_getElem_self ..]

theorem RecordsRestarted.refl (hp : ∀ p : PortId, restartedTx [i] s p = s.ports[p].tx) (hf : s.pool[i] = restartedRecord s i) :
    RecordsRestarted [i] s s := by
  have h := RecordsRestarted.of_record hp (fun r => r) hf
  rwa [modRec_id] at h

theorem heldUnstarted_iff {x : DeviceTx} : heldUnstarted i x = true ↔ ∃ b, x = .holding (.exchange i) b := by
  cases x with
  | idle => simp [heldUnstarted]
  | sending => simp [heldUnstarted]
  | holding o b =>
    cases o with
    | exchange j => simp [heldUnstarted]
    | identify => simp [heldUnstarted]
    | nobody => simp [heldUnstarted]

/-- A SENDING or AWAITING record becomes an orphan, or is freed with its frame (R75, R76). -/
theorem recordsRestarted_orphan (hs : s.pool[i].state = .sending ∨ s.pool[i].state = .awaiting) : RecordsRestarted [i] s (orphan i s) := by
  have target := restartedRecord_sent hs
  unfold orphan
  split
  · rename_i hn
    refine .refl (fun p => ?_) (by rw [target, hn])
    unfold restartedTx
    split
    · rename_i k b hk
      rw [if_neg, hk]
      rintro ⟨hm, hp, -⟩
      obtain rfl := List.mem_singleton.mp hm
      rw [hn] at hp; cases hp
    · rfl
  · rename_i p hp
    split
    · rename_i hh
      obtain ⟨b, hb⟩ := heldUnstarted_iff.mp hh
      have hd : dropOrphan i s = freeRecord i (modPort p (fun q => { q with tx := releaseTx i q.tx }) s) := by
        unfold dropOrphan; rw [hp]
      rw [hd]
      refine ⟨rfl, fun j hj => ?_, fun j hj => ?_, fun r => ?_⟩
      · obtain rfl := List.mem_singleton.mp hj
        rw [target, hp, freeRecord, modRec_self]
        exact (if_pos hh).symm
      · exact modRec_ne _ (fun e => hj (List.mem_singleton.mpr e)) _
      · show (modPort p (fun q => { q with tx := releaseTx i q.tx }) s).ports[r] = _
        by_cases hr : r = p
        · subst hr
          rw [modPort_self, hb]
          have h1 : restartedTx [i] s r = .idle := by
            unfold restartedTx
            rw [hb]
            exact if_pos ⟨List.mem_singleton_self i, hp, hs⟩
          rw [h1, releaseTx, if_pos rfl]
        · rw [modPort_ne s hr]
          have h1 : restartedTx [i] s r = s.ports[r].tx := by
            unfold restartedTx
            split
            · rename_i k c hk
              rw [if_neg, hk]
              rintro ⟨hm, hp', -⟩
              obtain rfl := List.mem_singleton.mp hm
              rw [hp] at hp'
              exact hr (Option.some.inj hp').symm
            · rfl
          rw [h1]
    · rename_i hh
      refine .of_record (fun r => ?_) (fun r => { r with state := .orphaned }) (by rw [target]; simp only [hp]; rw [if_neg hh])
      unfold restartedTx
      split
      · rename_i k b hk
        rw [if_neg, hk]
        rintro ⟨hm, hp', -⟩
        obtain rfl := List.mem_singleton.mp hm
        rw [hp] at hp'
        obtain rfl := Option.some.inj hp'
        exact hh (heldUnstarted_iff.mpr ⟨b, hk⟩)
      · rfl

theorem recordsRestarted_one (i : RecId) (s : State) : RecordsRestarted [i] s (restartRecord i s) := by
  cases hs : s.pool[i].state <;> simp only [restartRecord, hs]
  case queued =>
    exact .of_record (fun p => restartedTx_of_state (by rw [hs]; decide) (by rw [hs]; decide)) _ (restartedRecord_freed (.inl hs)).symm
  case reserved =>
    exact .of_record (fun p => restartedTx_of_state (by rw [hs]; decide) (by rw [hs]; decide)) _ (restartedRecord_freed (.inr hs)).symm
  case held =>
    split
    · rename_i hr
      exact .refl (fun p => restartedTx_of_state (by rw [hs]; decide) (by rw [hs]; decide)) (by rw [restartedRecord_held hs, if_pos hr])
    · rename_i hr
      exact .of_record (fun p => restartedTx_of_state (by rw [hs]; decide) (by rw [hs]; decide)) _ (by rw [restartedRecord_held hs, if_neg hr])
  case sending => exact recordsRestarted_orphan (.inl hs)
  case awaiting => exact recordsRestarted_orphan (.inr hs)
  case free => exact .refl (fun p => restartedTx_of_state (by rw [hs]; decide) (by rw [hs]; decide)) (restartedRecord_rest (.inl hs)).symm
  case orphaned => exact .refl (fun p => restartedTx_of_state (by rw [hs]; decide) (by rw [hs]; decide)) (restartedRecord_rest (.inr hs)).symm

/-- A record that is restarted later fares as if it were restarted first. -/
theorem restartedRecord_later (h : RecordsRestarted [i] s t) (hj : j ≠ i) : restartedRecord t j = restartedRecord s j := by
  have hpool : t.pool[j] = s.pool[j] := h.others j (fun e => hj (List.mem_singleton.mp e))
  have htx : t.tx = s.tx := by rw [h.kept]
  have hout : ∀ p : PortId, t.ports[p].outbound = s.ports[p].outbound := fun p => by rw [h.ports]
  have hheld : ∀ p : PortId, heldUnstarted j t.ports[p].tx = heldUnstarted j s.ports[p].tx := fun p => by
    rw [h.ports]
    show heldUnstarted j (restartedTx [i] s p) = _
    unfold restartedTx
    split
    · rename_i k b hk
      rw [hk]
      split
      · rename_i hm
        obtain rfl := List.mem_singleton.mp hm.1
        exact (decide_eq_false (Ne.symm hj)).symm
      · rfl
    · rfl
  have hreply : replySending j t = replySending j s := by simp only [replySending, htx, hout]
  simp only [restartedRecord, hpool, hreply, hheld]

theorem restartedTx_cons (h : RecordsRestarted [i] s t) (l : List RecId) (hi : i ∉ l) (p : PortId) :
    restartedTx l t p = restartedTx (i :: l) s p := by
  have htx : t.ports[p].tx = restartedTx [i] s p := by rw [h.ports]
  cases hs : s.ports[p].tx with
  | holding o b =>
    cases o with
    | exchange k =>
      by_cases hk : k = i
      · subst hk
        have h1 : restartedTx [k] s p = if s.pool[k].port = some p ∧ (s.pool[k].state = .sending ∨ s.pool[k].state = .awaiting) then .idle
            else .holding (.exchange k) b := by
          simp only [restartedTx, hs, List.mem_singleton, true_and]
        have h2 : restartedTx (k :: l) s p = if s.pool[k].port = some p ∧ (s.pool[k].state = .sending ∨ s.pool[k].state = .awaiting) then .idle
            else .holding (.exchange k) b := by
          simp only [restartedTx, hs, List.mem_cons, true_or, true_and]
        rw [h2]
        rw [h1] at htx
        split at htx
        · rename_i hc; simp only [restartedTx, htx]; rw [if_pos hc]
        · rename_i hc
          rw [if_neg hc]
          simp only [restartedTx, htx, hi, false_and, if_false]
      · have hpool : t.pool[k] = s.pool[k] := h.others k (fun e => hk (List.mem_singleton.mp e))
        have h1 : restartedTx [i] s p = .holding (.exchange k) b := by
          simp only [restartedTx, hs, List.mem_singleton, hk, false_and, if_false]
        rw [h1] at htx
        simp only [restartedTx, htx, hs, hpool, List.mem_cons, hk, false_or]
    | identify => simp only [restartedTx, hs] at htx; simp only [restartedTx, htx, hs]
    | nobody => simp only [restartedTx, hs] at htx; simp only [restartedTx, htx, hs]
  | idle => simp only [restartedTx, hs] at htx; simp only [restartedTx, htx, hs]
  | sending => simp only [restartedTx, hs] at htx; simp only [restartedTx, htx, hs]

theorem RecordsRestarted.cons {l : List RecId} (h : RecordsRestarted [i] s t) (g : RecordsRestarted l t u) (hi : i ∉ l) :
    RecordsRestarted (i :: l) s u where
  kept := by
    have hs := h.kept
    have ht := g.kept
    rw [hs] at ht
    exact ht
  done j hj := by
    by_cases e : j = i
    · subst e; rw [g.others j hi, h.done j (List.mem_singleton_self j)]
    · rw [g.done j ((List.mem_cons.mp hj).resolve_left e), restartedRecord_later h e]
  others j hj := by
    rw [List.mem_cons, not_or] at hj
    rw [g.others j hj.2, h.others j (fun e => hj.1 (List.mem_singleton.mp e))]
  ports p := by rw [g.ports, restartedTx_cons h l hi, h.ports]

theorem recordsRestarted_foldl (l : List RecId) (hl : l.Nodup) (s : State) : RecordsRestarted l s (l.foldl (fun t i => restartRecord i t) s) := by
  induction l generalizing s with
  | nil =>
    refine ⟨rfl, fun i hi => absurd hi (by simp), fun _ _ => rfl, fun p => ?_⟩
    have : restartedTx [] s p = s.ports[p].tx := by
      unfold restartedTx; split
      · rename_i h; rw [if_neg (by simp), h]
      · rfl
    rw [this]; rfl
  | cons i l ih =>
    obtain ⟨hi, hl⟩ := List.nodup_cons.mp hl
    exact (recordsRestarted_one i s).cons (ih hl _) hi

/-! ### The whole -/

/-- A port after a counter restart (R49, R77, R115). -/
def restartedPort (s : State) (p : PortId) : Port :=
  { s.ports[p] with
    queue := [], lost := 0, tx := restartedTx (List.finRange 24) s p
    outbound := if portSending p s then s.ports[p].outbound.take 1 else [] }

/-- `t` is `s` after a counter restart with `n` reservations kept. -/
structure RestartedWith (n : Nat) (s t : State) : Prop where
  kept : t = { s with
    ports := t.ports, pool := t.pool, positions := t.positions, groupRecords := [], control := controlInFlight s, reservations := n }
  ports : ∀ p : PortId, t.ports[p] = restartedPort s p
  pool : ∀ i : RecId, t.pool[i] = restartedRecord s i
  positions : ∀ k : PosId, t.positions[k] = restartedPosition (decide (Notice.call k ∈ s.notices)) s.positions[k]

/-- All twelve ports at a counter restart. -/
def restartPorts (s : State) : State := (List.finRange 12).foldl (fun t p => restartPort p t) s

theorem restartPorts_frame (s : State) : restartPorts s = { s with ports := (restartPorts s).ports } := by
  have general : ∀ (l : List PortId) (t : State), ∃ x, l.foldl (fun t p => restartPort p t) t = { t with ports := x } := by
    intro l
    induction l with
    | nil => exact fun t => ⟨t.ports, rfl⟩
    | cons p l ih => exact fun t => ih (restartPort p t)
  obtain ⟨x, hx⟩ := general (List.finRange 12) s
  rw [restartPorts, hx]

theorem restartPorts_self (s : State) (p : PortId) : (restartPorts s).ports[p] = { s.ports[p] with
    queue := [], lost := 0, outbound := if portSending p s then s.ports[p].outbound.take 1 else [] } :=
  get_foldl_finRange (P := fun t => t.tx = s.tx) (get := fun t j => t.ports[j]) (f := fun t p => restartPort p t)
    (g := fun j q => { q with queue := [], lost := 0, outbound := if portSending j s then q.outbound.take 1 else [] })
    (hP := fun _ _ h => h)
    (hself := fun t j h => by
      have hp : portSending j t = portSending j s := by simp only [portSending, h]
      rw [restartPort, modPort_self, hp])
    (hne := fun t i j _ hj => by rw [restartPort, modPort_ne _ hj]) (s := s) (hs := rfl) (j := p)

theorem restartedWith_counterRestart (n : Nat) (s : State) : RestartedWith n s (counterRestart n s) := by
  obtain ⟨a, ha, he⟩ : ∃ a, RecordsRestarted (List.finRange 24) s a ∧ counterRestart n s = { restartPositions (restartPorts a) with
      control := controlInFlight (restartPositions (restartPorts a)), reservations := n, groupRecords := [] } :=
    ⟨_, recordsRestarted_foldl _ (List.nodup_finRange 24) s, rfl⟩
  have hb := restartPorts_frame a
  have hbp := restartPorts_self a
  rw [he]
  generalize restartPorts a = b at hb hbp
  have hc := restartPositions_frame b
  have hcp := restartPositions_self b
  generalize restartPositions b = c at hc hcp
  have hak := ha.kept
  have hcb : c = { s with ports := c.ports, pool := c.pool, positions := c.positions } := by rw [hc, hb, hak]
  have hports : c.ports = b.ports := by rw [hc]
  have hpool : c.pool = a.pool := by rw [hc, hb]
  have hnotices : b.notices = s.notices := by rw [hb, hak]
  have hpos : b.positions = s.positions := by rw [hb, hak]
  have htx : a.tx = s.tx := by rw [hak]
  refine ⟨?_, fun p => ?_, fun i => ?_, fun k => ?_⟩
  · have hci : controlInFlight c = controlInFlight s := by rw [hcb]; rfl
    rw [hci, hcb]
  · show c.ports[p] = _
    rw [hports, hbp, restartedPort, ha.ports]
    have hp : portSending p a = portSending p s := by simp only [portSending, htx]
    rw [hp]
  · show c.pool[i] = _
    rw [hpool, ha.done i (List.mem_finRange i)]
  · show c.positions[k] = _
    rw [hcp, hnotices, hpos]

/-! ### The law of the exchange pool after a counter restart -/

theorem flies_restartedRecord (h : isInFlight (restartedRecord s i) = true) :
    isInFlight s.pool[i] = true ∧ (restartedRecord s i).port = s.pool[i].port := by
  have hfree : isInFlight freeExchange = false := rfl
  have sent : s.pool[i].state = .sending ∨ s.pool[i].state = .awaiting →
      isInFlight s.pool[i] = true ∧ (restartedRecord s i).port = s.pool[i].port := fun hs => by
    refine ⟨(flies_iff _).mpr (hs.imp id .inl), ?_⟩
    rw [restartedRecord_sent hs] at h ⊢
    split
    · rfl
    · rename_i p hp
      simp only [hp] at h
      split
      · rename_i hh; rw [if_pos hh, hfree] at h; cases h
      · rfl
  cases hs : s.pool[i].state with
  | free => rw [restartedRecord_rest (.inl hs)] at h ⊢; exact ⟨h, rfl⟩
  | orphaned => rw [restartedRecord_rest (.inr hs)] at h ⊢; exact ⟨h, rfl⟩
  | queued => rw [restartedRecord_freed (.inl hs), hfree] at h; cases h
  | reserved => rw [restartedRecord_freed (.inr hs), hfree] at h; cases h
  | held =>
    rw [restartedRecord_held hs] at h
    split at h
    · rw [← flies_placeOf, placeOf, hs] at h; cases h
    · rw [hfree] at h; cases h
  | sending => exact sent (.inl hs)
  | awaiting => exact sent (.inr hs)

theorem held_restartedRecord (h : (restartedRecord s i).state = .held) :
    s.pool[i].state = .held ∧ replySending i s = true ∧ restartedRecord s i = s.pool[i] := by
  have sent : s.pool[i].state = .sending ∨ s.pool[i].state = .awaiting → False := fun hs => by
    rw [restartedRecord_sent hs] at h
    split at h
    · rw [h] at hs; rcases hs with hs | hs <;> cases hs
    · split at h <;> cases h
  cases hs : s.pool[i].state with
  | free => rw [restartedRecord_rest (.inl hs), hs] at h; cases h
  | orphaned => rw [restartedRecord_rest (.inr hs), hs] at h; cases h
  | queued => rw [restartedRecord_freed (.inl hs)] at h; cases h
  | reserved => rw [restartedRecord_freed (.inr hs)] at h; cases h
  | held =>
    rw [restartedRecord_held hs] at h ⊢
    split at h
    · rename_i hr; exact ⟨rfl, hr, if_pos hr⟩
    · cases h
  | sending => exact (sent (.inl hs)).elim
  | awaiting => exact (sent (.inr hs)).elim

theorem unheld_restartedRecord : (restartedRecord s i).state ≠ .queued ∧ (restartedRecord s i).state ≠ .reserved := by
  have sent : s.pool[i].state = .sending ∨ s.pool[i].state = .awaiting →
      (restartedRecord s i).state ≠ .queued ∧ (restartedRecord s i).state ≠ .reserved := fun hs => by
    rw [restartedRecord_sent hs]
    split
    · rcases hs with hs | hs <;> rw [hs] <;> decide
    · split
      · decide
      · exact ⟨nofun, nofun⟩
  cases hs : s.pool[i].state with
  | free => rw [restartedRecord_rest (.inl hs), hs]; decide
  | orphaned => rw [restartedRecord_rest (.inr hs), hs]; decide
  | queued => rw [restartedRecord_freed (.inl hs)]; decide
  | reserved => rw [restartedRecord_freed (.inr hs)]; decide
  | held =>
    rw [restartedRecord_held hs]
    split
    · rw [hs]; decide
    · decide
  | sending => exact sent (.inl hs)
  | awaiting => exact sent (.inr hs)

theorem replySending_iff : replySending i s = true ↔ ∃ p f c x rest, s.tx = .sending (.port p) f c ∧ s.ports[p].outbound = x :: rest ∧
    isReplyOf i x = true := by
  unfold replySending
  constructor
  · intro h
    split at h
    · rename_i p f c htx
      split at h
      · rename_i j _ _ _ _ _ _ _ rest ho
        exact ⟨p, f, c, _, rest, htx, ho, h⟩
      · cases h
    · cases h
  · rintro ⟨p, f, c, x, rest, htx, ho, hx⟩
    rw [htx]
    dsimp only
    rw [ho]
    cases x with
    | reply => exact hx
    | event => cases hx

theorem portSending_iff : portSending p s = true ↔ ∃ f c, s.tx = .sending (.port p) f c := by
  unfold portSending
  split
  · rename_i q f c htx
    simp only [decide_eq_true_eq, htx, Transmitter.sending.injEq, TxSource.port.injEq]
    exact ⟨fun h => ⟨f, c, h, rfl, rfl⟩, fun ⟨_, _, h, _⟩ => h⟩
  · rename_i hn
    exact ⟨nofun, fun ⟨f, c, h⟩ => absurd h (hn p f c)⟩

theorem restartedPosition_entry (b : Bool) (q : Position) : (restartedPosition b q).entry = none := lit_entry_none b q

theorem RestartedWith.poolLaw {n : Nat} (g : RestartedWith n s t) (h : PoolLaw s) : PoolLaw t := by
  have hq : ∀ p : PortId, t.ports[p].queue = [] := fun p => by rw [g.ports]; rfl
  have hready : ∀ p : PortId, t.ports[p].state = s.ports[p].state := fun p => by rw [g.ports]; rfl
  have he : ∀ k : PosId, t.positions[k].entry = none := fun k => by rw [g.positions, restartedPosition_entry]
  have ho : ∀ p : PortId, t.ports[p].outbound = if portSending p s then s.ports[p].outbound.take 1 else [] := fun p => by rw [g.ports]; rfl
  refine ⟨fun p i hi => ?_, fun p => ?_, fun i hi => ?_, fun p hp => absurd (hq p) hp, fun i hi => ?_, fun i j hi hj hp => ?_, fun i hi => ?_,
    fun k e hk => ?_, fun k e hk => ?_, fun j k e f hj => ?_, fun i hi => ?_, fun p i f hf hi => ?_⟩
  · rw [hq] at hi; cases hi
  · rw [hq]; exact List.nodup_nil
  · rw [g.pool] at hi; exact absurd hi unheld_restartedRecord.1
  · rw [g.pool] at hi ⊢
    obtain ⟨h1, h2⟩ := flies_restartedRecord hi
    obtain ⟨p, hp, hr⟩ := h.flying i h1
    exact ⟨p, h2.trans hp, (hready p).trans hr⟩
  · rw [g.pool] at hi hj hp
    rw [g.pool] at hp
    obtain ⟨hi1, hi2⟩ := flies_restartedRecord hi
    obtain ⟨hj1, hj2⟩ := flies_restartedRecord hj
    exact h.alone i j hi1 hj1 (hi2.symm.trans (hp.trans hj2))
  · rw [g.pool] at hi; exact absurd hi unheld_restartedRecord.2
  · rw [he] at hk; cases hk
  · rw [he] at hk; cases hk
  · rw [he] at hj; cases hj
  · rw [g.pool] at hi ⊢
    obtain ⟨hs, hr, hsame⟩ := held_restartedRecord hi
    obtain ⟨p, f, c, x, rest, htx, hout, hx⟩ := replySending_iff.mp hr
    obtain ⟨-, hp⟩ := h.replies p i x (by rw [hout]; exact List.mem_cons_self) hx
    refine ⟨p, by rw [hsame]; exact hp, ?_⟩
    rw [ho, if_pos (portSending_iff.mpr ⟨f, c, htx⟩), hout, List.take_succ_cons, List.take_zero, List.countP_singleton, if_pos hx]
  · rw [ho] at hf
    split at hf
    · rename_i hsend
      obtain ⟨fr, c, htx⟩ := portSending_iff.mp hsend
      obtain ⟨hs, hp⟩ := h.replies p i f (List.mem_of_mem_take hf) hi
      have hr : replySending i s = true := by
        cases hout : s.ports[p].outbound with
        | nil => rw [hout] at hf; cases hf
        | cons x rest =>
          rw [hout, List.take_succ_cons, List.take_zero, List.mem_singleton] at hf
          exact replySending_iff.mpr ⟨p, fr, c, x, rest, htx, hout, hf ▸ hi⟩
      rw [g.pool, restartedRecord_held hs, if_pos hr]
      exact ⟨hs, hp⟩
    · cases hf

theorem poolLaw_counterRestart (n : Nat) (h : PoolLaw s) : PoolLaw (counterRestart n s) := (restartedWith_counterRestart n s).poolLaw h

end

end Sys2Proof.Machine
end

section
/-! SUPPORT. The law of the exchange pool under the requests and under every command. -/

namespace Sys2Proof.Machine

section
variable {s : State}

/-! ### Requests -/

theorem poolLaw_manage {tag : Byte} {take : State → State × Answer} (h : ∀ b, PoolLaw b → PoolLaw (take b).1) (hs : PoolLaw s) :
    PoolLaw (manage tag take s) := by
  unfold manage
  split
  · exact hs.congr rfl rfl rfl
  · exact (h (reserveSlot s) (hs.congr rfl rfl rfl)).congr rfl rfl rfl

theorem poolLaw_withPosition {params : List Byte} {act : PosId → State → State × Answer} (h : ∀ k, PoolLaw (act k s).1) (hs : PoolLaw s) :
    PoolLaw (withPosition params act s).1 := by
  obtain e | ⟨k, e⟩ := withPosition_cases params act s
  · rw [e]; exact hs
  · rw [e]; exact h k

theorem poolLaw_refuse (tag : Byte) (st : Status) (h : PoolLaw s) : PoolLaw (refuse tag st s) := (still_refuse tag st).poolLaw h

/-- A FREE record is filled and QUEUED on a READY port (R57). -/
theorem poolLaw_acceptExchange {p : PortId} (u : UnitId) (tag : Byte) (group : Option Byte) (command : Byte) (data : List Byte)
    (hp : Ready s p) (h : PoolLaw s) :
    PoolLaw (acceptExchange u p tag group command data s) ∧ Ready (acceptExchange u p tag group command data s) = Ready s := by
  unfold acceptExchange
  split
  · exact ⟨h, rfl⟩
  · rename_i i hi
    have hfree := firstFree_free s hi
    set r : Exchange := { freeExchange with state := .queued, origin := some .workstation, tag := some tag, unit := some u, port := some p, group := group, command := command, data := data }
    have hready : Ready (modPort p (fun q => { q with queue := q.queue ++ [i] }) (modRec i (fun _ => r) s)) = Ready s := by
      have h0 : Ready (modRec i (fun _ => r) s) = Ready s := rfl
      rw [← h0]
      exact ready_modPort Iff.rfl
    refine ⟨?_, hready⟩
    rw [poolLaw_iff] at h ⊢
    rw [hready, placesOf_modPort_queue rfl, placesOf_modRec]
    exact h.enqueue (i := i) (p := p) hfree hp rfl rfl List.perm_append_comm

theorem poolLaw_takeUnitRequest (unit tag : Byte) (payload : List Byte) (h : PoolLaw s) : PoolLaw (takeUnitRequest unit tag payload s) := by
  have refused : ∀ st, PoolLaw (refuse tag st s) := fun st => poolLaw_refuse tag st h
  unfold takeUnitRequest
  split
  · exact refused _
  · split_ifs
    · exact refused _
    · exact refused _
    · split
      · exact refused _
      · split
        · rename_i p hu
          unfold admitUnit
          split_ifs
          · exact refused _
          · exact refused _
          · exact refused _
          · exact (poolLaw_acceptExchange _ _ _ _ _ (ready_of_usableTest hu) h).1
        · exact poolLaw_refuse _ _ ((moves_evaluationEffects _ _).poolLaw h)

theorem poolLaw_issueMembers (members : List (UnitId × PortId)) (tag command : Byte) (data : List Byte)
    (hp : ∀ m ∈ members, Ready s m.2) (h : PoolLaw s) : PoolLaw (issueMembers members tag command data s) := by
  induction members generalizing s with
  | nil => exact h
  | cons m l ih =>
    obtain ⟨h1, h2⟩ := poolLaw_acceptExchange m.1 tag (some tag) command data (hp m List.mem_cons_self) h
    refine ih (fun x hx => ?_) h1
    rw [h2]; exact hp x (List.mem_cons_of_mem m hx)

theorem ready_of_usableMembers {e : GroupEntry} {m : UnitId × PortId} (hm : m ∈ usableMembers e s) : Ready s m.2 := by
  obtain ⟨u, -, hu⟩ := List.mem_filterMap.mp hm
  split at hu
  · rename_i p hp
    obtain rfl := Option.some.inj hu
    exact ready_of_usableTest hp
  · cases hu

theorem poolLaw_admitGroup {g : GroupId} {e : GroupEntry} {members : List (UnitId × PortId)} {tag command : Byte} {data : List Byte}
    (hp : ∀ m ∈ members, Ready s m.2) (h : PoolLaw s) : PoolLaw (admitGroup g e members tag command data s) := by
  unfold admitGroup
  split_ifs
  · exact poolLaw_refuse _ _ h
  · exact poolLaw_refuse _ _ h
  · exact poolLaw_refuse _ _ h
  · exact poolLaw_refuse _ _ h
  · unfold acceptGroup
    have hr : PoolLaw (reserveSlot s) := h.congr rfl rfl rfl
    have hi := poolLaw_issueMembers members tag command data (s := reserveSlot s) hp hr
    unfold endAtAcceptance
    split
    · exact hi.congr rfl rfl rfl
    · exact hi.congr rfl rfl rfl

theorem moves_evaluateMembers (e : GroupEntry) : Moves s (evaluateMembers e s) := Moves.foldl (fun _ u => moves_evaluate u) _ _

theorem poolLaw_takeGroupRequest (unit tag : Byte) (payload : List Byte) (h : PoolLaw s) : PoolLaw (takeGroupRequest unit tag payload s) := by
  have refused : ∀ st, PoolLaw (refuse tag st s) := fun st => poolLaw_refuse tag st h
  unfold takeGroupRequest
  split
  · exact refused _
  · split_ifs
    · exact refused _
    · exact refused _
    · split
      · exact refused _
      · unfold checkGroup
        split_ifs
        · exact refused _
        · exact poolLaw_refuse _ _ ((still_raiseNotice _).poolLaw h)
        · exact refused _
        · refine poolLaw_admitGroup (fun m hm => ?_) ((moves_evaluateMembers _).poolLaw h)
          rw [(moves_evaluateMembers _).ready]
          exact ready_of_usableMembers hm

/-! ### Port requests -/

theorem storeSettings_queue (w : PortWrite) (q : Port) : (storeSettings w q).queue = q.queue := by unfold storeSettings; split <;> rfl
theorem storeSettings_outbound (w : PortWrite) (q : Port) : (storeSettings w q).outbound = q.outbound := by
  unfold storeSettings; split <;> rfl

theorem poolLaw_applyPower {w : PortWrite} (h : PoolLaw s) : PoolLaw (applyPower w s) := by
  unfold applyPower
  split
  · unfold powerOff
    split
    · exact h
    · exact poolLaw_departIf h (placesOf_modPort_same rfl rfl) (ready_ne_modPort _)
  · by_cases ho : s.ports[w.port].state = .off
    · refine poolLaw_unready h (by rw [ho]; decide) ?_ ?_
      · rw [switchOn, if_pos ho, enterEmpty_queue]
      · rw [switchOn, if_pos ho, enterEmpty_outbound]
    · by_cases hf : s.ports[w.port].state = .fault
      · refine poolLaw_unready h (by rw [hf]; decide) ?_ ?_
        · rw [switchOn, if_neg ho, if_pos hf, enterEmpty_queue]
        · rw [switchOn, if_neg ho, if_pos hf, enterEmpty_outbound]
      · have hq : switchOn s.ports[w.port] = s.ports[w.port] := by rw [switchOn, if_neg ho, if_neg hf]
        exact (still_modPort (by rw [hq]) (by rw [hq]) (by rw [hq])).poolLaw h
  · exact h

theorem poolLaw_takeSetPort (params : List Byte) (h : PoolLaw s) : PoolLaw (takeSetPort params s).1 := by
  unfold takeSetPort
  split
  · exact h
  · split
    · exact h
    · split
      · exact h
      · exact poolLaw_applyPower (Still.poolLaw (still_modPort (storeSettings_queue _ _) (storeSettings_outbound _ _)
          (by rw [storeSettings_state])) h)

theorem poolLaw_takeResetPort (params : List Byte) (h : PoolLaw s) : PoolLaw (takeResetPort params s).1 := by
  unfold takeResetPort
  split
  · exact h
  · split
    · exact h
    · split
      · exact h
      · exact poolLaw_departIf h (placesOf_modPort_same rfl rfl) (ready_ne_modPort _)

theorem poolLaw_abortQueue (p : PortId) (h : PoolLaw s) : PoolLaw (abortQueue p s) := by
  rw [poolLaw_iff] at h
  unfold abortQueue
  dsimp only
  set q := s.ports[p].queue with hq
  set b := modPort p (fun r => { r with queue := q.filter (fun i => !isWorkstation s i) }) s
  have hb : placesOf b = (placesOf s).setQueue p (q.filter (fun i => !isWorkstation s i)) := placesOf_modPort_queue rfl
  have hleave : Placed (Ready s) (fun i => i ∈ q.filter (isWorkstation s)) (fun _ => False) (placesOf b) := by
    rw [hb]
    refine (h.leaveQueue List.filter_sublist).congr fun i => ?_
    show i ∈ q.filter (isWorkstation s) ↔ False ∨ i ∈ q ∧ i ∉ q.filter (fun i => !isWorkstation s i)
    rw [List.mem_filter, List.mem_filter]
    by_cases hw : isWorkstation s i <;> simp [hw]
  have honce : (q.filter (isWorkstation s)).Nodup := (h.once p : q.Nodup).filter _
  obtain ⟨g1, -, -, g4⟩ := ends_foldl .aborted 0 [] _ honce hleave
  rw [poolLaw_iff, g4, show Ready b = Ready s from ready_modPort Iff.rfl]
  exact g1

theorem poolLaw_takeAbortPort (params : List Byte) (h : PoolLaw s) : PoolLaw (takeAbortPort params s).1 := by
  unfold takeAbortPort
  split
  · exact h
  · split
    · exact h
    · exact poolLaw_abortQueue _ h

theorem poolLaw_takeSetPass (params : List Byte) (h : PoolLaw s) : PoolLaw (takeSetPass params s).1 := by
  unfold takeSetPass
  split
  · exact h
  · split
    · exact h
    · rename_i p set _
      have hs : Still s (modPort p (fun q => { q with passSet := set }) s) := still_modPort rfl rfl Iff.rfl
      exact hs.poolLaw h

/-! ### Positions and entries -/

/-- A record of a DELIVERING entry is withdrawn or orphaned: the entry has lost it (R75, R148). -/
theorem placed_withdrawQueued {R : PortId → Prop} {k : PosId} {e : Entry} (h : PlacedAll R (placesOf s)) (he : s.positions[k].entry = some e)
    (hq : s.pool[e.record].state = .queued) : Placed R (fun _ => False) (fun j => j = k) (placesOf (withdrawQueued e.record s)) ∧
      Ready (withdrawQueued e.record s) = Ready s := by
  set i := e.record
  obtain ⟨p, hp, hi⟩ := h.queued i hq id
  have hp : s.pool[i].port = some p := hp
  have hk : (placesOf s).entry k = some (e.state, i) := entryPlace_eq_some.mpr ⟨e, he, rfl, rfl⟩
  have hw : withdrawQueued i s = freeRecord i (modPort p (fun q => { q with queue := q.queue.filter (fun j => decide (j ≠ i)) }) s) := by
    unfold withdrawQueued; rw [hp]
  have hready : Ready (modPort p (fun q => { q with queue := q.queue.filter (fun j => decide (j ≠ i)) }) s) = Ready s := ready_modPort Iff.rfl
  rw [hw]
  refine ⟨?_, hready⟩
  rw [placesOf_freeRecord, placesOf_modPort_queue rfl]
  have hlost : Placed R (fun _ => False) (fun j => j = k) (placesOf s) := h.lose
  have h1 := hlost.leaveQueue (p := p) (l := s.ports[p].queue.filter (fun j => decide (j ≠ i))) List.filter_sublist
  have h2 := h1.free (i := i) (.inr ⟨hi, by simp⟩) fun j x hj => h.entries j k x e.state i hj hk
  refine h2.congr fun j => ⟨False.elim, fun g => ?_⟩
  obtain ⟨g, hne⟩ := g
  rcases g with g | ⟨hj, hn⟩
  · exact g
  · exact hn (List.mem_filter.mpr ⟨hj, decide_eq_true hne⟩)

theorem placed_orphan {R : PortId → Prop} {k : PosId} {e : Entry} (h : PlacedAll R (placesOf s)) (he : s.positions[k].entry = some e)
    (hq : s.pool[e.record].state = .sending ∨ s.pool[e.record].state = .awaiting) :
    Placed R (fun _ => False) (fun j => j = k) (placesOf (orphan e.record s)) ∧ Ready (orphan e.record s) = Ready s := by
  set i := e.record
  have hfly : flies ((placesOf s).place i).state = true := (flies_iff _).mpr (hq.imp id .inl)
  obtain ⟨p, hp, -⟩ := h.flying i hfly
  have hp : s.pool[i].port = some p := hp
  have hk : (placesOf s).entry k = some (e.state, i) := entryPlace_eq_some.mpr ⟨e, he, rfl, rfl⟩
  have hlost : Placed R (fun _ => False) (fun j => j = k) (placesOf s) := h.lose
  unfold orphan
  simp only [hp]
  split
  · have hd : dropOrphan i s = freeRecord i (modPort p (fun q => { q with tx := releaseTx i q.tx }) s) := by unfold dropOrphan; rw [hp]
    have hs : Still s (modPort p (fun q => { q with tx := releaseTx i q.tx }) s) := still_modPort rfl rfl Iff.rfl
    rw [hd, placesOf_freeRecord, hs.places]
    refine ⟨?_, hs.ready⟩
    have h1 := (hlost.leaveLine hfly).free (i := i) (.inr rfl) fun j x hj => h.entries j k x e.state i hj hk
    exact h1.congr fun j => ⟨False.elim, fun g => g.1.elim id g.2⟩
  · refine ⟨?_, rfl⟩
    rw [placesOf_modRec]
    exact hlost.refly hfly rfl rfl fun j hj => .inl (h.entries j k _ _ i hj hk)

theorem poolLaw_endEntry_of_lost {k : PosId} (o : EntryOutcome) (c : EntryCause) (st : Byte) (d : List Byte) {t : State}
    (h : Placed (Ready s) (fun _ => False) (fun j => j = k) (placesOf t)) (hr : Ready t = Ready s) : PoolLaw (endEntry k o c st d t) := by
  rw [poolLaw_iff, placesOf_endEntry, (moves_endEntry k o c st d).ready, hr]
  exact h.ended fun _ => id

theorem poolLaw_closeEntry (k : PosId) (h : PoolLaw s) : PoolLaw (closeEntry k s) := by
  unfold closeEntry
  split
  · exact h
  · rename_i e he
    rw [poolLaw_iff] at h
    have hlost : Placed (Ready s) (fun _ => False) (fun j => j = k) (placesOf s) := h.lose
    dsimp only
    split
    · unfold abandonDelivery
      split
      · rename_i hq
        obtain ⟨h1, h2⟩ := placed_withdrawQueued h he hq
        exact poolLaw_endEntry_of_lost _ _ _ _ h1 h2
      · rename_i hq
        obtain ⟨h1, h2⟩ := placed_orphan h he (.inl hq)
        exact poolLaw_endEntry_of_lost _ _ _ _ h1 h2
      · rename_i hq
        obtain ⟨h1, h2⟩ := placed_orphan h he (.inr hq)
        exact poolLaw_endEntry_of_lost _ _ _ _ h1 h2
      · exact poolLaw_endEntry_of_lost _ _ _ _ hlost rfl
    · exact poolLaw_endEntry_of_lost _ _ _ _ hlost rfl

/-- A position that keeps its entry, its lamp following. -/
theorem still_refresh {k : PosId} {f : Position → Position} (x : Byte) (h : (f s.positions[k]).entry = s.positions[k].entry) :
    Still s (refreshLamp k (modPos k f { s with nextSession := x })) := by
  have h0 : Still s { s with nextSession := x } := .of_eq
  exact (h0.trans (still_modPos (congrArg entryPlace h))).trans (still_refreshLamp k)

theorem still_openThePosition (k : PosId) : Still s (openThePosition k s).1 := by
  unfold openThePosition
  split
  · exact .refl s
  · exact .refl s
  · split
    · exact .refl s
    · exact still_refresh s.nextSession rfl

theorem still_closeThePosition (k : PosId) : Still s (closeThePosition k s).1 := by
  unfold closeThePosition
  split
  · exact .refl s
  · exact .refl s
  · exact still_refresh s.nextSession rfl

theorem still_openTheSession (k : PosId) : Still s (openTheSession k s).1 := by
  unfold openTheSession
  split
  · exact .refl s
  · split
    · exact .refl s
    · exact still_refresh _ rfl

theorem poolLaw_closeTheSession (k : PosId) (h : PoolLaw s) : PoolLaw (closeTheSession k s).1 := by
  unfold closeTheSession
  split
  · exact h
  · exact (still_refresh (closeEntry k s).nextSession rfl).poolLaw (poolLaw_closeEntry k h)

theorem still_askRoute (u : Option UnitId) : Still s (askRoute u s) := by
  rw [askRoute_frame]; exact .of_eq

theorem still_takeSetPosition (params : List Byte) : Still s (takeSetPosition params s).1 := by
  unfold takeSetPosition
  split
  · exact .refl s
  · split
    · exact .refl s
    · split
      · exact .refl s
      · split
        · exact .refl s
        · have ha : ∀ r p, Still s (askRoute p (askRoute r s)) := fun r p => (still_askRoute r).trans (still_askRoute p)
          have hassign : ∀ (k : PosId) r p t, Still t (assignUnits k r p t) := fun _ _ _ _ => still_modPos rfl
          unfold checkUnits
          dsimp only
          split_ifs
          · exact ha _ _
          · exact ha _ _
          · exact ha _ _
          · exact ha _ _
          · exact (ha _ _).trans (hassign _ _ _ _)

theorem moves_evaluateUnit (u : Option UnitId) : Moves s (evaluateUnit u s) := by
  unfold evaluateUnit
  split
  · exact moves_evaluate _
  · exact .refl s

theorem poolLaw_startEntry {k : PosId} {r : EntryParams} {tag : Byte} {i : RecId} (hi : s.pool[i].state = .free)
    (he : s.positions[k].entry = none) (h : PoolLaw s) : PoolLaw (startEntry k r tag i s) := by
  have hv : placesOf (startEntry k r tag i s) =
      ((placesOf s).setPlace i { placeOf s.pool[i] with state := .reserved }).setEntry k (some (.collecting, i)) := by
    have h1 : placesOf (reserveSlot (modRec i (fun x => { x with state := .reserved }) s)) =
        (placesOf s).setPlace i { placeOf s.pool[i] with state := .reserved } := placesOf_modRec i (fun x => { x with state := .reserved }) s
    unfold startEntry
    rw [(still_refreshLamp k).places, placesOf_modPos, h1]
    rfl
  have hready : Ready (startEntry k r tag i s) = Ready s := rfl
  rw [poolLaw_iff] at h ⊢
  rw [hv, hready]
  exact h.reserve hi rfl (by show entryPlace _ = none; rw [he]; rfl)

theorem poolLaw_takeOpenEntry (tag : Byte) (params : List Byte) (h : PoolLaw s) : PoolLaw (takeOpenEntry tag params s).1 := by
  unfold takeOpenEntry
  split
  · exact h
  · split
    · exact h
    · unfold checkEntry
      dsimp only
      split_ifs with _ he _ hu
      · exact h
      · exact h
      · exact h
      · rw [Bool.and_eq_true] at hu
        obtain ⟨hk, hr⟩ := hu
        rw [evaluateUnit_usable hk, evaluateUnit_usable hr]
        unfold admitEntry
        split
        · exact h
        · rename_i i hi
          split
          · exact h
          · exact poolLaw_startEntry (firstFree_free s hi) (by simpa using he) h
      · exact ((moves_evaluateUnit _).trans (moves_evaluateUnit _)).poolLaw h

theorem poolLaw_cancelTheEntry (k : PosId) (h : PoolLaw s) : PoolLaw (cancelTheEntry k s).1 := by
  unfold cancelTheEntry
  split
  · exact h
  · split
    · exact h
    · rename_i e he
      split_ifs with _ hq
      · exact (moves_endEntry k _ _ _ _).poolLaw h
      · rw [poolLaw_iff] at h
        obtain ⟨h1, h2⟩ := placed_withdrawQueued h he hq
        exact poolLaw_endEntry_of_lost _ _ _ _ h1 h2
      · exact h

/-! ### The rest of the requests -/

theorem still_takeSetRoute (params : List Byte) : Still s (takeSetRoute params s).1 := by
  have hm : ∀ (t : State) c p, Still t (mismatchAt c p t) := fun t c p => by
    unfold mismatchAt
    split
    · exact still_raiseNotice _
    · exact .refl t
  unfold takeSetRoute
  split
  · exact .refl s
  · split
    · exact .refl s
    · rename_i w _
      unfold applyRoute
      split_ifs
      · exact .refl s
      · exact .refl s
      · have h1 : Still s (writePorts w s) := by
          unfold writePorts
          split
          · exact .refl s
          · exact .of_eq
        have h2 : ∀ t, Still t (writeClass w t) := fun t => by
          unfold writeClass
          split
          · exact .refl t
          · exact .of_eq
        refine (h1.trans (h2 _)).trans ?_
        unfold reportMismatch
        dsimp only
        split
        · split
          · exact (hm _ _ _).trans (hm _ _ _)
          · exact hm _ _ _
        · exact .refl _

theorem still_takeClearRoute (params : List Byte) : Still s (takeClearRoute params s).1 := by
  unfold takeClearRoute
  split
  · exact .refl s
  · split
    · exact .refl s
    · split
      · exact .refl s
      · exact .of_eq

theorem still_takeReadCounters (params : List Byte) : Still s (takeReadCounters params s).1 := by
  unfold takeReadCounters
  split
  · exact .refl s
  · split
    · rename_i sel _ _ _
      dsimp only
      split
      · cases sel with
        | port p =>
          have hs : Still s (modPort p (fun q => { q with counters := coldPortCounters }) s) := still_modPort rfl rfl Iff.rfl
          exact hs
        | link => exact .of_eq
      · exact .refl s
    · exact .refl s

theorem still_takeTakeNotice (params : List Byte) : Still s (takeTakeNotice params s).1 := by
  unfold takeTakeNotice
  split
  · exact .refl s
  · unfold takeTheNotice
    split
    · exact .refl s
    · rename_i n rest _
      have h0 : Still s { s with notices := rest } := .of_eq
      exact h0.trans (still_noticeChanged n)

/-! ### Every command -/

theorem poolLaw_takeRestart (params : List Byte) (h : PoolLaw s) : PoolLaw (takeRestart params s).1 := by
  unfold takeRestart
  split
  · exact h
  · split
    · exact poolLaw_counterRestart 1 h
    · exact h

theorem poolLaw_standDown (h : PoolLaw s) : PoolLaw (standDown s) := by
  have hr := poolLaw_counterRestart 0 h
  unfold standDown
  generalize counterRestart 0 s = t at hr
  exact (still_raiseNotice _).poolLaw (hr.congr rfl rfl rfl)

theorem poolLaw_restartRequest (tag : Byte) (params : List Byte) (h : PoolLaw s) : PoolLaw (restartRequest tag params s) := by
  unfold restartRequest
  split
  · exact (poolLaw_cold ..).congr (s := restartEverything s) rfl rfl rfl
  · exact poolLaw_manage (fun _ hb => poolLaw_takeRestart params hb) h

theorem poolLaw_of_still {tag : Byte} {take : State → State × Answer} (ht : ∀ b, Still b (take b).1) (h : PoolLaw s) :
    PoolLaw (manage tag take s) := poolLaw_manage (fun b hb => (ht b).poolLaw hb) h

theorem still_takeSetGroup (params : List Byte) : Still s (takeSetGroup params s).1 := by
  unfold takeSetGroup
  split
  · exact .refl s
  · split
    · exact .refl s
    · exact .of_eq

theorem still_takeSetLine (params : List Byte) : Still s (takeSetLine params s).1 := by
  unfold takeSetLine
  split
  · exact .refl s
  · split
    · exact .refl s
    · exact .of_eq

theorem still_takeSetSessionLimit (params : List Byte) : Still s (takeSetSessionLimit params s).1 := by
  unfold takeSetSessionLimit
  split
  · exact .refl s
  · split_ifs
    · exact .refl s
    · exact .refl s
    · exact .of_eq

theorem still_takeReadRoute (params : List Byte) : Still s (takeReadRoute params s).1 := by
  unfold takeReadRoute
  split
  · exact .refl s
  · split <;> exact .refl s

theorem still_takeReadPort (params : List Byte) : Still s (takeReadPort params s).1 := by
  unfold takeReadPort
  split
  · exact .refl s
  · split <;> exact .refl s

theorem still_takeReadGroup (params : List Byte) : Still s (takeReadGroup params s).1 := by
  unfold takeReadGroup
  split
  · exact .refl s
  · split <;> exact .refl s

theorem still_takeReadStatus (params : List Byte) : Still s (takeReadStatus params s).1 := by
  unfold takeReadStatus
  split <;> exact .refl s

theorem still_readThePosition (k : PosId) : Still s (readThePosition k s).1 := .of_eq

/-- Every listed management request is one of those of Table 12.7. -/
theorem poolLaw_managementRequest {code tag : Byte} {params : List Byte} {take : State → State}
    (h : managementRequest code tag params = some take) (hs : PoolLaw s) : PoolLaw (take s) := by
  unfold managementRequest at h
  split at h
  case h_25 => cases h
  all_goals obtain rfl := Option.some.inj h
  · exact poolLaw_of_still (fun _ => still_takeSetRoute params) hs
  · exact poolLaw_of_still (fun _ => still_takeClearRoute params) hs
  · exact poolLaw_of_still (fun _ => still_takeReadRoute params) hs
  · exact poolLaw_of_still (fun _ => still_takeSetGroup params) hs
  · exact poolLaw_of_still (fun _ => still_takeReadGroup params) hs
  · exact poolLaw_manage (fun _ => poolLaw_takeSetPort params) hs
  · exact poolLaw_of_still (fun _ => still_takeReadPort params) hs
  · exact poolLaw_manage (fun _ => poolLaw_takeResetPort params) hs
  · exact poolLaw_manage (fun _ => poolLaw_takeAbortPort params) hs
  · exact poolLaw_manage (fun _ => poolLaw_takeSetPass params) hs
  · exact poolLaw_of_still (fun _ => still_takeSetPosition params) hs
  · exact poolLaw_manage (fun _ hb => poolLaw_withPosition (fun k => (still_openThePosition k).poolLaw hb) hb) hs
  · exact poolLaw_manage (fun _ hb => poolLaw_withPosition (fun k => (still_closeThePosition k).poolLaw hb) hb) hs
  · exact poolLaw_manage (fun _ hb => poolLaw_withPosition (fun k => (still_openTheSession k).poolLaw hb) hb) hs
  · exact poolLaw_manage (fun _ hb => poolLaw_withPosition (fun k => poolLaw_closeTheSession k hb) hb) hs
  · exact poolLaw_of_still (fun _ => still_takeSetSessionLimit params) hs
  · exact poolLaw_manage (fun _ hb => poolLaw_withPosition (fun k => (still_readThePosition k).poolLaw hb) hb) hs
  · exact poolLaw_manage (fun _ => poolLaw_takeOpenEntry tag params) hs
  · exact poolLaw_manage (fun _ hb => poolLaw_withPosition (fun k => poolLaw_cancelTheEntry k hb) hb) hs
  · exact poolLaw_of_still (fun _ => still_takeSetLine params) hs
  · exact poolLaw_of_still (fun _ => still_takeReadStatus params) hs
  · exact poolLaw_of_still (fun _ => still_takeReadCounters params) hs
  · exact poolLaw_of_still (fun _ => still_takeTakeNotice params) hs
  · exact poolLaw_restartRequest tag params hs

theorem poolLaw_refuseAtDispatch (tag : Byte) (st : Status) (h : PoolLaw s) : PoolLaw (refuseAtDispatch tag st s) :=
  (poolLaw_refuse tag st h).congr rfl rfl rfl

theorem poolLaw_dispatch (kind unit tag : Byte) (payload : List Byte) (h : PoolLaw s) : PoolLaw (dispatch kind unit tag payload s) := by
  unfold dispatch
  split_ifs
  · exact (poolLaw_takeUnitRequest unit tag payload h).congr rfl rfl rfl
  · exact (poolLaw_takeGroupRequest unit tag payload h).congr rfl rfl rfl
  · unfold dispatchManagement
    split
    · exact poolLaw_refuseAtDispatch _ _ h
    · split
      · exact poolLaw_refuseAtDispatch _ _ h
      · split
        · rename_i hm
          exact poolLaw_managementRequest hm h
        · exact poolLaw_refuseAtDispatch _ _ h
  · exact poolLaw_refuseAtDispatch _ _ h

theorem poolLaw_takeWorkstation (a : Assembled) (h : PoolLaw s) : PoolLaw (takeWorkstation a s) := by
  have counted : ∀ c, PoolLaw (countLink c s) := fun _ => h.congr rfl rfl rfl
  unfold takeWorkstation
  split
  · exact h
  · exact counted _
  · unfold takeCounterFrame
    split
    · exact counted _
    · split
      · exact poolLaw_dispatch _ _ _ _ (counted _)
      · exact (still_raiseNotice _).poolLaw (counted _)

theorem poolLaw_receiveWorkstation (b : Byte) (stop : Bool) (h : PoolLaw s) : PoolLaw (receiveWorkstation b stop s) :=
  poolLaw_takeWorkstation _ (h.congr (t := { s with
    wsAsm := (assemble counterMark 4 255 (!stop) b s.wsAsm).1
    wsGap := workstationGap (assemble counterMark 4 255 (!stop) b s.wsAsm).1 }) rfl rfl rfl)

/-- Every command keeps each exchange record in one place, where the ports agree with their states. -/
theorem poolLaw_exec {c : Instr} {t : State} (ht : exec c s = .next t) (h : PoolLaw s) (hp : PortsLaw s) : PoolLaw t := by
  have same : ∀ u : State, u.ports = s.ports → u.pool = s.pool → u.positions = s.positions → PoolLaw u := fun _ h1 h2 h3 => h.congr h1 h2 h3
  cases c <;> obtain rfl := Host.Outcome.next.inj ht
  case coldReset => exact poolLaw_cold ..
  case wreadyAsserted => exact same _ rfl rfl rfl
  case wreadyNegated => exact same _ rfl rfl rfl
  case presenceAsserted p => exact poolLaw_presenceAsserted p h
  case presenceLost p => exact poolLaw_presenceLost p h
  case overCurrent p =>
    split
    · exact poolLaw_enterFault p _ h
    · exact h
  case routeStorageUpset u held => exact same _ rfl rfl rfl
  case groupStorageUpset g held => exact same _ rfl rfl rfl
  case lineFrameReceived p char => exact poolLaw_receiveCharacter p char h
  case deviceCharacterReceived p char => exact poolLaw_receiveCharacter p char h
  case deviceReceiveGapExpiry p =>
    split
    · have hs : Still s (modPort p (fun q => { q with asm := .hunting true, gap := none }) s) := still_modPort rfl rfl Iff.rfl
      exact (hs.trans (still_countPort _ p)).poolLaw h
    · exact h
  case counterFrameReceived b stop => exact poolLaw_receiveWorkstation b stop h
  case workstationCharacterReceived b stop => exact poolLaw_receiveWorkstation b stop h
  case workstationGapExpiry =>
    split
    · exact same _ rfl rfl rfl
    · exact h
  case unitRequest unit tag payload => exact (poolLaw_takeUnitRequest unit tag payload h).congr rfl rfl rfl
  case groupRequest unit tag payload => exact (poolLaw_takeGroupRequest unit tag payload h).congr rfl rfl rfl
  case dispatchRefusal kind unit tag payload =>
    split
    · exact poolLaw_refuseAtDispatch _ _ h
    · exact h
  case setRoute tag params => exact poolLaw_of_still (fun _ => still_takeSetRoute params) h
  case clearRoute tag params => exact poolLaw_of_still (fun _ => still_takeClearRoute params) h
  case readRoute tag params => exact poolLaw_of_still (fun _ => still_takeReadRoute params) h
  case setGroup tag params => exact poolLaw_of_still (fun _ => still_takeSetGroup params) h
  case readGroup tag params => exact poolLaw_of_still (fun _ => still_takeReadGroup params) h
  case setPort tag params => exact poolLaw_manage (fun _ => poolLaw_takeSetPort params) h
  case readPort tag params => exact poolLaw_of_still (fun _ => still_takeReadPort params) h
  case resetPort tag params => exact poolLaw_manage (fun _ => poolLaw_takeResetPort params) h
  case abortPort tag params => exact poolLaw_manage (fun _ => poolLaw_takeAbortPort params) h
  case setPass tag params => exact poolLaw_manage (fun _ => poolLaw_takeSetPass params) h
  case setPosition tag params => exact poolLaw_of_still (fun _ => still_takeSetPosition params) h
  case openPosition tag params =>
    exact poolLaw_manage (fun _ hb => poolLaw_withPosition (fun k => (still_openThePosition k).poolLaw hb) hb) h
  case closePosition tag params =>
    exact poolLaw_manage (fun _ hb => poolLaw_withPosition (fun k => (still_closeThePosition k).poolLaw hb) hb) h
  case openSession tag params =>
    exact poolLaw_manage (fun _ hb => poolLaw_withPosition (fun k => (still_openTheSession k).poolLaw hb) hb) h
  case closeSession tag params =>
    exact poolLaw_manage (fun _ hb => poolLaw_withPosition (fun k => poolLaw_closeTheSession k hb) hb) h
  case setSessionLimit tag params => exact poolLaw_of_still (fun _ => still_takeSetSessionLimit params) h
  case readPosition tag params =>
    exact poolLaw_manage (fun _ hb => poolLaw_withPosition (fun k => (still_readThePosition k).poolLaw hb) hb) h
  case openEntry tag params => exact poolLaw_manage (fun _ => poolLaw_takeOpenEntry tag params) h
  case cancelEntry tag params =>
    exact poolLaw_manage (fun _ hb => poolLaw_withPosition (fun k => poolLaw_cancelTheEntry k hb) hb) h
  case setLine tag params => exact poolLaw_of_still (fun _ => still_takeSetLine params) h
  case readStatus tag params => exact poolLaw_of_still (fun _ => still_takeReadStatus params) h
  case readCounters tag params => exact poolLaw_of_still (fun _ => still_takeReadCounters params) h
  case takeNotice tag params => exact poolLaw_of_still (fun _ => still_takeTakeNotice params) h
  case restartTraffic tag params => exact poolLaw_restartRequest tag params h
  case restartAll tag => exact poolLaw_restartRequest tag [scopeAll] h
  case settleTimerExpiry p => exact poolLaw_settleExpired p h
  case identifyDeadlineExpiry p => exact poolLaw_identifyExpired p h
  case resetPulseEnd p => exact poolLaw_pulseEnded p (hp p) h
  case deadlineExpiry p => exact poolLaw_deadlineExpired p h
  case holdTimerExpiry i => exact poolLaw_holdExpired i h
  case silenceTimerExpiry =>
    split
    · exact poolLaw_standDown h
    · exact h
  case entryTimerExpiry k => exact (moves_expireEntry k).poolLaw h
  case lampFlashToggle k => exact (still_toggleLamp k).poolLaw h
  case exchangeStart p => exact poolLaw_exchangeStart p h
  case deviceFrameStart p quietMs => exact poolLaw_frameStart p quietMs h
  case deviceFrameEnd p => exact poolLaw_frameEnd p h
  case grant => exact still_grant.poolLaw h
  case workstationFrameEnd => exact poolLaw_frameDone h

/-- Settles O10, by what every command does to the places of the exchange records. -/
theorem stepKeepsPoolLaw : Obligations.StepKeepsPoolLaw := by
  intro s t h hp ht
  unfold step at ht
  split at ht
  · exact poolLaw_exec ht (h.congr rfl rfl rfl) hp
  · obtain rfl := Host.Outcome.next.inj ht
    exact h

/-! ### RESTART TRAFFIC and the stand-down -/

/-- A counter restart does not see the reservation of the request that asks for it (R158, R180). -/
theorem counterRestart_reserve (s : State) : counterRestart 1 (reserveSlot s) = reserveSlot (counterRestart 0 s) := by
  have h1 := restartedWith_counterRestart 1 (reserveSlot s)
  have h0 := restartedWith_counterRestart 0 s
  generalize counterRestart 1 (reserveSlot s) = x at h1
  generalize counterRestart 0 s = y at h0
  have hports : x.ports = y.ports := Vector.ext fun i hi => (h1.ports ⟨i, hi⟩).trans (h0.ports ⟨i, hi⟩).symm
  have hpool : x.pool = y.pool := Vector.ext fun i hi => (h1.pool ⟨i, hi⟩).trans (h0.pool ⟨i, hi⟩).symm
  have hpos : x.positions = y.positions := Vector.ext fun i hi => (h1.positions ⟨i, hi⟩).trans (h0.positions ⟨i, hi⟩).symm
  rw [h1.kept, h0.kept, hports, hpool, hpos]
  rfl

/-- A position outside SESSION is as it was: it has no entry, and its lamp is at its mode (R134). -/
theorem restartedPosition_of_not_session {k : PosId} (h1 : PositionLaw s) (h2 : LampLaw s) (hs : s.positions[k].state ≠ .session) :
    restartedPosition (decide (Notice.call k ∈ s.notices)) s.positions[k] = s.positions[k] := by
  have he := h1.no_entry hs
  have hq : closeForRestart s.positions[k] = s.positions[k] := by
    rw [closeForRestart, if_neg hs, ← he]
  have hm : lampFor s.positions[k].state (decide (Notice.call k ∈ s.notices)) false = s.positions[k].lamp := by
    rw [h2.mode k, ← lampMode_eq_tableLamp, lampMode, he]; rfl
  rw [restartedPosition, hq, hm, lit, if_pos rfl]

theorem restarted_of_with {t : State} (g : RestartedWith 0 s t) (h1 : PositionLaw s) (h2 : LampLaw s) : Restarted s t where
  kept := by
    have hk := g.kept
    have hsil : t.silence = s.silence := by rw [hk]
    rw [hsil]
    exact hk
  ports p := by rw [g.ports]; rfl
  frames p := by
    rw [g.ports]
    show restartedTx (List.finRange 24) s p = _
    unfold restartedTx
    cases s.ports[p].tx with
    | idle => rfl
    | sending => rfl
    | holding o b =>
      cases o with
      | exchange i => simp only [List.mem_finRange, true_and]
      | identify => rfl
      | nobody => rfl
  freed i hi := by rw [g.pool, restartedRecord_freed hi]
  held i hi := by rw [g.pool, restartedRecord_held hi]
  flying i p hi hp := by rw [g.pool, restartedRecord_sent hi]; simp only [hp]
  rest i hi := by rw [g.pool, restartedRecord_rest hi]
  sessions k hk := by
    rw [g.positions, restartedPosition]
    have hq : closeForRestart s.positions[k] = { s.positions[k] with state := .open, session := 0, entry := none } := if_pos hk
    rw [hq]; rfl
  others k hk := by rw [g.positions, restartedPosition_of_not_session h1 h2 hk]

theorem restarted_counterRestart (h1 : PositionLaw s) (h2 : LampLaw s) : Restarted s (counterRestart 0 s) :=
  restarted_of_with (restartedWith_counterRestart 0 s) h1 h2

/-- The silence timer, which a counter restart leaves, may be stopped after it (R166). -/
theorem Restarted.stopped {t : State} (h : Restarted s t) : Restarted s { t with silence := none } where
  kept := by
    have hk := h.kept
    obtain ⟨po, pl, ps, si, ht⟩ : ∃ po pl ps si, t = { s with
        ports := po, pool := pl, positions := ps, groupRecords := [], control := controlInFlight s, reservations := 0, silence := si } :=
      ⟨_, _, _, _, hk⟩
    rw [ht]
  ports := h.ports
  frames := h.frames
  freed := h.freed
  held := h.held
  flying := h.flying
  rest := h.rest
  sessions := h.sessions
  others := h.others

theorem exec_restartTraffic {tag : Byte} (hs : HasSlot s) : exec (.restartTraffic tag [0x01]) s = .next (answered tag .ok
    [byteOf (orphanCount (counterRestart 0 s))] (counterRestart 0 s)) := by
  have ht : takeRestart [0x01] (reserveSlot s) =
      (reserveSlot (counterRestart 0 s), .ok [byteOf (orphanCount (counterRestart 0 s))]) := by
    have h0 : takeRestart [0x01] (reserveSlot s) =
      (counterRestart 1 (reserveSlot s), .ok [byteOf (orphanCount (counterRestart 1 (reserveSlot s)))]) := rfl
    have hc : ∀ t : State, orphanCount (reserveSlot t) = orphanCount t := fun _ => rfl
    rw [h0, counterRestart_reserve, hc]
  have hm : exec (.restartTraffic tag [0x01]) s = .next (manage tag (takeRestart [0x01]) s) := rfl
  rw [hm, manage_slot s hs, ht, replied_ok]

/-- Settles O58, by the whole of a counter restart. -/
theorem restartAndStandDown : Obligations.RestartAndStandDown := by
  intro s _ h1 h2
  refine ⟨fun tag hs => ⟨counterRestart 0 s, restarted_counterRestart h1 h2, exec_restartTraffic hs⟩, fun hsil => ?_, fun hsil => ?_⟩
  · have hr := restarted_counterRestart h1 h2
    have he : exec .silenceTimerExpiry s = .next (raiseNotice .standDown { counterRestart 0 s with silence := none }) :=
      congrArg Host.Outcome.next (if_pos (Option.isSome_iff_ne_none.mpr hsil))
    exact ⟨_, _, hr.stopped, rfl, he, raiseNotice_raised _ _ fun _ => Notice.noConfusion⟩
  · exact congrArg Host.Outcome.next (if_neg (by rw [hsil]; decide))

end

end Sys2Proof.Machine
end

section
/-! SUPPORT. The step, storage upsets, the pins, the timers of ports and lamps, and the deadline of an attempt. -/

namespace Sys2Proof.Machine

section
variable {s : State}

theorem withPort_same (p : PortId) (s : State) : withPort p s.ports[p] s = s := by
  simp only [withPort, Fin.getElem_fin, Vector.set_getElem_self]

theorem withPos_same (k : PosId) (s : State) : withPos k s.positions[k] s = s := by
  simp only [withPos, Fin.getElem_fin, Vector.set_getElem_self]

theorem countPort_withPort (n : PortCounter) (p : PortId) (q : Port) (s : State) :
    countPort n p (withPort p q s) = withPort p { q with counters := bumpPort n q.counters } s := by
  simp only [countPort, modPort, withPort, Fin.getElem_fin, Vector.getElem_set_self, Vector.set_set]

theorem next_withPort {p : PortId} {x y : Port} (h : x = y) :
    (Host.Outcome.next (withPort p x s) : Host.Outcome State Fault Refusal) = .next (withPort p y s) := by rw [h]

theorem next_withPos {k : PosId} {x y : Position} (h : x = y) :
    (Host.Outcome.next (withPos k x s) : Host.Outcome State Fault Refusal) = .next (withPos k y s) := by rw [h]

/-! ### Pins -/

/-- A port in SETTLING or IDENTIFYING that loses presence goes to EMPTY (R33, R34). -/
theorem presenceEmpty_eq (q : Port) :
    presenceEmpty q = { quiet q with present := false, state := .empty, identity := none } := rfl

theorem presenceLost_leaves {p : PortId}
    (h : s.ports[p].state = .identifying ∨ (s.ports[p].state = .settling ∧ s.ports[p].pulse = none)) :
    presenceLost p s = modPort p presenceEmpty s := by
  rcases h with h | ⟨h, hp⟩
  · simp only [presenceLost, h]
  · simp only [presenceLost, h, hp, Option.isSome_none, Bool.false_eq_true, ↓reduceIte]

theorem presenceLost_noted {p : PortId}
    (h : s.ports[p].state = .off ∨ s.ports[p].state = .empty ∨ s.ports[p].state = .fault ∨
      (s.ports[p].state = .settling ∧ s.ports[p].pulse ≠ none)) :
    presenceLost p s = modPort p (fun q => { q with present := false }) s := by
  rcases h with h | h | h | ⟨h, hp⟩
  · simp only [presenceLost, h]
  · simp only [presenceLost, h]
  · simp only [presenceLost, h]
  · simp only [presenceLost, h, Option.isSome_iff_ne_none.mpr hp, ↓reduceIte]

theorem enterFault_of_not_ready {p : PortId} (c : FaultCause) (h : s.ports[p].state ≠ .ready) :
    enterFault p c s = raiseNotice (.portFault p) (withPort p { quiet s.ports[p] with
      state := .fault, cause := c, supply := s.ports[p].supply && decide (c ≠ .overcurrent), pulse := none, resetLine := false } s) := by
  have hr : portReady p s = false := by simpa only [portReady, decide_eq_false_iff_not] using h
  simp only [enterFault, hr]
  rfl

theorem raised_portFault (p : PortId) (s : State) : Raised (.portFault p) s (raiseNotice (.portFault p) s) :=
  raiseNotice_raised s _ fun _ => Notice.noConfusion

/-! ### Line times -/

theorem baud_pos (r : Rate) : 0 < baud r := by cases r <;> decide

/-- The line time is a quotient rounded up (R79). -/
theorem lineMs_le_iff (c : PortConfig) (n m : Nat) : lineMs c n ≤ m ↔ charBits c.charLen * n * 1000 ≤ m * baud c.rate := by
  have hb := baud_pos c.rate
  rw [lineMs, ← Nat.lt_succ_iff, Nat.div_lt_iff_lt_mul hb, Nat.succ_mul]
  omega

theorem deadlineMs_eq (c : PortConfig) (lq : Nat) :
    deadlineMs c lq = max 20 (lineMs c lq + 20 * c.allowance.toNat + lineMs c c.replyLimit.toNat + 2 +
      (match c.duplex with | .full => 0 | .half => 2 * lineMs c 2)) := rfl

/-! ### Timers -/

theorem nextSeq_eq (c : Byte) : nextSeq c = if c = 255 then 1 else c + 1 := rfl

theorem settleExpired_none {q : Port} (h : q.settle = none) : settleExpired q = q := by simp [settleExpired, h]

theorem settleExpired_settling {q : Port} (h : q.state = .settling) (hs : q.settle ≠ none) : settleExpired q = beginIdentify q :=
  if_pos ⟨Option.isSome_iff_ne_none.mpr hs, h⟩

theorem pulseEnded_none {q : Port} (h : q.pulse = none) : pulseEnded q = q := by simp [pulseEnded, h]

/-- The deadline of an identify attempt expires (R36, R39). -/
theorem identifyExpired_of_deadline {p : PortId} {d : Identify} {ms : Nat} (hi : s.ports[p].identify = some d)
    (hd : d.deadline = some ms) :
    identifyExpired p s = if d.attempt < 1 + s.ports[p].config.retryLimit.toNat then
      countPort .timeouts p (modPort p (retryIdentify d) s) else enterFault p .noIdentity s := by
  simp only [identifyExpired, hi, hd, Option.isNone_some, Bool.false_eq_true, ↓reduceIte]
  rfl

theorem retryIdentify_idle {d : Identify} {q : Port} (h : q.tx = .idle) :
    retryIdentify d q =
      { q with identify := some ⟨d.attempt + 1, d.seq, none, false⟩, tx := .holding .identify (requestBytes d.seq 0 []) } :=
  if_pos h

theorem retryIdentify_busy {d : Identify} {q : Port} (h : q.tx ≠ .idle) :
    retryIdentify d q = { q with identify := some ⟨d.attempt + 1, d.seq, none, true⟩ } := if_neg h

end

/-- Settles O1: by the cases of the command queue. -/
theorem stepRunsFrontCommand : Obligations.StepRunsFrontCommand :=
  ⟨fun c rest s h => by simp only [step, h], fun s h => by simp only [step, h]⟩

/-- Settles O11: the section that the upset reaches is written with its upset check, and a FORCED PORTS section stays. -/
theorem upsetsReachOneSection : Obligations.UpsetsReachOneSection := by
  refine ⟨fun u p q s => ⟨upsetRoute (.ports p q) s.routes[u], rfl, ?_⟩, fun u c s => ⟨_, rfl, rfl, rfl, rfl, rfl, ?_⟩,
    fun g us s => ⟨_, rfl, rfl, rfl, rfl, ?_⟩, fun g n s => ⟨_, rfl, rfl, rfl, rfl, ?_⟩⟩
  · by_cases h : s.routes[u].portsCheck = .forced
    · simp only [upsetRoute, h, ↓reduceIte, and_self]
    · simp only [upsetRoute, h, ↓reduceIte, true_and]
      cases s.routes[u].portsCheck <;> rfl
  · show upsetCheck s.routes[u].classCheck = _
    cases s.routes[u].classCheck <;> rfl
  · show upsetCheck s.groups[g].membersCheck = _
    cases s.groups[g].membersCheck <;> rfl
  · show upsetCheck s.groups[g].countCheck = _
    cases s.groups[g].countCheck <;> rfl

/-- Settles O12: by the state of the port, each pin command being one change of the port; an over-current that arises raises its notice. -/
theorem pinsOutsideReady : Obligations.PinsOutsideReady := by
  refine ⟨fun p s => ⟨fun h => ?_, fun h => ?_, fun h => ?_, fun h => ?_⟩, fun p s => ⟨fun h => ?_, fun h => ?_⟩⟩
  · exact next_withPort (if_pos h)
  · exact next_withPort (if_neg h)
  · exact congrArg _ (presenceLost_leaves h)
  · exact congrArg _ (presenceLost_noted h)
  · have hs : supplied s.ports[p] = true := by
      rcases h with h | h | h | ⟨h, hc⟩
      · simp only [supplied, h]
      · simp only [supplied, h]
      · simp only [supplied, h]
      · simp only [supplied, h, decide_eq_true hc]
    have hr : s.ports[p].state ≠ .ready := by
      intro e
      rw [e] at h
      simp at h
    refine ⟨_, rfl, ?_⟩
    rw [if_pos hs, enterFault_of_not_ready _ hr, show (s.ports[p].supply && decide (FaultCause.overcurrent ≠ .overcurrent)) = false
      from Bool.and_false _]
    exact raised_portFault p _
  · have hs : supplied s.ports[p] = false := by
      rcases h with h | ⟨h, hc⟩
      · simp only [supplied, h]
      · simp only [supplied, h, hc, ne_eq, not_true_eq_false, decide_false]
    show Host.Outcome.next (if supplied s.ports[p] = true then _ else s) = _
    rw [hs]; rfl

/-- Settles O14: by whether the timer runs, and for an identify by whether attempts remain. -/
theorem portAndLampTimers : Obligations.PortAndLampTimers := by
  refine ⟨⟨fun p s => ⟨fun h hs => ?_, fun h => ?_, fun h hp => ?_, fun h hp => ?_, fun h => ?_⟩, fun k s => ⟨fun h => ?_, fun h => ?_⟩⟩,
    fun p d ms s _ hi hd ht => ?_⟩
  · exact next_withPort (settleExpired_settling h hs)
  · exact (next_withPort (settleExpired_none h)).trans (congrArg _ (withPort_same p s))
  · exact next_withPort ((if_pos (Option.isSome_iff_ne_none.mpr h)).trans (if_pos hp))
  · exact next_withPort ((if_pos (Option.isSome_iff_ne_none.mpr h)).trans (if_neg (by simp only [hp, Bool.false_eq_true, not_false_eq_true])))
  · exact (next_withPort (pulseEnded_none h)).trans (congrArg _ (withPort_same p s))
  · exact next_withPos (if_pos h)
  · exact (next_withPos (if_neg h)).trans (congrArg _ (withPos_same k s))
  · refine ⟨fun hm => ?_, fun hm => ⟨identifyExpired p s, rfl, ?_⟩⟩
    · show Host.Outcome.next (identifyExpired p s) = _
      rw [identifyExpired_of_deadline hi hd, if_pos hm]
      show Host.Outcome.next (countPort .timeouts p (withPort p (retryIdentify d s.ports[p]) s)) = _
      rw [retryIdentify_idle ht, countPort_withPort]
      simp only [bumpPort, bump_eq]
    · have hr : s.ports[p].state ≠ .ready := by rename_i h; rw [h]; decide
      rw [identifyExpired_of_deadline hi hd, if_neg (Nat.not_lt.mpr hm), enterFault_of_not_ready _ hr,
        show (s.ports[p].supply && decide (FaultCause.noIdentity ≠ .overcurrent)) = s.ports[p].supply from Bool.and_true _]
      exact raised_portFault p _

/-- Settles O17: the rounding up of `lineMs_le_iff`, and the maximum with 20. -/
theorem deadlineOfAnAttempt : Obligations.DeadlineOfAnAttempt := by
  refine ⟨lineMs_le_iff, fun c lq => ⟨fun h => ?_, fun h => ?_⟩⟩
  · rw [deadlineMs_eq]; exact max_eq_left h.le
  · rw [deadlineMs_eq]; exact max_eq_right h

end Sys2Proof.Machine
end

section
/-! SUPPORT. Exchanges and device frames: starts, ends, retries, replies and the hold limit. -/

namespace Sys2Proof.Machine

section
variable {s : State}

theorem modPort_eq_withPort (p : PortId) (f : Port → Port) (s : State) : modPort p f s = withPort p (f s.ports[p]) s := rfl

theorem ports_withPort (p : PortId) (q : Port) (s : State) : (withPort p q s).ports[p] = q := by
  simp only [withPort, Fin.getElem_fin, Vector.getElem_set_self]

theorem withPort_withPort (p : PortId) (q r : Port) (s : State) : withPort p q (withPort p r s) = withPort p q s := by
  simp only [withPort, Vector.set_set]

/-! ### Starts of exchanges -/

theorem inFlight_eq_none_iff (p : PortId) :
    inFlight p s = none ↔ ∀ i : RecId, s.pool[i].port = some p → isInFlight s.pool[i] = false :=
  ⟨fun h => inFlight_none s h, inFlight_eq_none s⟩

theorem portFree_iff (p : PortId) : portFree p s = true ↔
    s.ports[p].state = .ready ∧ (∀ i : RecId, s.pool[i].port = some p → isInFlight s.pool[i] = false) ∧ s.ports[p].tx = .idle := by
  simp only [portFree, Bool.and_eq_true, portReady_iff, Option.isNone_iff_eq_none, inFlight_eq_none_iff, decide_eq_true_eq, and_assoc]

theorem exchangeStart_free {p : PortId} {i : RecId} {rest : List RecId} (hq : s.ports[p].queue = i :: rest)
    (h : portFree p s = true) : exchangeStart p s = startExchange p i rest s := by
  simp only [exchangeStart, hq, h, ↓reduceIte]

theorem exchangeStart_waits {p : PortId} (h : s.ports[p].queue = [] ∨ portFree p s = false) : exchangeStart p s = s := by
  unfold exchangeStart
  split
  · rename_i i rest hq
    rw [hq] at h
    rw [if_neg (by simpa using h)]
  · rfl

/-! ### Frames on a device line -/

theorem mayStart_iff (q : Port) (ms : Nat) :
    mayStart q ms = true ↔ q.config.duplex = .full ∨ (isHunting q.asm = true ∧ lineMs q.config 2 ≤ ms) := by
  unfold mayStart
  cases h : q.config.duplex <;> simp only [turnaroundMs, Bool.and_eq_true, true_or, reduceCtorEq, false_or]
  exact and_congr_right fun _ => decide_eq_true_iff

theorem length_character (c : CharLen) (b : Byte) : (character (decide (c = .c11)) b).length = charBits c := by
  cases c <;> rfl

theorem frameStart_holding {p : PortId} {ms : Nat} {o : TxOwner} {bytes : List Byte} (ht : s.ports[p].tx = .holding o bytes)
    (hm : mayStart s.ports[p] ms = true) :
    frameStart p ms s = startDeadline p o bytes.length (withPort p { s.ports[p] with
      tx := .sending o ⟨s.ports[p].config.rate, bytes.map (character (decide (s.ports[p].config.charLen = .c11)))⟩
        (decide (s.ports[p].config.duplex = .half)) false } s) := by
  simp only [frameStart, ht, hm, ↓reduceIte, sentFrame_eq]
  rfl

theorem frameStart_waits {p : PortId} {ms : Nat} (h : (∀ o bytes, s.ports[p].tx ≠ .holding o bytes) ∨ mayStart s.ports[p] ms = false) :
    frameStart p ms s = s := by
  unfold frameStart
  split
  · rename_i o bytes ht
    rcases h with h | h
    · exact absurd ht (h o bytes)
    · rw [if_neg (by rw [h]; decide)]
  · rfl

theorem startDeadline_identify {p : PortId} {d : Identify} (lq : Nat) (q : Port) (hi : q.identify = some d)
    (hh : d.handPending = false) :
    startDeadline p .identify lq (withPort p q s) =
      withPort p { q with identify := some { d with deadline := some (deadlineMs q.config lq) } } s := by
  simp only [startDeadline, ports_withPort]
  show withPort p _ (withPort p q s) = _
  rw [withPort_withPort, ports_withPort]
  simp only [hi, Option.map_some, hh, Bool.false_eq_true, ↓reduceIte]

theorem frameEnd_sending {p : PortId} {o : TxOwner} {frame : SentFrame} {half talked : Bool}
    (ht : s.ports[p].tx = .sending o frame half talked) :
    frameEnd p s = frameSent o (withPort p (handIdentify { s.ports[p] with tx := .idle }) s) := by
  simp only [frameEnd, ht]; rfl

theorem frameEnd_not_sending {p : PortId} (ht : ∀ o frame half talked, s.ports[p].tx ≠ .sending o frame half talked) :
    frameEnd p s = s := by
  unfold frameEnd
  split
  · rename_i h; exact absurd h (ht _ _ _ _)
  · rfl

theorem handIdentify_none {q : Port} (h : q.identify = none) : handIdentify q = q := by simp only [handIdentify, h]

theorem handIdentify_some {q : Port} {d : Identify} (h : q.identify = some d) :
    handIdentify q = if d.handPending then
      { q with identify := some { d with handPending := false }, tx := .holding .identify (requestBytes d.seq 0 []) } else q := by
  simp only [handIdentify, h]; rfl

theorem frameSent_sending {i : RecId} (h : s.pool[i].state = .sending) :
    frameSent (.exchange i) s = { s with pool := s.pool.set i { s.pool[i] with state := .awaiting } } := by
  simp only [frameSent, modRec, h, ↓reduceIte]

theorem frameSent_orphaned {i : RecId} (h : s.pool[i].state = .orphaned) : frameSent (.exchange i) s = s := by
  have hn : s.pool[i].state ≠ .sending := by rw [h]; decide
  have hr : (fun r : Exchange => if r.state = .sending then { r with state := .awaiting } else r) s.pool[i] = s.pool[i] := if_neg hn
  show { s with pool := s.pool.set i ((fun r : Exchange => if r.state = .sending then { r with state := .awaiting } else r) s.pool[i]) } = s
  rw [hr]
  simp only [Fin.getElem_fin, Vector.set_getElem_self]

/-! ### Deadlines and replies -/

theorem isInFlight_of_state {r : Exchange} (h : r.state = .sending ∨ r.state = .awaiting ∨ r.state = .orphaned) : isInFlight r = true := by
  rcases h with h | h | h <;> simp only [isInFlight, h] <;> rfl

/-- The deadline of an AWAITING exchange expires (R60, R61). -/
theorem deadlineExpired_awaiting {p : PortId} {i : RecId} {ms : Nat} (hl : PoolLaw s) (hp : s.pool[i].port = some p)
    (hs : s.pool[i].state = .awaiting) (hd : s.pool[i].deadline = some ms) :
    deadlineExpired p s = awaitingExpired p i s := by
  simp only [deadlineExpired, inFlight_eq s hl hp (isInFlight_of_state (.inr (.inl hs))), hd, hs, Option.isNone_some,
    Bool.false_eq_true, ↓reduceIte]

/-- The deadline of an ORPHANED exchange expires (R76). -/
theorem deadlineExpired_orphaned {p : PortId} {i : RecId} {ms : Nat} (hl : PoolLaw s) (hp : s.pool[i].port = some p)
    (hs : s.pool[i].state = .orphaned) (hd : s.pool[i].deadline = some ms) :
    deadlineExpired p s = silentCheck p (endOrphan i .timeout s) := by
  simp only [deadlineExpired, inFlight_eq s hl hp (isInFlight_of_state (.inr (.inr hs))), hd, hs, Option.isNone_some,
    Bool.false_eq_true, ↓reduceIte]

theorem positionLaw_sampled (p : PortId) (h : PositionLaw s) : PositionLaw (sampled p s) :=
  h.of_fields (fun _ => rfl) (fun _ => rfl) (fun _ => rfl) (fun _ => rfl) (fun _ => id) rfl rfl

/-- A good reply with the seq of the exchange in flight ends it, or frees the orphan (R63, R76). -/
theorem takeReply_flying {p : PortId} {i : RecId} {f : LineFrame} (hi : inFlight p s = some i) (hs : s.pool[i].seq = f.seq) :
    takeReply p f s = if s.pool[i].state = .orphaned then endOrphan i .done s else endExchange i .done f.code f.data s := by
  simp only [takeReply, hi, hs, ne_eq, not_true_eq_false, ↓reduceIte]

theorem takeReply_stray {p : PortId} {f : LineFrame} (h : ∀ i, inFlight p s = some i → s.pool[i].seq ≠ f.seq) :
    takeReply p f s = countPort .strayReplies p s := by
  unfold takeReply
  split
  · rfl
  · rename_i i hi; rw [if_pos (h i hi)]

/-- The hold timer of a HELD record expires (R71). -/
theorem holdExpired_held {i : RecId} {p : PortId} {ms : Nat} (hs : s.pool[i].state = .held) (hp : s.pool[i].port = some p)
    (hh : s.pool[i].hold = some ms) :
    holdExpired i s = raiseNotice (.replyDiscarded p) { withPort p { s.ports[p] with
      outbound := s.ports[p].outbound.filter (fun f => !isReplyOf i f)
      counters := { s.ports[p].counters with repliesDiscarded := counted s.ports[p].counters.repliesDiscarded } } s with
      pool := s.pool.set i freeExchange } := by
  have hc : countPort .repliesDiscarded p (withPort p { s.ports[p] with
      outbound := s.ports[p].outbound.filter (fun f => !isReplyOf i f) } { s with pool := s.pool.set i freeExchange }) = _ :=
    countPort_withPort _ _ _ _
  simp only [bumpPort, bump_eq] at hc
  simp only [holdExpired, hs, hh, hp, Option.isSome_some, and_self, ↓reduceIte]
  exact congrArg _ hc

end

/-- Settles O15: by `portFree_iff`. -/
theorem exchangeStarts : Obligations.ExchangeStarts := by
  refine fun p s => ⟨fun i rest hq hf => ?_, fun h => ?_⟩
  · exact congrArg _ (exchangeStart_free hq ((portFree_iff p).mpr hf))
  · refine congrArg _ (exchangeStart_waits (h.imp id fun hn => ?_))
    rw [Bool.eq_false_iff]
    exact fun hf => hn ((portFree_iff p).mp hf)

/-- Settles O16: by whether the DPC may start, and by the owner of the frame it holds. -/
theorem deviceFrameStarts : Obligations.DeviceFrameStarts := by
  refine fun p ms s => ⟨length_character _, fun i bytes ht hm => ?_, fun d bytes ht hi hh hm => ?_, fun h => ?_⟩
  · show Host.Outcome.next (frameStart p ms s) = _
    rw [frameStart_holding ht ((mayStart_iff _ _).mpr hm)]
    simp only [startDeadline, ports_withPort]
    rfl
  · show Host.Outcome.next (frameStart p ms s) = _
    rw [frameStart_holding ht ((mayStart_iff _ _).mpr hm), startDeadline_identify _ _ (by exact hi) hh]
  · refine congrArg _ (frameStart_waits (h.imp id fun hn => ?_))
    rw [Bool.eq_false_iff]
    exact fun hf => hn ((mayStart_iff _ _).mp hf)

/-- Settles O18: by the owner of the frame on the line. -/
theorem deviceFrameEnds : Obligations.DeviceFrameEnds := by
  refine fun p s => ⟨fun i frame half talked ht hi => ⟨fun hs => ?_, fun hs => ?_⟩, fun frame half talked ht hi => ?_,
    fun d frame half talked ht hi => ?_, fun h => congrArg _ (frameEnd_not_sending h)⟩
  · show Host.Outcome.next (frameEnd p s) = _
    rw [frameEnd_sending ht, handIdentify_none (q := { s.ports[p] with tx := .idle }) hi, frameSent_sending (by exact hs)]
    rfl
  · show Host.Outcome.next (frameEnd p s) = _
    rw [frameEnd_sending ht, handIdentify_none (q := { s.ports[p] with tx := .idle }) hi, frameSent_orphaned (by exact hs)]
  · show Host.Outcome.next (frameEnd p s) = _
    rw [frameEnd_sending ht, handIdentify_none (q := { s.ports[p] with tx := .idle }) hi]
    rfl
  · show Host.Outcome.next (frameEnd p s) = _
    rw [frameEnd_sending ht, handIdentify_some (q := { s.ports[p] with tx := .idle }) hi]
    rfl

/-- Settles O19: the exchange in flight is found by the law of the pool, and attempts remain. -/
theorem deadlineRetries : Obligations.DeadlineRetries := by
  intro p i ms s hl hp hs hd ha
  show Host.Outcome.next (deadlineExpired p s) = _
  have hc : countPort .timeouts p (withPort p { s.ports[p] with
      tx := .holding (.exchange i) (requestBytes s.pool[i].seq s.pool[i].command s.pool[i].data) }
      (modRec i (fun r => { r with attempt := r.attempt + 1, state := .sending, deadline := none }) s)) = _ := countPort_withPort _ _ _ _
  simp only [bumpPort, bump_eq] at hc
  rw [deadlineExpired_awaiting hl hp hs hd]
  refine congrArg _ (Eq.trans (if_pos ha) ?_)
  exact hc

/-- Settles O21: by `receive_reply`, the reply ends the exchange in flight, frees the orphan in flight, or is stray. -/
theorem repliesEndOrStray : Obligations.RepliesEndOrStray := by
  intro p seq code data c s hl hr hc h0 h1 h2
  let f : LineFrame := ⟨true, data.length + 3, lineReply, seq, code, data⟩
  have run : exec (.lineFrameReceived p c) s = .next (takeReply p f (sampled p s)) :=
    congrArg _ (receive_reply s hr hc h0 h1 h2)
  have found {i : RecId} (hp : s.pool[i].port = some p)
      (hf : s.pool[i].state = .sending ∨ s.pool[i].state = .awaiting ∨ s.pool[i].state = .orphaned) :
      inFlight p (sampled p s) = some i := inFlight_eq s hl hp (isInFlight_of_state hf)
  refine ⟨fun i hp hf ho hg hs => ?_, fun i hp hs => ⟨fun hf hpl => ?_, fun hf => ?_⟩, fun h => ?_⟩
  · have hn : (sampled p s).pool[i].state ≠ .orphaned := by
      show s.pool[i].state ≠ _
      rcases hf with e | e <;> rw [e] <;> decide
    rw [run, takeReply_flying (f := f) (found hp (hf.imp id .inl)) hs, if_neg hn, endExchange_held (sampled p s) _ _ _ hp ho hg]
    simp only [replyHeld, sampled, ports_withPort, withPort_withPort]
    rfl
  · have hn : (sampled p s).pool[i].state ≠ .orphaned := by
      show s.pool[i].state ≠ _
      rcases hf with e | e <;> rw [e] <;> decide
    rw [run, takeReply_flying (f := f) (found hp (hf.imp id .inl)) hs, if_neg hn, endExchange_eq (sampled p s) _ _ _ (positionLaw_sampled p hpl) hp]
  · rw [run, takeReply_flying (f := f) (found hp (.inr (.inr hf))) hs, if_pos (by exact hf), endOrphan_eq (sampled p s) _ hp]
    rfl
  · rw [run, takeReply_stray (f := f) (s := sampled p s) fun i hi => h i (inFlight_spec s hi).1 (inFlight_spec s hi).2, sampled, countPort_withPort]
    simp only [bumpPort, bump_eq]

/-- Settles O22: by whether the hold timer runs. -/
theorem holdLimitDiscardsReply : Obligations.HoldLimitDiscardsReply := by
  refine fun i p s hs hp => ⟨fun ms hh => ⟨holdExpired i s, rfl, ?_⟩, fun hh => ?_⟩
  · rw [holdExpired_held hs hp hh]
    exact raiseNotice_raised _ _ fun _ => Notice.noConfusion
  · refine congrArg _ (if_neg ?_)
    simp only [hh, Option.isSome_none, Bool.false_eq_true, and_false, not_false_eq_true]

end Sys2Proof.Machine
end

section
/-! SUPPORT. Position, session and entry requests, RESET PORT and SET PASS. -/

namespace Sys2Proof.Machine

section
variable {s : State}

/-! ### Lamps -/

theorem positions_withPos (k : PosId) (q : Position) (s : State) : (withPos k q s).positions[k] = q := by
  simp only [withPos, Fin.getElem_fin, Vector.getElem_set_self]

theorem withPos_withPos (k : PosId) (q r : Position) (s : State) : withPos k q (withPos k r s) = withPos k q s := by
  simp only [withPos, Vector.set_set]

theorem lampMode_withPos (k : PosId) (q : Position) (s : State) :
    lampMode k (withPos k q s) = lampFor q.state (decide (Notice.call k ∈ s.notices)) (isCollecting q.entry) := by
  simp only [lampMode, positions_withPos]
  rfl

/-- A position that is written and then lit by Table 7.3 (R130). -/
theorem refreshLamp_withPos (k : PosId) (q : Position) (s : State) :
    refreshLamp k (withPos k q s) =
      withPos k (lit (lampFor q.state (decide (Notice.call k ∈ s.notices)) (isCollecting q.entry)) q) s := by
  rw [refreshLamp_eq, lampMode_withPos, positions_withPos, withPos_withPos]

theorem posOf_none {b : Byte} (h : b.toNat = 0 ∨ 8 < b.toNat) : posOf b = none := dif_neg (by omega)

theorem portOf_none {b : Byte} (h : 11 < b.toNat) : portOf b = none := dif_neg (by omega)

theorem unitOf_none {b : Byte} (h : b.toNat = 0 ∨ 24 < b.toNat) : unitOf b = none := dif_neg (by omega)

/-! ### Entries that end -/

/-- A slot reserved for a reply and an entry's own slot are apart (R158). -/
theorem entryEnded_reserve {k : PosId} {e : Entry} {o : EntryOutcome} {c : EntryCause} {st : Byte} {d : List Byte}
    (h : 1 ≤ s.reservations) : entryEnded k e o c st d (reserveSlot s) = reserveSlot (entryEnded k e o c st d s) := by
  have hr : s.reservations + 1 - 1 = s.reservations - 1 + 1 := by omega
  simp only [entryEnded, reserveSlot, hr]
  rfl

theorem expireEntry_none {k : PosId} (h : s.positions[k].entry = none) : expireEntry k s = s := by simp only [expireEntry, h]

theorem expireEntry_delivering {k : PosId} {e : Entry} (h : s.positions[k].entry = some e) (hs : e.state = .delivering) :
    expireEntry k s = s := by simp only [expireEntry, h, hs, reduceCtorEq, false_and, ↓reduceIte]

theorem expireEntry_collecting {k : PosId} {e : Entry} {ms : Nat} (hs : s.positions[k].state = .session)
    (h : s.positions[k].entry = some e) (hc : e.state = .collecting) (ht : e.timer = some ms) :
    expireEntry k s = entryEnded k e .timedOut (timingCause e.timing) 0 [] s := by
  simp only [expireEntry, h, hc, ht, Option.isSome_some, and_self, ↓reduceIte]
  exact endEntry_eq s k e _ _ _ _ h hs

theorem exec_cancelEntry (k : PosId) (tag : Byte) (s : State) :
    exec (.cancelEntry tag [posAddr k]) s = .next (manage tag (cancelTheEntry k) s) :=
  congrArg (fun take => Host.Outcome.next (manage tag take s)) (funext fun b => withPosition_posAddr k _ b)

/-- A COLLECTING entry, or one whose delivery has been withdrawn, is cancelled (R149). -/
theorem cancelled_reserve {k : PosId} {e : Entry} (hs : s.positions[k].state = .session) (h : s.positions[k].entry = some e)
    (hr : 1 ≤ s.reservations) :
    cancelled k e (reserveSlot s) = (reserveSlot (entryEnded k e .cancelled .request 0 [] s), .ok [1, e.tag]) := by
  simp only [cancelled, endEntry_eq (reserveSlot s) k e _ _ _ _ h hs, entryEnded_reserve hr]

theorem closeEntry_none {k : PosId} (h : s.positions[k].entry = none) : closeEntry k s = s := by simp only [closeEntry, h]

theorem closeEntry_collecting {k : PosId} {e : Entry} (hs : s.positions[k].state = .session) (h : s.positions[k].entry = some e)
    (hc : e.state = .collecting) : closeEntry k s = entryEnded k e .abandoned .sessionClosed 0 [] s := by
  simp only [closeEntry, h, hc, reduceCtorEq, ↓reduceIte]
  exact endEntry_eq s k e _ _ _ _ h hs

/-- A DELIVERING entry ends at a session close, its delivery having become `b` (R148). -/
theorem closeEntry_delivering {k : PosId} {e : Entry} {b : State} (hs : b.positions[k].state = .session)
    (h : s.positions[k].entry = some e) (hb : b.positions[k].entry = some e) (hc : e.state = .delivering)
    (ha : abandonDelivery e.record s = b) : closeEntry k s = entryEnded k e .abandoned .sessionClosed 0 [] b := by
  simp only [closeEntry, h, hc, ↓reduceIte, ha]
  exact endEntry_eq b k e _ _ _ _ hb hs

theorem abandonDelivery_queued {i : RecId} {p : PortId} (hs : s.pool[i].state = .queued) (hp : s.pool[i].port = some p) :
    abandonDelivery i s = withdrawn p i s := by
  simp only [abandonDelivery, hs]
  exact withdrawQueued_eq s hp

theorem abandonDelivery_flying {i : RecId} (hs : s.pool[i].state = .sending ∨ s.pool[i].state = .awaiting) :
    abandonDelivery i s = orphan i s := by
  rcases hs with hs | hs <;> simp only [abandonDelivery, hs]

/-- A frame that has not been started is dropped with its exchange (R75, R76). -/
theorem orphan_waits {i : RecId} {p : PortId} {bytes : List Byte} (hp : s.pool[i].port = some p)
    (ht : s.ports[p].tx = .holding (.exchange i) bytes) :
    orphan i s = { withPort p { s.ports[p] with tx := .idle } s with pool := s.pool.set i freeExchange } := by
  have hr : releaseTx i s.ports[p].tx = .idle := by rw [ht]; exact if_pos rfl
  simp only [orphan, hp, heldUnstarted_iff.mpr ⟨bytes, ht⟩, ↓reduceIte, dropOrphan]
  show { withPort p { s.ports[p] with tx := releaseTx i s.ports[p].tx } s with pool := s.pool.set i freeExchange } = _
  rw [hr]

theorem orphan_started {i : RecId} {p : PortId} (hp : s.pool[i].port = some p)
    (ht : ¬ ∃ bytes, s.ports[p].tx = .holding (.exchange i) bytes) :
    orphan i s = { s with pool := s.pool.set i { s.pool[i] with state := .orphaned } } := by
  have hn : ¬ heldUnstarted i s.ports[p].tx = true := fun h => ht (heldUnstarted_iff.mp h)
  unfold orphan
  split
  · rename_i h; rw [hp] at h; cases h
  · rename_i q h
    rw [hp] at h
    cases h
    rw [if_neg hn]
    rfl

/-- A session closes, its entry having ended in the state `b` (R124). -/
theorem closeTheSession_session {k : PosId} {b : State} (hs : s.positions[k].state = .session)
    (hb : closeEntry k (reserveSlot s) = reserveSlot b) :
    closeTheSession k (reserveSlot s) = (reserveSlot (withPos k (lit .steady { b.positions[k] with state := .open, session := 0 }) b),
      .ok [s.positions[k].session]) := by
  have hn : ¬ (reserveSlot s).positions[k].state ≠ .session := fun h => h hs
  unfold closeTheSession
  rw [if_neg hn, hb]
  exact congrArg (fun t => (reserveSlot t, Answer.ok [s.positions[k].session]))
    (refreshLamp_withPos k { b.positions[k] with state := .open, session := 0 } b)

/-! ### Sessions -/

theorem startSession_eq {k : PosId} (h : s.positions[k].entry = none) :
    startSession k s = { withPos k (lit .off { s.positions[k] with state := .session, session := newSession s }) s with
      nextSession := nextNumber (newSession s) } := by
  have hl : lampFor .session (decide (Notice.call k ∈ s.notices)) (isCollecting s.positions[k].entry) = .off := by rw [h]; rfl
  refine (refreshLamp_withPos k { s.positions[k] with state := .session, session := newSession s }
    { s with nextSession := nextNumber (newSession s) }).trans ?_
  show withPos k (lit (lampFor .session (decide (Notice.call k ∈ s.notices)) (isCollecting s.positions[k].entry)) _) _ = _
  rw [hl]
  rfl

end

/-- Settles O30: by the state of the position and of its entry, and of the delivery of a DELIVERING one. -/
theorem entriesEndUndelivered : Obligations.EntriesEndUndelivered := by
  refine ⟨fun k s => ⟨fun e ms hs h hc ht => ?_, fun h => congrArg _ (expireEntry_none h), fun e h hc =>
    congrArg _ (expireEntry_delivering h hc)⟩, fun k tag s hslot => ?_⟩
  · show Host.Outcome.next (expireEntry k s) = _
    rw [expireEntry_collecting hs h hc ht]
    cases e.timing <;> rfl
  · rw [exec_cancelEntry]
    refine ⟨fun h => congrArg _ (manage_refuse hslot (if_pos h)), fun hs h => ?_, fun e hs h => ⟨fun hc hr => ?_, fun p hc hq hp hr => ?_,
      fun hc hf => ?_⟩⟩
    · refine congrArg _ (manage_ok hslot ((if_neg (not_not_intro hs)).trans ?_))
      rw [show (reserveSlot s).positions[k].entry = none from h]
    · refine congrArg _ (manage_ok hslot ((if_neg (not_not_intro hs)).trans ?_))
      rw [show (reserveSlot s).positions[k].entry = some e from h]
      exact (if_pos hc).trans (cancelled_reserve hs h hr)
    · refine congrArg _ (manage_ok hslot ((if_neg (not_not_intro hs)).trans ?_))
      rw [show (reserveSlot s).positions[k].entry = some e from h]
      refine ((if_neg (by rw [hc]; decide)).trans (if_pos hq)).trans ?_
      rw [withdrawQueued_eq (reserveSlot s) hp]
      exact cancelled_reserve (s := withdrawn p e.record s) hs h hr
    · refine congrArg _ (manage_refuse hslot ((if_neg (not_not_intro hs)).trans ?_))
      rw [show (reserveSlot s).positions[k].entry = some e from h]
      have hq : (reserveSlot s).pool[e.record].state ≠ .queued := by
        show s.pool[e.record].state ≠ _
        rcases hf with hf | hf <;> rw [hf] <;> decide
      exact (if_neg (by rw [hc]; decide)).trans (if_neg hq)

/-- Settles O47: RESET PORT outside READY starts the pulse without a departure, or is refused. -/
theorem resetPortStartsThePulse : Obligations.ResetPortStartsThePulse := by
  intro p tag s hslot
  have taken (t : State) : takeResetPort [portCode p] t =
      if t.ports[p].state = .off ∨ t.ports[p].state = .fault then (t, .refuse .busy) else (resetThePort p t, .ok []) := by
    simp only [takeResetPort, parseOne, portOf_portCode]
  refine ⟨fun h => congrArg _ (manage_refuse hslot ((taken _).trans (if_pos h))), fun h => ?_⟩
  have hn : ¬ (s.ports[p].state = .off ∨ s.ports[p].state = .fault) := by rcases h with h | h | h <;> rw [h] <;> decide
  have hr : portReady p (reserveSlot s) = false := by
    show decide (s.ports[p].state = .ready) = false
    rcases h with h | h | h <;> rw [h] <;> decide
  refine congrArg _ (manage_ok hslot ((taken _).trans ((if_neg hn).trans ?_)))
  simp only [resetThePort, hr]
  rfl

/-- Settles O49: by the range of the port and of the pass set. -/
theorem setPassReplacesTheSet : Obligations.SetPassReplacesTheSet := by
  refine fun b hi lo tag s hslot => ⟨fun h => congrArg _ (manage_refuse hslot ?_), fun p hb h => congrArg _ (manage_ok hslot ?_)⟩
  · have hd : decodePass (b, halfOf hi lo) = none := by
      by_cases hp : 11 < b.toNat
      · simp only [decodePass, portOf_none hp]
      · have h' : ¬ (halfOf hi lo).toNat < 512 := Nat.not_lt.mpr (h.resolve_left hp)
        simp only [decodePass, h', ↓reduceIte]
        split <;> rfl
    simp only [takeSetPass, parsePass, hd]
  · have h' : (halfOf hi lo).toNat < 512 := h
    subst hb
    simp only [takeSetPass, parsePass, decodePass, portOf_portCode, h', ↓reduceIte]
    rfl

/-- Settles O51: by the state of the position, the lamp following Table 7.3. -/
theorem positionsOpenAndClose : Obligations.PositionsOpenAndClose := by
  intro k tag s hslot
  have opened : exec (.openPosition tag [posAddr k]) s = .next (manage tag (openThePosition k) s) :=
    congrArg (fun take => Host.Outcome.next (manage tag take s)) (funext fun b => withPosition_posAddr k _ b)
  have closed : exec (.closePosition tag [posAddr k]) s = .next (manage tag (closeThePosition k) s) :=
    congrArg (fun take => Host.Outcome.next (manage tag take s)) (funext fun b => withPosition_posAddr k _ b)
  have enters (st : PositionState) : enterPosition k st (reserveSlot s) = reserveSlot (withPos k
      (lit (lampFor st (decide (Notice.call k ∈ s.notices)) (isCollecting s.positions[k].entry)) { s.positions[k] with state := st }) s) :=
    congrArg reserveSlot (refreshLamp_withPos k { s.positions[k] with state := st } s)
  have here (st : PositionState) (h : s.positions[k].state = st) : (reserveSlot s).positions[k].state = st := h
  rw [opened, closed]
  refine ⟨fun h hb => ?_, fun h hb => ?_, fun h => ?_, fun h => ?_, fun h => ?_, fun h => ?_, fun h => ?_⟩
  · refine congrArg _ (manage_ok hslot ?_)
    have hn : ¬ ((reserveSlot s).positions[k].reader = none ∨ (reserveSlot s).positions[k].keypad = none) :=
      not_or.mpr hb
    simp only [openThePosition, here _ h, if_neg hn, enters]
    rfl
  · refine congrArg _ (manage_refuse hslot ?_)
    have hn : (reserveSlot s).positions[k].reader = none ∨ (reserveSlot s).positions[k].keypad = none :=
      or_iff_not_and_not.mpr hb
    simp only [openThePosition, here _ h, if_pos hn]
  · exact congrArg _ (manage_ok hslot (by simp only [openThePosition, here _ h]))
  · exact congrArg _ (manage_refuse hslot (by simp only [openThePosition, here _ h]))
  · refine congrArg _ (manage_ok hslot ?_)
    simp only [closeThePosition, here _ h, enters, lampFor, decide_eq_true_eq]
  · exact congrArg _ (manage_ok hslot (by simp only [closeThePosition, here _ h]))
  · exact congrArg _ (manage_refuse hslot (by simp only [closeThePosition, here _ h]))

/-- Settles O52: the number given is the first free one of `newSession_first`, at most three being held below the limit. -/
theorem sessionsGetFreshNumbers : Obligations.SessionsGetFreshNumbers := by
  intro k tag s hslot hl
  have run : exec (.openSession tag [posAddr k]) s = .next (manage tag (openTheSession k) s) :=
    congrArg (fun take => Host.Outcome.next (manage tag take s)) (funext fun b => withPosition_posAddr k _ b)
  rw [run]
  refine ⟨fun h => congrArg _ (manage_refuse hslot (if_pos h)), fun h hc => congrArg _ (manage_refuse hslot ?_), fun h he hc => ?_⟩
  · exact (if_neg (not_not_intro h)).trans (if_pos hc)
  · have h4 := hl.limit.2
    obtain ⟨m, hm, hn, hheld, hfree⟩ := newSession_first hl.next (by omega)
    have hgive : openTheSession k (reserveSlot s) = (reserveSlot (startSession k s), .ok [newSession s]) :=
      (if_neg (not_not_intro h)).trans (if_neg (show ¬ sessionCount s = s.sessionLimit.toNat by omega))
    refine ⟨m, by omega, fun hh => ?_, fun i hi => (sessionHeld_iff _ _).mp (hheld i hi), ?_⟩
    · exact Bool.false_ne_true (hfree.symm.trans ((sessionHeld_iff _ _).mpr hh))
    · rw [manage_ok hslot hgive, startSession_eq he, hn]
      rfl

/-- Settles O53: by the state of the position, of its entry and of the delivery, each ending in a state that the reply's slot does not
see. -/
theorem sessionsClose : Obligations.SessionsClose := by
  intro k tag s hslot
  have run : exec (.closeSession tag [posAddr k]) s = .next (manage tag (closeTheSession k) s) :=
    congrArg (fun take => Host.Outcome.next (manage tag take s)) (funext fun b => withPosition_posAddr k _ b)
  rw [run]
  refine ⟨fun h => congrArg _ (manage_refuse hslot (if_pos h)), fun h he => ?_, fun e h he hc hr => ?_, fun e p h he hc hp hr => ?_⟩
  · exact congrArg _ (manage_ok hslot (closeTheSession_session h (closeEntry_none he)))
  · refine congrArg _ (manage_ok hslot (closeTheSession_session h ?_))
    rw [closeEntry_collecting (s := reserveSlot s) h he hc, entryEnded_reserve hr]
  · have ends {x : State} (hpos : x.positions = s.positions) (hx : 1 ≤ x.reservations)
        (ha : abandonDelivery e.record (reserveSlot s) = reserveSlot x) :
        closeEntry k (reserveSlot s) = reserveSlot (entryEnded k e .abandoned .sessionClosed 0 [] x) := by
      rw [closeEntry_delivering (s := reserveSlot s) (b := reserveSlot x) (by rw [← h, ← hpos]; rfl) he (by rw [← he, ← hpos]; rfl) hc ha,
        entryEnded_reserve hx]
    refine ⟨fun hq => ?_, fun hf hw => ?_, fun hf hw => ?_⟩
    · exact congrArg _ (manage_ok hslot (closeTheSession_session h
        (ends (x := withdrawn p e.record s) rfl hr (abandonDelivery_queued (s := reserveSlot s) hq hp))))
    · obtain ⟨bytes, ht⟩ := hw
      exact congrArg _ (manage_ok hslot (closeTheSession_session h
        (ends rfl hr ((abandonDelivery_flying (s := reserveSlot s) hf).trans (orphan_waits (s := reserveSlot s) hp ht)))))
    · exact congrArg _ (manage_ok hslot (closeTheSession_session h
        (ends rfl hr ((abandonDelivery_flying (s := reserveSlot s) hf).trans (orphan_started (s := reserveSlot s) hp hw)))))

end Sys2Proof.Machine
end

section
/-! SUPPORT. The parameters of SET PORT and SET LINE as they are laid out, and the settings written. -/

namespace Sys2Proof.Machine

section
variable {s : State}

/-! ### Selected fields -/

/-- A field that is laid out where it is selected is taken back (R184). -/
theorem takeField_field {α : Type} (o : Option α) (code : α → Byte) (rest : List Byte) :
    takeField o.isSome (field (fun x => [code x]) o ++ rest) = some (o.map code, rest) := by cases o <;> rfl

theorem decodeField_map {α : Type} {f : Byte → Option α} {code : α → Byte} {o : Option α} (h : ∀ x, o = some x → f (code x) = some x) :
    decodeField f (o.map code) = some o := by
  cases o with
  | none => rfl
  | some x => simp only [Option.map_some, decodeField, h x rfl]

theorem portSelection_bits : ∀ a b c d e f g h : Bool,
    let sel := byteOf (selected a 1 + selected b 2 + selected c 4 + selected d 8 + selected e 16 + selected f 32 + selected g 64 +
      selected h 128)
    sel.getLsbD 0 = a ∧ sel.getLsbD 1 = b ∧ sel.getLsbD 2 = c ∧ sel.getLsbD 3 = d ∧ sel.getLsbD 4 = e ∧ sel.getLsbD 5 = f ∧
      sel.getLsbD 6 = g ∧ sel.getLsbD 7 = h := by decide +kernel

theorem lineSelection_bits : ∀ a b c d : Bool,
    let sel := byteOf (selected a 1 + selected b 2 + selected c 4 + selected d 8)
    sel.getLsbD 0 = a ∧ sel.getLsbD 1 = b ∧ sel.getLsbD 2 = c ∧ sel.getLsbD 3 = d := by decide +kernel

theorem sectionSelection_bits : ∀ a b c d : Bool,
    let sel := byteOf (selected a 1 + selected b 2 + selected c 16 + selected d 32)
    sel.getLsbD 0 = a ∧ sel.getLsbD 1 = b ∧ sel.getLsbD 4 = c ∧ sel.getLsbD 5 = d := by decide +kernel

theorem rateOf_rateCode (x : Rate) : rateOf (rateCode x) = some x := by cases x <;> rfl
theorem charLenOf_charLenCode (x : CharLen) : charLenOf (charLenCode x) = some x := by cases x <;> rfl
theorem duplexOf_duplexCode (x : Duplex) : duplexOf (duplexCode x) = some x := by cases x <;> rfl
theorem priorityOf_priorityCode (x : Priority) : priorityOf (priorityCode x) = some x := by cases x <;> rfl
theorem holdOf_holdCode (x : HoldLimit) : holdOf (holdCode x) = some x := by cases x <;> rfl

theorem halfOf_halfBytes (h : Half) : halfOf (highByte h) (lowByte h) = h := by
  unfold halfOf highByte lowByte
  apply BitVec.eq_of_getLsbD_eq
  intro i hi
  rw [BitVec.getLsbD_append, BitVec.getLsbD_extractLsb', BitVec.getLsbD_extractLsb']
  by_cases h8 : i < 8
  · simp [h8]
  · have h9 : 8 + (i - 8) = i := by omega
    simp [h8, h9]
    omega

/-! ### SET PORT -/

/-- The parameters of a SET PORT, each setting by its code. -/
def portParams (w : PortWrite) : PortParams :=
  ⟨portCode w.port, w.rate.map rateCode, w.charLen.map charLenCode, w.duplex.map duplexCode, w.allowance.map fun x => x,
    w.replyLimit.map fun x => x, w.retryLimit.map fun x => x, w.group.map priorityCode, w.power.map boolCode⟩

theorem parsePort_portLayout (w : PortWrite) : parsePort (portLayout w) = some (portParams w) := by
  obtain ⟨h0, h1, h2, h3, h4, h5, h6, h7⟩ := portSelection_bits w.rate.isSome w.charLen.isSome w.duplex.isSome w.allowance.isSome
    w.replyLimit.isSome w.retryLimit.isSome w.group.isSome w.power.isSome
  simp only [portLayout, List.append_assoc]
  rw [← List.append_nil (field (fun x => [boolCode x]) w.power)]
  simp only [parsePort, h0, h1, h2, h3, h4, h5, h6, h7, takeField_field, Option.bind_eq_bind, Option.bind_some]
  rfl

/-- Some setting is selected. -/
def Selects (w : PortWrite) : Prop :=
  w.rate ≠ none ∨ w.charLen ≠ none ∨ w.duplex ≠ none ∨ w.allowance ≠ none ∨ w.replyLimit ≠ none ∨ w.retryLimit ≠ none ∨
    w.group ≠ none ∨ w.power ≠ none

theorem decodePort_portParams {w : PortWrite} (hs : Selects w) (hf : SettingsFit w) : decodePort (portParams w) = some w := by
  obtain ⟨ha, hl, hr⟩ := hf
  have hn : portParamsEmpty (portParams w) = false := by
    rw [Bool.eq_false_iff]
    intro h
    simp only [portParamsEmpty, portParams, Option.isNone_map, Bool.and_eq_true, Option.isNone_iff_eq_none] at h
    unfold Selects at hs
    tauto
  have h1 : decodeField rateOf (portParams w).rate = some w.rate := decodeField_map fun x _ => rateOf_rateCode x
  have h2 : decodeField charLenOf (portParams w).charLen = some w.charLen := decodeField_map fun x _ => charLenOf_charLenCode x
  have h3 : decodeField duplexOf (portParams w).duplex = some w.duplex := decodeField_map fun x _ => duplexOf_duplexCode x
  have h4 : decodeField decodeAllowance (portParams w).allowance = some w.allowance := decodeField_map fun x hx => if_pos (ha x hx)
  have h5 : decodeField decodeReplyLimit (portParams w).replyLimit = some w.replyLimit := decodeField_map fun x hx => if_pos (hl x hx)
  have h6 : decodeField decodeRetryLimit (portParams w).retryLimit = some w.retryLimit := decodeField_map fun x hx => if_pos (hr x hx)
  have h7 : decodeField priorityOf (portParams w).group = some w.group := decodeField_map fun x _ => priorityOf_priorityCode x
  have h8 : decodeField boolOf (portParams w).power = some w.power := decodeField_map fun x _ => boolOf_boolCode x
  have h0 : portOf (portParams w).port = some w.port := portOf_portCode _
  simp only [decodePort, hn, Bool.false_eq_true, ↓reduceIte, h0, h1, h2, h3, h4, h5, h6, h7, h8, Option.bind_eq_bind, Option.bind_some]

theorem selects_of_portLayout {w : PortWrite} (h : portLayout w ≠ [portCode w.port, 0]) : Selects w := by
  by_contra hs
  simp only [Selects, ne_eq, not_or, not_not] at hs
  obtain ⟨h1, h2, h3, h4, h5, h6, h7, h8⟩ := hs
  exact h (by simp only [portLayout, h1, h2, h3, h4, h5, h6, h7, h8]; rfl)

/-- SET PORT with settings in range (R45). -/
theorem takeSetPort_portLayout {w : PortWrite} (hs : Selects w) (hf : SettingsFit w) (s : State) :
    takeSetPort (portLayout w) s = if portWriteBusy w s then (s, .refuse .busy)
      else (applyPower w (modPort w.port (storeSettings w) s), .ok []) := by
  simp only [takeSetPort, parsePort_portLayout, decodePort_portParams hs hf]

theorem portWriteBusy_iff (w : PortWrite) (s : State) : portWriteBusy w s = true ↔ SettingsBusy w s := by
  have hf : inFlight w.port s ≠ none ↔ ∃ i : RecId, s.pool[i].port = some w.port ∧ isInFlight s.pool[i] = true := by
    rw [Ne, inFlight_eq_none_iff]
    simp only [not_forall, exists_prop, Bool.not_eq_false]
  simp only [portWriteBusy, SettingsBusy, selectsLineSetting, Bool.and_eq_true, Bool.or_eq_true, Bool.not_eq_true',
    List.isEmpty_eq_false_iff, decide_eq_true_eq, Option.isSome_iff_ne_none, hf, or_assoc]

/-- The settings stored, a new rate or C dropping a frame in assembly (R46). -/
theorem storeSettings_cases (w : PortWrite) (q : Port) : storeSettings w q =
    if (settingsAfter w q.config).rate = q.config.rate ∧ (settingsAfter w q.config).charLen = q.config.charLen then
      { q with config := settingsAfter w q.config }
    else { q with config := settingsAfter w q.config, gap := none, asm := emptied q.asm } := by
  have hw : writeConfig w q.config = settingsAfter w q.config := rfl
  by_cases h : (settingsAfter w q.config).rate = q.config.rate ∧ (settingsAfter w q.config).charLen = q.config.charLen
  · have hc : changesTiming w q.config = false := by
      rw [changesTiming, hw, decide_eq_false (not_not_intro h.1), decide_eq_false (not_not_intro h.2)]; rfl
    simp only [storeSettings, hc, hw, if_pos h, Bool.false_eq_true, ↓reduceIte]
  · have hc : changesTiming w q.config = true := by
      rw [changesTiming, hw, Bool.or_eq_true, decide_eq_true_eq, decide_eq_true_eq]
      exact not_and_or.mp h
    simp only [storeSettings, hc, hw, if_neg h, ↓reduceIte]

theorem storeSettings_present (w : PortWrite) (q : Port) : (storeSettings w q).present = q.present := by
  unfold storeSettings; split <;> rfl

theorem storeSettings_failures (w : PortWrite) (q : Port) : (storeSettings w q).failures = q.failures := by
  unfold storeSettings; split <;> rfl

/-- Power OFF for a port outside READY that is not OFF yet (R31). -/
theorem powerOff_not_ready {p : PortId} (ho : s.ports[p].state ≠ .off) (hr : s.ports[p].state ≠ .ready) :
    powerOff p s = modPort p switchOff s := by
  have hn : portReady p s = false := decide_eq_false hr
  simp only [powerOff, if_neg ho, hn]
  rfl

theorem applyPower_on {w : PortWrite} {q : Port} (hp : w.power = some true) :
    applyPower w (withPort w.port q s) = withPort w.port (switchOn q) s := by
  simp only [applyPower, hp]
  rw [modPort_eq_withPort, ports_withPort, withPort_withPort]

theorem switchOn_other {q : Port} (ho : q.state ≠ .off) (hf : q.state ≠ .fault) : switchOn q = q := (if_neg ho).trans (if_neg hf)

theorem switchOn_off {q : Port} (h : q.state = .off) : switchOn q =
    if q.present then { q with state := .settling, settle := some 100, identity := none, supply := true }
    else { q with state := .empty, identity := none, supply := true } := if_pos h

theorem switchOn_fault {q : Port} (h : q.state = .fault) : switchOn q =
    if q.present then { q with
      state := .settling, settle := some 100, identity := none, supply := true, cause := .none, failures := 0 }
    else { q with state := .empty, identity := none, supply := true, cause := .none, failures := 0 } :=
  (if_neg (by rw [h]; decide)).trans (if_pos h)

/-! ### SET LINE -/

theorem parseLine_lineLayout (w : LineWrite) : parseLine (lineLayout w) =
    some ⟨w.hold.map holdCode, w.silence.map fun x => x, w.k.map fun x => x, w.enable.map fun x => x.setWidth 16⟩ := by
  obtain ⟨h0, h1, h2, h3⟩ := lineSelection_bits w.hold.isSome w.silence.isSome w.k.isSome w.enable.isSome
  simp only [lineLayout, List.append_assoc, parseLine, h0, h1, h2, h3, takeField_field, Option.bind_eq_bind, Option.bind_some]
  cases w.enable with
  | none => rfl
  | some x => simp only [Option.isSome_some, field, halfBytes, halfOf_halfBytes, Option.map_some]

theorem decodeEnable_map (o : Option (BitVec 11)) : decodeEnable (o.map fun x => x.setWidth 16) = some o := by
  cases o with
  | none => rfl
  | some x =>
    have hx : (x.setWidth 16).toNat < 2048 := by
      rw [BitVec.toNat_setWidth]
      have := x.isLt
      omega
    have he : (x.setWidth 16).setWidth 11 = x := by
      apply BitVec.eq_of_toNat_eq
      simp only [BitVec.toNat_setWidth]
      have := x.isLt
      omega
    simp only [Option.map_some, decodeEnable, if_pos hx, he]

theorem takeSetLine_lineLayout {w : LineWrite} (hs : ∀ n : Byte, w.silence = some n → n.toNat ≤ 60)
    (hk : ∀ n : Byte, w.k = some n → n.toNat ≤ 15) (s : State) :
    takeSetLine (lineLayout w) s = (applyLine w s, .ok (lineBytes s)) := by
  have h1 : decodeField holdOf (w.hold.map holdCode) = some w.hold := decodeField_map fun x _ => holdOf_holdCode x
  have h2 : decodeField decodeSilence (w.silence.map fun x => x) = some w.silence := decodeField_map fun x hx => if_pos (hs x hx)
  have h3 : decodeField decodeStarvation (w.k.map fun x => x) = some w.k := decodeField_map fun x hx => if_pos (hk x hx)
  simp only [takeSetLine, parseLine_lineLayout, decodeLine, h1, h2, h3, decodeEnable_map, Option.bind_eq_bind, Option.bind_some]

end

/-- Settles O46: the settings are stored by `storeSettings_cases`, and the power setting then acts by the state of the port. -/
theorem setPortWritesSettings : Obligations.SetPortWritesSettings := by
  intro w tag s hslot hne hfit run q busy c stored started
  have hsel := selects_of_portLayout hne
  have hst : storeSettings w q = stored := storeSettings_cases w q
  have taken (hb : ¬ busy) {x : Port} (hx : applyPower w (withPort w.port stored (reserveSlot s)) = withPort w.port x (reserveSlot s)) :
      run = .next (answered tag .ok [] (withPort w.port x s)) := by
    refine congrArg _ (manage_ok hslot ?_)
    have hb' : ¬ portWriteBusy w (reserveSlot s) = true := fun h => hb ((portWriteBusy_iff w _).mp h)
    rw [takeSetPort_portLayout hsel hfit, if_neg hb', modPort_eq_withPort]
    exact congrArg (fun t => (t, Answer.ok [])) ((congrArg (fun y => applyPower w (withPort w.port y (reserveSlot s))) hst).trans hx)
  have hstate : stored.state = q.state := by rw [← hst]; exact storeSettings_state w q
  have hpresent : stored.present = q.present := by rw [← hst]; exact storeSettings_present w q
  have hfail : stored.failures = q.failures := by rw [← hst]; exact storeSettings_failures w q
  refine ⟨fun hb => congrArg _ (manage_refuse hslot ?_), fun hb => ⟨fun hp => taken hb ?_, fun hp hq => taken hb ?_,
    fun hp hq => taken hb ?_, fun hp ho hr => ⟨if q.state = .fault then 0 else q.failures, taken hb ?_, fun h => if_neg h⟩⟩⟩
  · rw [takeSetPort_portLayout hsel hfit, if_pos ((portWriteBusy_iff w (reserveSlot s)).mpr hb)]
  · rcases hp with hp | ⟨hp, h1, h2⟩ | ⟨hp, ho⟩
    · simp only [applyPower, hp]
    · rw [applyPower_on hp, switchOn_other (by rw [hstate]; exact h1) (by rw [hstate]; exact h2)]
    · simp only [applyPower, hp, powerOff, ports_withPort, if_pos (hstate.trans ho)]
  · rw [applyPower_on hp, switchOn_off (hstate.trans hq)]
    simp only [started, ← hpresent]
  · rw [applyPower_on hp, switchOn_fault (hstate.trans hq)]
    simp only [started, ← hpresent]
    split <;> rfl
  · simp only [applyPower, hp]
    rw [powerOff_not_ready (by rw [ports_withPort, hstate]; exact ho) (by rw [ports_withPort, hstate]; exact hr), modPort_eq_withPort,
      ports_withPort, withPort_withPort, switchOff, hstate, hfail]
    rfl

/-- Settles O56: by the layout of the parameters, WATTN following the enable set. -/
theorem setLineWritesSettings : Obligations.SetLineWritesSettings := by
  intro w tag a s hslot hs hk b ha
  have hr : exec (.setLine tag (lineLayout w)) s = .next (answered tag .ok (lineBytes s) { b with wattn := attention b }) :=
    congrArg _ (manage_ok hslot (takeSetLine_lineLayout hs hk (reserveSlot s)))
  rw [hr, attention_eq b ha]
  rfl

end Sys2Proof.Machine
end

section
/-! SUPPORT. SET GROUP and READ GROUP, TAKE NOTICE and READ POSITION. -/

namespace Sys2Proof.Machine

section
variable {s : State}

/-! ### SET GROUP -/

theorem groupOf_groupAddr (g : GroupId) : groupOf (groupAddr g) = some g := by
  have hb : (groupAddr g).toNat = g.val + 25 := byteOf_toNat (by omega)
  have h : 25 ≤ (groupAddr g).toNat ∧ (groupAddr g).toNat ≤ 31 := by omega
  rw [groupOf, dif_pos h]
  exact congrArg some (Fin.ext (by simp only [hb, Nat.add_sub_cancel]))

theorem parseMembers_layout (o : Option (List UnitId)) (h : ∀ us, o = some us → us.length ≤ 255) :
    parseMembers o.isSome (field (fun us => byteOf us.length :: us.map unitAddr) o) = some (o.map (List.map unitAddr)) := by
  cases o with
  | none => rfl
  | some us => simp only [parseMembers, field, Option.isSome_some, List.length_map, byteOf_toNat (h us rfl), and_self, ↓reduceIte,
      Option.map_some]

theorem parseGroup_groupLayout (g : GroupId) (members : Option (List UnitId)) (count : Option Byte) (fm fc : Bool)
    (h : ∀ us, members = some us → us.length ≤ 255) : parseGroup (groupLayout g members count fm fc) =
      some ⟨groupAddr g, count.map fun x => x, members.map (List.map unitAddr), fm, fc⟩ := by
  obtain ⟨h0, h1, h4, h5⟩ := sectionSelection_bits members.isSome count.isSome fm fc
  simp only [groupLayout, parseGroup, List.cons_append, h0, h1, h4, h5, takeField_field, parseMembers_layout members h]

theorem mapM_unitOf (us : List UnitId) : (us.map unitAddr).mapM unitOf = some us := by
  induction us with
  | nil => rfl
  | cons u us ih => simp only [List.map_cons, List.mapM_cons, unitOf_unitAddr, ih]; rfl

theorem decodeUnits_map (us : List UnitId) : decodeUnits (us.map unitAddr) = if us.Nodup then some us else none := by
  simp only [decodeUnits, mapM_unitOf]

/-- A section that is forced is selected, and some section is (R89). -/
def SectionsSelected (members : Option (List UnitId)) (count : Option Byte) (fm fc : Bool) : Prop :=
  (members ≠ none ∨ count ≠ none) ∧ (fm = true → members ≠ none) ∧ (fc = true → count ≠ none)

theorem decodeGroup_layout {g : GroupId} {members : Option (List UnitId)} {count : Option Byte} {fm fc : Bool}
    (h : SectionsSelected members count fm fc) :
    decodeGroup ⟨groupAddr g, count.map fun x => x, members.map (List.map unitAddr), fm, fc⟩ =
      match decodeField decodeCount (count.map fun x => x), decodeMembers (members.map (List.map unitAddr)) with
      | some c, some ms => some ⟨g, c, ms, fm, fc⟩
      | _, _ => none := by
  obtain ⟨hs, hm, hc⟩ := h
  have hn : (((members.map (List.map unitAddr)).isNone && (count.map fun x => x).isNone) ||
      (fm && (members.map (List.map unitAddr)).isNone) || (fc && (count.map fun x => x).isNone)) = false := by
    rw [Bool.eq_false_iff]
    simp only [Option.isNone_map, ne_eq, Bool.or_eq_true, Bool.and_eq_true, Option.isNone_iff_eq_none]
    tauto
  simp only [decodeGroup, hn, Bool.false_eq_true, ↓reduceIte, groupOf_groupAddr]
  cases decodeField decodeCount (count.map fun x => x) with
  | none => rfl
  | some c => cases decodeMembers (members.map (List.map unitAddr)) <;> rfl

theorem takeSetGroup_layout {g : GroupId} {members : Option (List UnitId)} {count : Option Byte} {fm fc : Bool}
    (h : SectionsSelected members count fm fc) (hl : ∀ us, members = some us → us.length ≤ 255) (s : State) :
    ((∃ us, members = some us ∧ ¬ us.Nodup) ∨ (∃ n : Byte, count = some n ∧ 24 < n.toNat) →
      takeSetGroup (groupLayout g members count fm fc) s = (s, .refuse .badParameter)) ∧
    (¬ ((∃ us, members = some us ∧ ¬ us.Nodup) ∨ ∃ n : Byte, count = some n ∧ 24 < n.toNat) →
      takeSetGroup (groupLayout g members count fm fc) s =
        (modGroup g (fun e => writeCount ⟨g, count, members, fm, fc⟩ (writeMembers ⟨g, count, members, fm, fc⟩ e)) s, .ok [])) := by
  simp only [takeSetGroup, parseGroup_groupLayout g members count fm fc hl, decodeGroup_layout h]
  refine ⟨fun hb => ?_, fun hb => ?_⟩
  · rcases hb with ⟨us, rfl, hus⟩ | ⟨n, rfl, hn⟩
    · have hm : decodeMembers (Option.map (List.map unitAddr) (some us)) = none := by
        simp only [Option.map_some, decodeMembers, decodeUnits_map, if_neg hus, Option.map_none]
      rw [hm]
      cases decodeField decodeCount (count.map fun x => x) <;> rfl
    · have hc : decodeField decodeCount ((some n).map fun x => x) = none := by
        simp only [Option.map_some, decodeField, decodeCount, if_neg (Nat.not_le.mpr hn), Option.map_none]
      rw [hc]
  · have hc : decodeField decodeCount (count.map fun x => x) = some count :=
      decodeField_map fun n hn => if_pos (not_lt.mp fun h => hb (.inr ⟨n, hn, h⟩))
    have hm : decodeMembers (members.map (List.map unitAddr)) = some members := by
      cases members with
      | none => rfl
      | some us =>
        have hus : us.Nodup := by by_contra h; exact hb (.inl ⟨us, rfl, h⟩)
        simp only [Option.map_some, decodeMembers, decodeUnits_map, if_pos hus]
    rw [hc, hm]

/-! ### TAKE NOTICE -/

/-- The pair of the highest priority, then of the lowest subject, is the first of the set (R175, R177). -/
theorem first_notice {n m : Notice} {rest : List Notice} (h : s.notices = m :: rest) (hn : n ∈ s.notices) (hl : NoticeLaw s)
    (hmin : ∀ m ∈ s.notices, kindPriority (noticeKind n) < kindPriority (noticeKind m) ∨
      (kindPriority (noticeKind n) = kindPriority (noticeKind m) ∧ noticeSubject n ≤ noticeSubject m)) : n = m := by
  have ho := hl.ordered
  rw [h, List.pairwise_cons] at ho
  rcases List.mem_cons.mp (h ▸ hn) with e | hr
  · exact e
  · have hlt := noticeRank_lt.mp (ho.1 n hr)
    have hle := hmin m (by rw [h]; exact List.mem_cons_self)
    omega

theorem lit_of_lamp {m : LampMode} {q : Position} (h : q.lamp = m) : lit m q = q := if_pos h

/-- Where only the notice set and WATTN have changed, a lamp refreshed by Table 7.3 moves at most in CLOSED (R130). -/
theorem refreshLamp_after_call {k : PosId} {t : State} (hl : LampLaw s) (hp : t.positions = s.positions)
    (hn : Notice.call k ∉ t.notices) :
    refreshLamp k t = withPos k (if s.positions[k].state = .closed then lit .off s.positions[k] else s.positions[k]) t := by
  have hlamp := hl.mode k
  rw [refreshLamp_eq, hp]
  congr 1
  rw [lampMode_eq_tableLamp]
  unfold tableLamp at hlamp ⊢
  rw [hp]
  split
  · rename_i h; rw [if_pos h, if_neg hn]
  · rename_i h
    simp only [h] at hlamp
    rw [if_neg (by rw [h]; decide), lit_of_lamp hlamp]
  · rename_i h
    simp only [h] at hlamp
    rw [if_neg (by rw [h]; decide), lit_of_lamp hlamp]

theorem attends_refreshAttention (s : State) : Attends (refreshAttention s) (refreshAttention s).wattn := attends_attention s

/-- What the removal of a pair changes: WATTN, and the lamp of a CALL's position (R164, R176). -/
theorem noticeChanged_positions {n : Notice} {t : State} (hl : LampLaw s) (hp : t.positions = s.positions) (hn : n ∉ t.notices) :
    noticeChanged n t = { t with wattn := attention t, positions := (noticeChanged n t).positions } ∧
      ∀ k : PosId, (noticeChanged n t).positions[k] =
        if n = .call k ∧ s.positions[k].state = .closed then lit .off s.positions[k] else s.positions[k] := by
  cases n with
  | call j =>
    have he : noticeChanged (.call j) t = _ := refreshLamp_after_call (t := refreshAttention t) hl hp hn
    rw [he]
    refine ⟨rfl, fun k => ?_⟩
    by_cases hk : j = k
    · subst hk
      rw [positions_withPos]
      simp only [true_and]
    · have hne : ¬ (Notice.call j = .call k ∧ s.positions[k].state = .closed) := fun h => hk (Notice.call.inj h.1)
      rw [if_neg hne, ← hp]
      exact Vector.getElem_set_ne j.isLt k.isLt (fun e => hk (Fin.ext e))
  | _ => exact ⟨rfl, fun k => by rw [if_neg (by rintro ⟨h, -⟩; cases h), ← hp]; rfl⟩

/-! ### READ POSITION and READ GROUP -/

theorem entryBytes_eq (e : Option Entry) (draws : Nat) : entryBytes e draws =
    [match e with | some e => entryStateCode e.state | none => 0, match e with | some e => byteOf e.count | none => Config.freeByte draws] := by
  cases e <;> rfl

theorem insertByRank_perm (rank : Nat → Nat) (u : UnitId) (l : List UnitId) : (insertByRank rank u l).Perm (u :: l) := by
  induction l with
  | nil => exact List.Perm.refl _
  | cons v vs ih =>
    unfold insertByRank
    split
    · exact List.Perm.refl _
    · exact (ih.cons v).trans (List.Perm.swap u v vs)

theorem listedMembers_perm (members : List UnitId) : (listedMembers members).Perm members := by
  have h (rank : Nat → Nat) (l : List UnitId) : (l.foldr (insertByRank rank) []).Perm l := by
    induction l with
    | nil => exact List.Perm.refl _
    | cons u us ih => exact (insertByRank_perm rank u _).trans (ih.cons u)
  exact h _ members

theorem length_usableMembers (e : GroupEntry) (s : State) :
    (usableMembers e s).length = (List.finRange 24).countP fun u => decide (u ∈ e.members) && isUsable (usableTest u s) := by
  rw [usableMembers, List.length_filterMap_eq_countP, ascendingMembers, List.countP_filter]
  refine List.countP_congr fun u _ => ?_
  rw [Bool.and_comm]
  cases usableTest u s <;> rfl

theorem usableCount_eq (e : GroupEntry) (s : State) : usableCount e s =
    if e.valid = true ∧ e.membersCheck = .good ∧ e.countCheck = .good then
      (List.finRange 24).countP (fun u => decide (u ∈ e.members) && isUsable (usableTest u s)) else 0 := by
  simp only [usableCount, groupFaulted_eq_false, length_usableMembers]

end

/-- Settles O45: by the layout of the parameters and the sections selected. -/
theorem setGroupWritesTheEntry : Obligations.SetGroupWritesTheEntry := by
  intro g members count fm fc tag s hslot hs hm hc hl run bad
  obtain ⟨refuses, accepts⟩ := takeSetGroup_layout (g := g) ⟨hs, hm, hc⟩ hl (reserveSlot s)
  refine ⟨fun hb => congrArg _ (manage_refuse hslot (refuses hb)), fun hb => ?_⟩
  refine ⟨writeCount ⟨g, count, members, fm, fc⟩ (writeMembers ⟨g, count, members, fm, fc⟩ s.groups[g]),
    congrArg _ (manage_ok hslot (accepts hb)), ?_⟩
  clear refuses accepts
  cases members <;> cases count <;> simp [writeCount, writeMembers, writtenCheck]

/-- Settles O57: the first pair of the set is taken, and its removal reaches WATTN and the lamp of a CALL's position. -/
theorem takeNoticeTakesTheFirst : Obligations.TakeNoticeTakesTheFirst := by
  intro tag s hslot hn hl
  have taken {t : State} {result : List Byte} (h : takeTheNotice (reserveSlot s) = (reserveSlot t, .ok result)) :
      exec (.takeNotice tag []) s = .next (answered tag .ok result t) := congrArg _ (manage_ok hslot h)
  refine ⟨fun h => taken ?_, fun n hmem hmin => ?_⟩
  · have h' : (reserveSlot s).notices = [] := h
    simp only [takeTheNotice, h']
  · obtain ⟨m, rest, h⟩ := List.exists_cons_of_ne_nil (List.ne_nil_of_mem hmem)
    obtain rfl := first_notice h hmem hn hmin
    have ho := hn.ordered
    rw [h, List.pairwise_cons] at ho
    have hrest : n ∉ rest := fun hr => absurd (ho.1 n hr) (Nat.lt_irrefl _)
    obtain ⟨hframe, hpos⟩ := noticeChanged_positions (t := { s with notices := rest }) hl rfl hrest
    have hnotices : (noticeChanged n { s with notices := rest }).notices = rest := by rw [hframe]
    refine ⟨noticeChanged n { s with notices := rest }, taken ?_, ?_, fun m => ?_, ?_, hpos⟩
    · have h' : (reserveSlot s).notices = n :: rest := h
      simp only [takeTheNotice, h', h, List.length_cons, Nat.add_sub_cancel, ← noticeChanged_reserve]
      rfl
    · rw [hframe]
    · rw [hnotices, h, List.mem_cons]
      refine ⟨fun hm => ⟨.inr hm, fun e => hrest (e ▸ hm)⟩, fun ⟨hm, hne⟩ => hm.resolve_left hne⟩
    · rw [hframe]
      exact attends_attention { s with notices := rest }

/-- Settles O60: the answers are the model's results, the member order a permutation by `listedMembers_perm`. -/
theorem readsWithFreeValues : Obligations.ReadsWithFreeValues := by
  refine fun tag s hslot => ⟨fun k => ?_, fun g => ⟨listedMembers s.groups[g].members, listedMembers_perm _, ?_⟩⟩
  · have run : exec (.readPosition tag [posAddr k]) s = .next (manage tag (readThePosition k) s) :=
      congrArg (fun take => Host.Outcome.next (manage tag take s)) (funext fun b => withPosition_posAddr k _ b)
    have hread : readThePosition k (reserveSlot s) =
        (reserveSlot { s with draws := if s.positions[k].entry.isNone then s.draws + 1 else s.draws }, .ok (positionResult k s)) := rfl
    refine ⟨match s.positions[k].entry with | some e => byteOf e.count | none => Config.freeByte s.draws,
      if s.positions[k].entry.isNone then s.draws + 1 else s.draws, fun e he => ?_, ?_⟩
    · rw [he]
    · rw [run, manage_ok hslot hread]
      simp only [positionResult, entryBytes_eq]
      rfl
  · have hread : takeReadGroup [groupAddr g] (reserveSlot s) = (reserveSlot s, .ok (groupResult g s)) := by
      simp only [takeReadGroup, parseOne, groupOf_groupAddr]
      rfl
    refine congrArg _ ((manage_ok hslot hread).trans ?_)
    simp only [groupResult, usableCount_eq]
    rfl

end Sys2Proof.Machine
end

section
/-! SUPPORT. What an evaluation for use does, SET POSITION and OPEN ENTRY. -/

namespace Sys2Proof.Machine

section
variable {s : State}

/-! ### Evaluations for use (R5, R11, R12, R147) -/

/-- The position of a unit holds an entry in collection. -/
def Collects (k : PosId) (x : Entry) (s : State) : Prop := s.positions[k].entry = some x ∧ x.state = .collecting

theorem Collects.session {k : PosId} {x : Entry} (hl : PositionLaw s) (h : Collects k x s) : s.positions[k].state = .session :=
  hl.entry k (by rw [h.1]; rfl)

theorem abandonCollecting_collects {k : PosId} {x : Entry} (c : EntryCause) (hl : PositionLaw s) (h : Collects k x s) :
    abandonCollecting k c s = entryEnded k x .abandoned c 0 [] s := by
  have hc : isCollecting s.positions[k].entry = true := by rw [h.1]; exact decide_eq_true h.2
  rw [abandonCollecting, if_pos hc, endEntry_eq s k x _ _ _ _ h.1 (h.session hl)]

theorem abandonCollecting_other {k : PosId} (c : EntryCause) (h : ∀ x, ¬ Collects k x s) : abandonCollecting k c s = s := by
  refine if_neg fun hc => ?_
  cases he : s.positions[k].entry with
  | none => rw [he] at hc; cases hc
  | some x => rw [he] at hc; exact h x ⟨he, of_decide_eq_true hc⟩

theorem assigned_of_assignment {u : UnitId} {k : PosId} {role : Role} (h : assignment u s = some (k, role)) :
    Assigned s.positions[k] u := by
  unfold assignment at h
  obtain ⟨j, -, hj⟩ := List.exists_of_findSome?_eq_some h
  split_ifs at hj with hr hk
  · cases hj; exact .inl hr
  · cases hj; exact .inr hk

/-- The report of a unit that is not usable reaches an entry in collection of its position, and nothing else (R12, R147). -/
theorem reportUnusable_cases {u : UnitId} (hl : PositionLaw s) :
    ((∀ (k : PosId) (x : Entry), Assigned s.positions[k] u → ¬ Collects k x s) → reportUnusable u s = s) ∧
      ∀ (k : PosId) (x : Entry), Collects k x s →
        (s.positions[k].reader = some u → reportUnusable u s = entryEnded k x .abandoned .readerLost 0 [] s) ∧
        (s.positions[k].keypad = some u → reportUnusable u s = entryEnded k x .abandoned .keypadLost 0 [] s) := by
  refine ⟨fun h => ?_, fun k x hx => ⟨fun hr => ?_, fun hk => ?_⟩⟩
  · unfold reportUnusable
    split
    · rename_i k role ha
      exact abandonCollecting_other _ fun x => h k x (assigned_of_assignment ha)
    · rfl
  · simp only [reportUnusable, assignment_reader s hl hr]
    exact abandonCollecting_collects .readerLost hl hx
  · simp only [reportUnusable, assignment_keypad s hl hk]
    exact abandonCollecting_collects .keypadLost hl hx

theorem raiseFault_of_faulted {u : UnitId} (h : s.routes[u].valid = true)
    (hf : s.routes[u].portsCheck ≠ .good ∨ s.routes[u].classCheck ≠ .good) :
    raiseFault u (usableTest u s) s = raiseNotice (.unitFault u) s := by
  rw [usableTest_faulted h fun hg => hf.elim (fun e => e hg.1) fun e => e hg.2]
  rfl

theorem raiseFault_of_not_faulted {u : UnitId}
    (h : ¬ (s.routes[u].valid = true ∧ (s.routes[u].portsCheck ≠ .good ∨ s.routes[u].classCheck ≠ .good))) :
    raiseFault u (usableTest u s) s = s := by
  have hn : usableTest u s ≠ .faulted := by
    intro e
    unfold usableTest at e
    dsimp only at e
    split_ifs at e with hv hf
    · refine h ⟨by simpa using hv, ?_⟩
      by_contra hg
      rw [not_or, not_not, not_not] at hg
      rw [(routeFaulted_eq_false _).mpr hg] at hf
      cases hf
    · split at e
      · cases e
      · split_ifs at e
  unfold raiseFault
  split
  · rename_i hf; exact absurd hf hn
  · rfl

theorem raiseFault_positions (u : UnitId) (r : Usable) (s : State) : (raiseFault u r s).positions = s.positions := by
  unfold raiseFault
  split
  · rw [(raiseNotice_raised s (.unitFault u) fun _ => Notice.noConfusion).1]
  · rfl

theorem positionLaw_raiseFault (u : UnitId) (r : Usable) (h : PositionLaw s) : PositionLaw (raiseFault u r s) := by
  refine h.congr (raiseFault_positions u r s) ?_ ?_ <;>
  · unfold raiseFault
    split
    · rw [raiseNotice_frame]
    · rfl

theorem activePort_of_usableTest {u : UnitId} {p : PortId} (h : usableTest u s = .usable p) : activePort s.routes[u] s = some p := by
  unfold usableTest at h
  dsimp only at h
  split_ifs at h
  split at h
  · cases h
  · rename_i r hr
    split_ifs at h
    cases h
    exact hr

/-- A unit whose active port, where it has one, holds an identity is USABLE only where it is served (R11). -/
theorem evaluate_of_not_serves {u : UnitId} (hi : ∀ p, Active s.routes[u] p s → s.ports[p].identity ≠ none) (h : ∀ p, ¬ Serves u p s) :
    evaluate u s = reportUnusable u (raiseFault u (usableTest u s) s) := by
  have hn : isUsable (usableTest u s) = false := by
    cases hu : usableTest u s with
    | usable p =>
      refine absurd (serves_of_usableTest s hu (hi p ?_)) (h p)
      exact (activePort_iff s _ p).mp (activePort_of_usableTest hu)
    | _ => rfl
  rw [evaluate, evaluationEffects, hn]
  rfl

theorem active_identity (h : PortsLaw s) (e : RouteEntry) : ∀ p, Active e p s → s.ports[p].identity ≠ none := by
  intro p ha
  have hr : s.ports[p].state = .ready := ha.elim (·.2) (·.2.2)
  exact Option.isSome_iff_ne_none.mp ((h p).identified hr)

theorem evaluated_evaluate (u : UnitId) (hl : PositionLaw s) (hi : ∀ p, Active s.routes[u] p s → s.ports[p].identity ≠ none) :
    Evaluated u s (evaluate u s) := by
  refine ⟨fun ⟨p, hp⟩ => evaluate_of_serves s hp, fun hn => ⟨raiseFault u (usableTest u s) s, fun hf => ?_, raiseFault_of_not_faulted, ?_⟩⟩
  · rw [raiseFault_of_faulted hf.1 hf.2]
    exact raiseNotice_raised _ _ fun _ => Notice.noConfusion
  · rw [evaluate_of_not_serves hi hn]
    have h := reportUnusable_cases (u := u) (positionLaw_raiseFault u (usableTest u s) hl)
    simp only [Collects, raiseFault_positions] at h
    exact h

/-- A unit is USABLE exactly where it is served, in a state whose READY ports hold identities. -/
theorem isUsable_iff_serves {u : UnitId} (hi : ∀ p, Active s.routes[u] p s → s.ports[p].identity ≠ none) :
    isUsable (usableTest u s) = true ↔ ∃ p, Serves u p s := by
  refine ⟨fun h => ?_, fun ⟨p, hp⟩ => by rw [usableTest_usable s hp]; rfl⟩
  cases hu : usableTest u s with
  | usable p => exact ⟨p, serves_of_usableTest s hu (hi p ((activePort_iff s _ p).mp (activePort_of_usableTest hu)))⟩
  | _ => rw [hu] at h; cases h

/-! ### SET POSITION (R118, R119) -/

theorem optUnitOf_optUnitCode (o : Option UnitId) : optUnitOf (optUnitCode o) = some o := by
  cases o with
  | none => rfl
  | some u =>
    have hn : unitAddr u ≠ 0 := by
      have h : (unitAddr u).toNat = u.val + 1 := byteOf_toNat (by omega)
      intro e
      rw [e] at h
      exact absurd h (by simp)
    simp only [optUnitCode, optUnitOf, hn, ↓reduceIte, unitOf_unitAddr, Option.map_some]

theorem decodeUnitsOfPosition_codes (reader keypad : Option UnitId) : decodeUnitsOfPosition (optUnitCode reader) (optUnitCode keypad) =
    if reader = keypad ∧ reader.isSome then none else some (reader, keypad) := by
  simp only [decodeUnitsOfPosition, optUnitOf_optUnitCode]

theorem unitInvalid_iff (u : Option UnitId) (s : State) : unitInvalid u s = true ↔ ∃ v, u = some v ∧ s.routes[v].valid = false := by
  cases u <;> simp [unitInvalid]

theorem unitFaulted_iff (u : Option UnitId) (s : State) : unitFaulted u s = true ↔
    ∃ v, u = some v ∧ s.routes[v].valid = true ∧ (s.routes[v].portsCheck ≠ .good ∨ s.routes[v].classCheck ≠ .good) := by
  cases u with
  | none => simp [unitFaulted]
  | some v =>
    have h : routeFaulted s.routes[v] = true ↔ s.routes[v].portsCheck ≠ .good ∨ s.routes[v].classCheck ≠ .good := by
      rw [← not_iff_not, Bool.not_eq_true, routeFaulted_eq_false, not_or, not_not, not_not]
    simp only [unitFaulted, Bool.and_eq_true, h, Option.some.injEq, exists_eq_left']

theorem unitWrongClass_iff (u : Option UnitId) (c : ExpectedClass) (s : State) :
    unitWrongClass u c s = true ↔ ∃ v, u = some v ∧ s.routes[v].expected ≠ c := by
  cases u <;> simp [unitWrongClass]

theorem unitElsewhere_iff (u : Option UnitId) (k : PosId) (hl : PositionLaw s) :
    unitElsewhere u k s = true ↔ ∃ v j, u = some v ∧ j ≠ k ∧ Assigned s.positions[j] v := by
  cases u with
  | none => simp [unitElsewhere]
  | some v =>
    refine ⟨fun h => ?_, fun ⟨w, j, hw, hj, ha⟩ => ?_⟩
    · cases ha : assignment v s with
      | none => simp [unitElsewhere, ha] at h
      | some x =>
        simp only [unitElsewhere, ha, decide_eq_true_eq] at h
        exact ⟨v, x.1, rfl, h, assigned_of_assignment (role := x.2) ha⟩
    · cases hw
      by_contra hn
      exact hj (assigned_of_not_elsewhere hl (Bool.not_eq_true _ ▸ hn) ha)

theorem askRoute_sound {u : Option UnitId} (h : unitFaulted u s = false) : askRoute u s = s := by
  unfold askRoute
  split
  · rw [h]; rfl
  · rfl

theorem askRoute_reserve (u : Option UnitId) (s : State) : askRoute u (reserveSlot s) = reserveSlot (askRoute u s) := by
  cases u with
  | none => rfl
  | some v =>
    have hf : unitFaulted (some v) (reserveSlot s) = unitFaulted (some v) s := rfl
    cases h : unitFaulted (some v) s with
    | true => simp only [askRoute, hf, h, ↓reduceIte, raiseNotice_reserve]
    | false => rw [askRoute_sound h, askRoute_sound (hf.trans h)]

/-- The RT's answer about a named unit raises TABLE_FAULT exactly for a faulted one (R5, R118). -/
theorem mem_askRoute (u : Option UnitId) (n : Notice) (s : State) :
    n ∈ (askRoute u s).notices ↔ n ∈ s.notices ∨ ∃ v, n = .unitFault v ∧ u = some v ∧ unitFaulted u s = true := by
  cases u with
  | none => simp [askRoute]
  | some v =>
    by_cases h : unitFaulted (some v) s = true
    · have hr := (raiseNotice_raised s (.unitFault v) fun _ => Notice.noConfusion).2.1 n
      simp only [askRoute, h, ↓reduceIte, hr, and_true, Option.some.injEq]
      constructor
      · rintro (rfl | hn)
        · exact .inr ⟨v, rfl, rfl⟩
        · exact .inl hn
      · rintro (hn | ⟨w, rfl, rfl⟩)
        · exact .inr hn
        · exact .inl rfl
    · rw [askRoute_sound (Bool.not_eq_true _ ▸ h)]
      simp [h]

theorem unitFaulted_askRoute (u v : Option UnitId) (s : State) : unitFaulted u (askRoute v s) = unitFaulted u s := by
  rw [askRoute_frame]; cases u <;> rfl

/-- SET POSITION with units that differ (R118). -/
theorem takeSetPosition_closed {k : PosId} {reader keypad : Option UnitId} (hne : reader ≠ keypad ∨ reader = none)
    (hk : s.positions[k].state = .closed) :
    takeSetPosition [posAddr k, optUnitCode reader, optUnitCode keypad] s = checkUnits k reader keypad s := by
  have hn : ¬ (reader = keypad ∧ reader.isSome = true) := by
    rintro ⟨h1, h2⟩
    rcases hne with h | h
    · exact h h1
    · rw [h] at h2; cases h2
  simp only [takeSetPosition, parsePosition, posOf_posAddr, decodeUnitsOfPosition_codes, if_neg hn]
  exact if_neg (not_not_intro hk)

/-! ### OPEN ENTRY (R137, R138) -/

theorem entryInRange_iff (b mn mx fk ik cmd : Byte) : entryInRange ⟨b, mn, mx, fk, ik, cmd⟩ = true ↔
    1 ≤ mn.toNat ∧ mn.toNat ≤ mx.toNat ∧ mx.toNat ≤ 12 ∧ 1 ≤ fk.toNat ∧ fk.toNat ≤ 120 ∧ 1 ≤ ik.toNat ∧ ik.toNat ≤ 30 ∧ cmd ≠ 0 := by
  simp only [entryInRange, Bool.and_eq_true, decide_eq_true_eq]
  constructor
  · rintro ⟨⟨⟨⟨⟨h1, -⟩, h2, h3⟩, h4, h5⟩, h6, h7⟩, h8⟩
    exact ⟨h1, h2, h3, h4, h5, h6, h7, h8⟩
  · rintro ⟨h1, h2, h3, h4, h5, h6, h7, h8⟩
    exact ⟨⟨⟨⟨⟨h1, h2.trans h3⟩, h2, h3⟩, h4, h5⟩, h6, h7⟩, h8⟩

/-- A state but for its number of reservations. -/
def withReservations (r : Nat) (s : State) : State := { s with reservations := r }

theorem raiseNotice_withReservations (n : Notice) (r : Nat) (s : State) :
    raiseNotice n (withReservations r s) = withReservations r (raiseNotice n s) := by
  by_cases h : n ∈ s.notices
  · rw [raiseNotice_present s h, raiseNotice_present _ (show n ∈ (withReservations r s).notices from h)]
  · rw [raiseNotice, raiseNotice, if_neg h, if_neg (show n ∉ (withReservations r s).notices from h)]
    cases n <;> rfl

theorem raiseFault_withReservations (u : UnitId) (x : Usable) (r : Nat) (s : State) :
    raiseFault u x (withReservations r s) = withReservations r (raiseFault u x s) := by
  cases x with
  | faulted => exact raiseNotice_withReservations _ r s
  | _ => rfl

theorem endEntry_withReservations (k : PosId) (o : EntryOutcome) (c : EntryCause) (st : Byte) (data : List Byte) (s : State) :
    ∃ d, ∀ r, endEntry k o c st data (withReservations r s) = withReservations (r - d) (endEntry k o c st data s) := by
  cases h : s.positions[k].entry with
  | none =>
    refine ⟨0, fun r => ?_⟩
    have h' : (withReservations r s).positions[k].entry = none := h
    simp only [endEntry, h, h', Nat.sub_zero]
  | some e =>
    refine ⟨1, fun r => ?_⟩
    have h' : (withReservations r s).positions[k].entry = some e := h
    have hp : (withReservations r s).pool = s.pool := rfl
    simp only [endEntry, h, h', hp]
    split <;> rfl

theorem reportUnusable_withReservations (u : UnitId) (s : State) :
    ∃ d, ∀ r, reportUnusable u (withReservations r s) = withReservations (r - d) (reportUnusable u s) := by
  have ha (r : Nat) : assignment u (withReservations r s) = assignment u s := rfl
  unfold reportUnusable
  simp only [ha]
  split
  · rename_i k role _
    by_cases hc : isCollecting s.positions[k].entry = true
    · obtain ⟨d, hd⟩ := endEntry_withReservations k .abandoned (lostCause role) 0 [] s
      refine ⟨d, fun r => ?_⟩
      have hc' : isCollecting (withReservations r s).positions[k].entry = true := hc
      rw [abandonCollecting, abandonCollecting, if_pos hc, if_pos hc', hd]
    · refine ⟨0, fun r => ?_⟩
      have hc' : ¬ isCollecting (withReservations r s).positions[k].entry = true := hc
      rw [abandonCollecting, abandonCollecting, if_neg hc, if_neg hc', Nat.sub_zero]
  · exact ⟨0, fun r => by rw [Nat.sub_zero]⟩

/-- What an evaluation does is the same whatever slots are reserved, and it gives up the same number of them. -/
theorem evaluate_withReservations (u : UnitId) (s : State) :
    ∃ d, ∀ r, evaluate u (withReservations r s) = withReservations (r - d) (evaluate u s) := by
  have hu (r : Nat) : usableTest u (withReservations r s) = usableTest u s := rfl
  simp only [evaluate, evaluationEffects, hu]
  split
  · exact ⟨0, fun r => by rw [Nat.sub_zero]⟩
  · simp only [raiseFault_withReservations]
    exact reportUnusable_withReservations u _

/-- A reply is the same whether the slots given up before it were counted with its own reservation or without it (R158). -/
theorem replied_of_evaluations {u v : UnitId} (tag : Byte) (st : Status) (s : State) :
    replied tag (evaluate v (evaluate u (reserveSlot s)), .refuse st) = answered tag st [] (evaluate v (evaluate u s)) := by
  obtain ⟨d, hd⟩ := evaluate_withReservations u s
  obtain ⟨e, he⟩ := evaluate_withReservations v (evaluate u s)
  have hs : evaluate u s = withReservations (s.reservations - d) (evaluate u s) := hd s.reservations
  have h1 : (evaluate v (evaluate u s)).reservations = s.reservations - d - e := by
    conv_lhs => rw [hs, he]
    rfl
  have hr : (s.reservations + 1 - d - e) - 1 = s.reservations - d - e := by omega
  rw [show reserveSlot s = withReservations (s.reservations + 1) s from rfl, hd, he]
  simp only [replied, answerFrame, placeReserved, withReservations, hr, ← h1]
  rfl

theorem unitUsable_some (u : UnitId) (s : State) : unitUsable (some u) s = isUsable (usableTest u s) := rfl

/-- OPEN ENTRY at a position in SESSION without an entry, with parameters in range (R137). -/
theorem checkEntry_session {k : PosId} {r : EntryParams} {tag : Byte} {u v : UnitId} (hs : s.positions[k].state = .session)
    (he : s.positions[k].entry = none) (hr : entryInRange r = true) (hu : s.positions[k].keypad = some u)
    (hv : s.positions[k].reader = some v) :
    checkEntry k r tag s = if isUsable (usableTest u s) && isUsable (usableTest v s) then
      admitEntry k r tag (evaluate v (evaluate u s)) else (evaluate v (evaluate u s), .refuse .unitUnavailable) := by
  simp only [checkEntry, hs, he, hr, hu, hv, ne_eq, not_true_eq_false, Option.isSome_none, Bool.false_eq_true, Bool.true_eq_false, ↓reduceIte,
    unitUsable_some, evaluateUnit]

theorem takeOpenEntry_posAddr (k : PosId) (mn mx fk ik cmd tag : Byte) (s : State) :
    takeOpenEntry tag [posAddr k, mn, mx, fk, ik, cmd] s = checkEntry k ⟨posAddr k, mn, mx, fk, ik, cmd⟩ tag s := by
  simp only [takeOpenEntry, parseEntry, posOf_posAddr]

/-- The entry of an accepted OPEN ENTRY, its record and its slot (R138). -/
theorem startEntry_eq (k : PosId) (r : EntryParams) (tag : Byte) (i : RecId) (hs : s.positions[k].state = .session) :
    startEntry k r tag i s = { withPos k (lit .flash { s.positions[k] with entry := some (newEntry r tag i) }) s with
      pool := s.pool.set i { s.pool[i] with state := .reserved }, reservations := s.reservations + 1 } := by
  have h := refreshLamp_withPos k { s.positions[k] with entry := some (newEntry r tag i) }
    { s with pool := s.pool.set i { s.pool[i] with state := .reserved }, reservations := s.reservations + 1 }
  rw [show lampFor _ _ _ = LampMode.flash by
    show lampFor s.positions[k].state _ _ = _
    rw [hs]; rfl] at h
  exact h

end

/-- Settles O39: by whether the unit is served; otherwise its fault is raised first, and the report follows. -/
theorem evaluationsReportUnusableUnits : Obligations.EvaluationsReportUnusableUnits := fun u _ => evaluated_evaluate u

/-- Settles O50: the checks of R118 in their order, each as what it says of the named units. -/
theorem setPositionAssignsUnits : Obligations.SetPositionAssignsUnits := by
  intro k reader keypad tag s hslot hl run named invalid faulted wrong elsewhere
  have named_iff (P : UnitId → Prop) : (∃ u, named u ∧ P u) ↔ (∃ u, reader = some u ∧ P u) ∨ ∃ u, keypad = some u ∧ P u := by
    simp only [named, or_and_right, exists_or]
  have hinv : invalid ↔ unitInvalid reader (reserveSlot s) = true ∨ unitInvalid keypad (reserveSlot s) = true := by
    rw [unitInvalid_iff, unitInvalid_iff]; exact named_iff _
  have hflt : faulted ↔ unitFaulted reader (reserveSlot s) = true ∨ unitFaulted keypad (reserveSlot s) = true := by
    rw [unitFaulted_iff, unitFaulted_iff]; exact named_iff _
  have hwrong : wrong ↔ unitWrongClass reader .reader (reserveSlot s) = true ∨ unitWrongClass keypad .keypad (reserveSlot s) = true := by
    rw [unitWrongClass_iff, unitWrongClass_iff]; rfl
  have hels : elsewhere ↔ unitElsewhere reader k (reserveSlot s) = true ∨ unitElsewhere keypad k (reserveSlot s) = true := by
    have hl' : PositionLaw (reserveSlot s) := hl.congr rfl rfl rfl
    rw [unitElsewhere_iff reader k hl', unitElsewhere_iff keypad k hl']
    show (∃ u j, named u ∧ j ≠ k ∧ Assigned s.positions[j] u) ↔ _
    simp only [exists_and_left]
    exact named_iff _
  have hask : askRoute keypad (askRoute reader (reserveSlot s)) = reserveSlot (askRoute keypad (askRoute reader s)) := by
    rw [askRoute_reserve, askRoute_reserve]
  refine ⟨fun he hn => congrArg _ (manage_refuse hslot ?_), fun hne => ⟨fun hk => congrArg _ (manage_refuse hslot ?_),
    fun hk hf => ?_, fun hk hf => ?_⟩⟩
  · simp only [takeSetPosition, parsePosition, posOf_posAddr, decodeUnitsOfPosition_codes,
      if_pos (show reader = keypad ∧ reader.isSome = true from ⟨he, Option.isSome_iff_ne_none.mpr hn⟩)]
  · have hn : ¬ (reader = keypad ∧ reader.isSome = true) := fun ⟨h1, h2⟩ =>
      hne.elim (fun h => h h1) fun h => by rw [h] at h2; cases h2
    simp only [takeSetPosition, parsePosition, posOf_posAddr, decodeUnitsOfPosition_codes, if_neg hn]
    exact if_pos hk
  · refine ⟨askRoute keypad (askRoute reader s), ?_, ?_, fun n => ?_⟩
    · by_cases hi : invalid
      · rw [if_pos hi]
        refine congrArg _ (manage_refuse hslot ((takeSetPosition_closed (s := reserveSlot s) hne hk).trans ?_))
        rw [checkUnits, if_pos (hinv.mp hi), hask]
      · rw [if_neg hi]
        refine congrArg _ (manage_refuse hslot ((takeSetPosition_closed (s := reserveSlot s) hne hk).trans ?_))
        rw [checkUnits, if_neg (fun h => hi (hinv.mpr h)), if_pos (hflt.mp hf), hask]
    · rw [askRoute_frame keypad, askRoute_frame reader]
    · rw [mem_askRoute, mem_askRoute, unitFaulted_askRoute, or_assoc]
      refine or_congr_right ?_
      simp only [unitFaulted_iff, named]
      constructor
      · rintro (⟨v, rfl, rfl, w, hw, h⟩ | ⟨v, rfl, rfl, w, hw, h⟩)
        · cases hw; exact ⟨v, rfl, .inl rfl, h⟩
        · cases hw; exact ⟨v, rfl, .inr rfl, h⟩
      · rintro ⟨v, rfl, rfl | rfl, h⟩
        · exact .inl ⟨v, rfl, rfl, v, rfl, h⟩
        · exact .inr ⟨v, rfl, rfl, v, rfl, h⟩
  · have hno : ¬ (unitFaulted reader (reserveSlot s) = true ∨ unitFaulted keypad (reserveSlot s) = true) := fun h => hf (hflt.mpr h)
    obtain ⟨h1, h2⟩ := not_or.mp hno
    have hsame : askRoute keypad (askRoute reader (reserveSlot s)) = reserveSlot s := by
      rw [askRoute_sound (s := reserveSlot s) (Bool.not_eq_true _ ▸ h1), askRoute_sound (Bool.not_eq_true _ ▸ h2)]
    refine ⟨fun hi => ?_, fun hi hw => ?_, fun hi hw he => ?_, fun hi hw he => ?_⟩
    · refine congrArg _ (manage_refuse hslot ((takeSetPosition_closed (s := reserveSlot s) hne hk).trans ?_))
      rw [checkUnits, if_pos (hinv.mp hi), hsame]
    · refine congrArg _ (manage_refuse hslot ((takeSetPosition_closed (s := reserveSlot s) hne hk).trans ?_))
      rw [checkUnits, if_neg (fun h => hi (hinv.mpr h)), if_neg hno, if_pos (hwrong.mp hw), hsame]
    · refine congrArg _ (manage_refuse hslot ((takeSetPosition_closed (s := reserveSlot s) hne hk).trans ?_))
      rw [checkUnits, if_neg (fun h => hi (hinv.mpr h)), if_neg hno, if_neg (fun h => hw (hwrong.mpr h)), if_pos (hels.mp he), hsame]
    · refine congrArg _ (manage_ok hslot ((takeSetPosition_closed (s := reserveSlot s) hne hk).trans ?_))
      rw [checkUnits, if_neg (fun h => hi (hinv.mpr h)), if_neg hno, if_neg (fun h => hw (hwrong.mpr h)),
        if_neg (fun h => he (hels.mpr h)), hsame]
      rfl

/-- Settles O55: the checks of R137 in their order; both units usable, the tests have no effect and a record is found. -/
theorem entriesOpen : Obligations.EntriesOpen := by
  refine ⟨fun b mn mx fk ik cmd tag s hslot => ⟨fun hb => congrArg _ (manage_refuse hslot ?_), ?_⟩, ?_⟩
  · simp only [takeOpenEntry, parseEntry, posOf_none hb]
  · rintro k rfl
    have hopen : ∀ t, takeOpenEntry tag [posAddr k, mn, mx, fk, ik, cmd] t = _ := takeOpenEntry_posAddr k mn mx fk ik cmd tag
    refine ⟨fun h => ?_, fun h he => ?_, fun h he hr => ?_, fun u v h he hr hu hv hports => ⟨fun hn => ?_, fun hy hfree => ?_⟩⟩
    · exact congrArg _ (manage_refuse hslot ((hopen _).trans (if_pos h)))
    · exact congrArg _ (manage_refuse hslot ((hopen _).trans ((if_neg (not_not_intro h)).trans (if_pos (Option.isSome_iff_ne_none.mpr he)))))
    · have hr' : entryInRange ⟨posAddr k, mn, mx, fk, ik, cmd⟩ = false := by
        rw [Bool.eq_false_iff]; exact fun e => hr ((entryInRange_iff _ _ _ _ _ _).mp e)
      refine congrArg _ (manage_refuse hslot ((hopen _).trans ((if_neg (not_not_intro h)).trans ((if_neg ?_).trans (if_pos hr')))))
      show ¬ s.positions[k].entry.isSome = true
      rw [he]; nofun
    · have htaken := (hopen (reserveSlot s)).trans (checkEntry_session (tag := tag) (s := reserveSlot s) h he ((entryInRange_iff _ _ _ _ _ _).mpr hr) hu hv)
      rw [if_neg] at htaken
      · refine congrArg _ ((manage_slot s hslot).trans ?_)
        rw [htaken, replied_of_evaluations]
      · show ¬ (isUsable (usableTest u s) && isUsable (usableTest v s)) = true
        rw [Bool.and_eq_true, isUsable_iff_serves (active_identity hports _), isUsable_iff_serves (active_identity hports _)]
        exact hn
    · obtain ⟨⟨p, hp⟩, r, hq⟩ := hy
      have htaken := (hopen (reserveSlot s)).trans (checkEntry_session (tag := tag) (s := reserveSlot s) h he ((entryInRange_iff _ _ _ _ _ _).mpr hr) hu hv)
      rw [evaluate_of_serves (reserveSlot s) hp, evaluate_of_serves (reserveSlot s) hq, usableTest_usable (reserveSlot s) hp,
        usableTest_usable (reserveSlot s) hq] at htaken
      refine congrArg _ (manage_refuse hslot (htaken.trans ?_))
      have hnone : firstFree (reserveSlot s) = none := Option.eq_none_iff_forall_ne_some.mpr fun i hi => hfree i (firstFree_free _ hi)
      simp only [isUsable, Bool.and_self, ↓reduceIte, admitEntry, hnone]
  · intro k mn mx fk ik cmd tag u v p r s hs he h1 h2 h3 h4 h5 h6 h7 h8 hu hv hp hq hfree
    obtain ⟨i, hi, hif⟩ := firstFree_some s hfree
    have htaken : takeOpenEntry tag [posAddr k, mn, mx, fk, ik, cmd] (reserveSlot s) =
        if freeSlots (reserveSlot s) = 0 then (reserveSlot s, .refuse .outputFull)
        else (startEntry k ⟨posAddr k, mn, mx, fk, ik, cmd⟩ tag i (reserveSlot s), .ok [posAddr k, s.positions[k].session]) := by
      rw [takeOpenEntry_posAddr, checkEntry_session (s := reserveSlot s) hs he
        ((entryInRange_iff _ _ _ _ _ _).mpr ⟨h1, h2, h3, h4, h5, h6, h7, h8⟩) hu hv,
        evaluate_of_serves (reserveSlot s) hp, evaluate_of_serves (reserveSlot s) hq, usableTest_usable (reserveSlot s) hp,
        usableTest_usable (reserveSlot s) hq]
      have hi' : firstFree (reserveSlot s) = some i := hi
      simp only [isUsable, Bool.and_self, ↓reduceIte, admitEntry, hi']
      rfl
    rw [freeSlots_reserveSlot] at htaken
    refine ⟨fun hc => ?_, fun hc => ⟨i, hif, ?_⟩⟩
    · exact congrArg _ (manage_refuse (show HasSlot s by unfold HasSlot; omega) (htaken.trans (if_pos (by omega))))
    · refine congrArg _ (manage_ok (show HasSlot s by unfold HasSlot; omega) (htaken.trans ((if_neg (by omega)).trans ?_)))
      rw [startEntry_eq (s := reserveSlot s) k _ tag i hs]
      rfl

end Sys2Proof.Machine
end

section
/-! SUPPORT. SET ROUTE and CLEAR ROUTE. -/

namespace Sys2Proof.Machine

section
variable {s : State}

/-! ### The checks of a write (R15, R17, R18) -/

theorem isSome_assignment_iff (u : UnitId) (s : State) : (assignment u s).isSome = true ↔ ∃ k : PosId, Assigned s.positions[k] u := by
  refine ⟨fun h => ?_, fun ⟨k, hk⟩ => ?_⟩
  · obtain ⟨⟨k, role⟩, hx⟩ := Option.isSome_iff_exists.mp h
    exact ⟨k, assigned_of_assignment hx⟩
  · rw [Option.isSome_iff_ne_none]
    intro hn
    unfold assignment at hn
    have := List.findSome?_eq_none_iff.mp hn k (List.mem_finRange k)
    rcases hk with hr | hr
    · rw [if_pos hr] at this; cases this
    · split_ifs at this

theorem openExchanges_ne_zero_iff (u : UnitId) (s : State) :
    openExchanges u s ≠ 0 ↔ ∃ i : RecId, s.pool[i].unit = some u ∧ isOpen s.pool[i] = true := by
  rw [openExchanges, Ne, List.countP_eq_zero]
  simp only [mem_pool, forall_exists_index, forall_apply_eq_imp_iff, Bool.and_eq_true, decide_eq_true_eq, not_forall, not_not]

theorem routeBusy_iff (u : UnitId) (s : State) : routeBusy u s = true ↔ RouteBusy u s := by
  simp only [routeBusy, RouteBusy, Bool.and_eq_true, Bool.or_eq_true, decide_eq_true_eq, isSome_assignment_iff, openExchanges_ne_zero_iff]

theorem routeWriteBusy_iff (w : RouteWrite) (s : State) : routeWriteBusy w s = true ↔
    (w.ports ≠ none ∧ RouteBusy w.unit s) ∨ (w.ports = none ∧ ¬ Unassigned w.unit s) := by
  have hu : (∃ k : PosId, Assigned s.positions[k] w.unit) ↔ ¬ Unassigned w.unit s := by
    rw [Unassigned, not_forall]; simp only [not_not]
  cases h : w.ports with
  | none => simp only [routeWriteBusy, h, Option.isSome_none, Bool.false_eq_true, ↓reduceIte, isSome_assignment_iff, hu, ne_eq,
      not_true_eq_false, false_and, true_and, false_or]
  | some x => simp only [routeWriteBusy, h, Option.isSome_some, ↓reduceIte, routeBusy_iff, ne_eq, reduceCtorEq, not_false_eq_true,
      true_and, false_and, or_false]

/-- A port that a PORTS section of a write names. -/
def ClaimedBy (ports : Option (PortId × Option PortId)) (r : PortId) : Prop := ∃ p q, ports = some (p, q) ∧ (r = p ∨ q = some r)

theorem claimedByOther_iff (u : UnitId) (p : PortId) (s : State) :
    claimedByOther u p s = true ↔ ∃ v, s.owners[p] = some v ∧ v ≠ u := by
  unfold claimedByOther
  cases s.owners[p] <;> simp

theorem routeConflict_iff (w : RouteWrite) (s : State) :
    routeConflict w s = true ↔ ∃ r v, ClaimedBy w.ports r ∧ s.owners[r] = some v ∧ v ≠ w.unit := by
  unfold routeConflict
  split
  · rename_i h
    refine ⟨nofun, ?_⟩
    rintro ⟨r, v, ⟨p, q, hp, -⟩, -⟩
    rw [h] at hp; cases hp
  · rename_i p q h
    rw [Bool.or_eq_true, claimedByOther_iff, claimedByOther_iff]
    constructor
    · rintro (⟨v, hv⟩ | ⟨v, hv⟩)
      · exact ⟨p, v, ⟨p, some q, h, .inl rfl⟩, hv⟩
      · exact ⟨q, v, ⟨p, some q, h, .inr rfl⟩, hv⟩
    · rintro ⟨r, v, ⟨p', q', hp, hr⟩, hv⟩
      rw [h] at hp; cases hp
      rcases hr with rfl | hr
      · exact .inl ⟨v, hv⟩
      · cases hr; exact .inr ⟨v, hv⟩
  · rename_i p h
    rw [claimedByOther_iff]
    constructor
    · rintro ⟨v, hv⟩
      exact ⟨p, v, ⟨p, none, h, .inl rfl⟩, hv⟩
    · rintro ⟨r, v, ⟨p', q', hp, hr⟩, hv⟩
      rw [h] at hp; cases hp
      obtain rfl := hr.resolve_right nofun
      exact ⟨v, hv⟩

/-! ### The sections written (R16) -/

/-- A route entry with the sections of a write. -/
def routeWritten (w : RouteWrite) (e : RouteEntry) : RouteEntry where
  valid := w.ports.isSome || e.valid
  primary := (w.ports.map Prod.fst).getD e.primary
  standby := (w.ports.map Prod.snd).getD e.standby
  portsCheck := if w.ports.isSome then writtenCheck w.forcePorts else e.portsCheck
  expected := w.expected.getD e.expected
  classCheck := if w.expected.isSome then writtenCheck w.forceClass else e.classCheck

/-- The map after a write. -/
def ownersWritten (w : RouteWrite) (owners : Vector (Option UnitId) 12) : Vector (Option UnitId) 12 :=
  match w.ports with
  | some (p, q) => ownPorts w.unit p q owners
  | none => owners

theorem writeSections_eq (w : RouteWrite) (s : State) : writeClass w (writePorts w s) =
    { s with routes := s.routes.set w.unit (routeWritten w s.routes[w.unit]), owners := ownersWritten w s.owners } := by
  obtain ⟨u, ports, cls, fp, fc⟩ := w
  have hself : routeWritten ⟨u, none, none, fp, fc⟩ s.routes[u] = s.routes[u] := rfl
  cases ports <;> cases cls
  · rw [hself]
    simp only [writeClass, writePorts, ownersWritten, Fin.getElem_fin, Vector.set_getElem_self]
  all_goals simp [writeClass, writePorts, routeWritten, ownersWritten, modRoute]

theorem mem_mismatchAt (c : ExpectedClass) (p : PortId) (n : Notice) (s : State) : n ∈ (mismatchAt c p s).notices ↔
    n ∈ s.notices ∨ ∃ d, n = .classMismatch p ∧ s.ports[p].state = .ready ∧ s.ports[p].identity = some d ∧ ¬ Agrees c d.cls := by
  have hc : conflicts c s.ports[p].identity = true ↔ ∃ d, s.ports[p].identity = some d ∧ ¬ Agrees c d.cls := by
    cases s.ports[p].identity with
    | none => simp [conflicts]
    | some d => simp only [conflicts_some, Option.some.injEq, exists_eq_left']
  unfold mismatchAt
  split
  · rename_i h
    obtain ⟨d, hd⟩ := hc.mp h.2
    rw [(raiseNotice_raised s _ fun _ => Notice.noConfusion).2.1 n, or_comm]
    exact or_congr_right ⟨fun e => ⟨d, e, (portReady_iff s p).mp h.1, hd⟩, fun ⟨_, e, _⟩ => e⟩
  · rename_i h
    refine ⟨.inl, fun h' => h'.resolve_right ?_⟩
    rintro ⟨d, -, hr, hd⟩
    exact h ⟨(portReady_iff s p).mpr hr, hc.mpr ⟨d, hd⟩⟩

theorem mismatchAt_frame (c : ExpectedClass) (p : PortId) (s : State) :
    mismatchAt c p s = { s with notices := (mismatchAt c p s).notices, wattn := (mismatchAt c p s).wattn } := by
  unfold mismatchAt
  split
  · exact (raiseNotice_raised s _ fun _ => Notice.noConfusion).1
  · rfl

theorem mismatchAt_reserve (c : ExpectedClass) (p : PortId) (s : State) :
    mismatchAt c p (reserveSlot s) = reserveSlot (mismatchAt c p s) := by
  unfold mismatchAt
  rw [raiseNotice_reserve]
  by_cases h : portReady p s = true ∧ conflicts c s.ports[p].identity = true
  · rw [if_pos h]; exact if_pos h
  · rw [if_neg h]; exact if_neg h

theorem reportMismatch_reserve (u : UnitId) (s : State) : reportMismatch u (reserveSlot s) = reserveSlot (reportMismatch u s) := by
  have hr : (reserveSlot s).routes = s.routes := rfl
  unfold reportMismatch
  simp only [hr]
  split
  · split
    · rename_i hq; simp only [hq, mismatchAt_reserve]
    · rename_i hq; simp only [hq, mismatchAt_reserve]
  · rfl

theorem reportMismatch_frame (u : UnitId) (s : State) :
    reportMismatch u s = { s with notices := (reportMismatch u s).notices, wattn := (reportMismatch u s).wattn } := by
  unfold reportMismatch
  dsimp only
  split
  · split
    · rw [mismatchAt_frame, mismatchAt_frame]
    · exact mismatchAt_frame _ _ _
  · rfl

/-- CLASS_MISMATCH is raised for each READY port of a valid and sound entry whose identity disagrees (R16). -/
theorem mem_reportMismatch (u : UnitId) (n : Notice) (s : State) : n ∈ (reportMismatch u s).notices ↔
    n ∈ s.notices ∨ ∃ (r : PortId) (d : Identity), n = .classMismatch r ∧ s.routes[u].valid = true ∧ s.routes[u].portsCheck = .good ∧
      s.routes[u].classCheck = .good ∧ (s.routes[u].primary = r ∨ s.routes[u].standby = some r) ∧ s.ports[r].state = .ready ∧
      s.ports[r].identity = some d ∧ ¬ Agrees s.routes[u].expected d.cls := by
  have hports (c : ExpectedClass) (p : PortId) : (mismatchAt c p s).ports = s.ports := by rw [mismatchAt_frame]
  unfold reportMismatch
  dsimp only
  split
  · rename_i h
    obtain ⟨hv, hf⟩ := h
    obtain ⟨h1, h2⟩ := (routeFaulted_eq_false _).mp hf
    split
    · rename_i q hq
      rw [mem_mismatchAt, mem_mismatchAt, hports, or_assoc]
      refine or_congr_right ⟨?_, ?_⟩
      · rintro (⟨d, rfl, h⟩ | ⟨d, rfl, h⟩)
        · exact ⟨_, d, rfl, hv, h1, h2, .inl rfl, h⟩
        · exact ⟨_, d, rfl, hv, h1, h2, .inr hq, h⟩
      · rintro ⟨r, d, rfl, -, -, -, hr, h⟩
        rcases hr with rfl | hr
        · exact .inl ⟨d, rfl, h⟩
        · rw [hq] at hr; cases hr
          exact .inr ⟨d, rfl, h⟩
    · rename_i hq
      rw [mem_mismatchAt]
      refine or_congr_right ⟨?_, ?_⟩
      · rintro ⟨d, rfl, h⟩
        exact ⟨_, d, rfl, hv, h1, h2, .inl rfl, h⟩
      · rintro ⟨r, d, rfl, -, -, -, hr, h⟩
        rcases hr with rfl | hr
        · exact ⟨d, rfl, h⟩
        · rw [hq] at hr; cases hr
  · rename_i h
    refine ⟨.inl, fun h' => h'.resolve_right ?_⟩
    rintro ⟨r, d, -, hv, h1, h2, -⟩
    exact h ⟨hv, (routeFaulted_eq_false _).mpr ⟨h1, h2⟩⟩

/-! ### The parameters of SET ROUTE -/

theorem expectedOf_expectedCode (c : ExpectedClass) : expectedOf (expectedCode c) = some c := by cases c <;> rfl

theorem standbyOf_optPortCode (q : Option PortId) : standbyOf (optPortCode q) = some q := by
  cases q with
  | none => rfl
  | some p =>
    have hn : portCode p ≠ 0xFF := fun e => by
      have := portCode_toNat p
      rw [e] at this
      have hp := p.isLt
      simp at this
      omega
    simp only [optPortCode, standbyOf, hn, ↓reduceIte, portOf_portCode, Option.map_some]

theorem parseRoute_routeLayout (u : UnitId) (ports : Option (PortId × Option PortId)) (cls : Option ExpectedClass) (fp fc : Bool) :
    parseRoute (routeLayout u ports cls fp fc) =
      some ⟨unitAddr u, ports.map fun x => (portCode x.1, optPortCode x.2), cls.map expectedCode, fp, fc⟩ := by
  obtain ⟨h0, h1, h4, h5⟩ := sectionSelection_bits ports.isSome cls.isSome fp fc
  simp only [routeLayout, List.cons_append]
  generalize byteOf (selected ports.isSome 1 + selected cls.isSome 2 + selected fp 16 + selected fc 32) = sel at h0 h1 h4 h5 ⊢
  unfold parseRoute
  cases ports <;> cases cls <;> dsimp only [field, List.nil_append, List.cons_append, Option.map_none, Option.map_some] <;>
    rw [h0, h1, h4, h5] <;> rfl

/-- What an accepted SET ROUTE has in range (R15). -/
def RouteFits (ports : Option (PortId × Option PortId)) (cls : Option ExpectedClass) (fp fc : Bool) : Prop :=
  (ports ≠ none ∨ cls ≠ none) ∧ (fp = true → ports ≠ none) ∧ (fc = true → cls ≠ none) ∧ ∀ p q, ports = some (p, some q) → p ≠ q

theorem takeSetRoute_routeLayout {u : UnitId} {ports : Option (PortId × Option PortId)} {cls : Option ExpectedClass} {fp fc : Bool}
    (h : RouteFits ports cls fp fc) (s : State) :
    takeSetRoute (routeLayout u ports cls fp fc) s = applyRoute ⟨u, ports, cls, fp, fc⟩ s := by
  obtain ⟨hs, hfp, hfc, hne⟩ := h
  have hports : decodePorts (ports.map fun x => (portCode x.1, optPortCode x.2)) = some ports := by
    cases ports with
    | none => rfl
    | some x =>
      obtain ⟨p, q⟩ := x
      have hq : q ≠ some p := by rintro rfl; exact hne p p rfl rfl
      simp only [Option.map_some, decodePorts, portOf_portCode, standbyOf_optPortCode, if_neg hq]
  have hcls : decodeField expectedOf (cls.map expectedCode) = some cls := decodeField_map fun c _ => expectedOf_expectedCode c
  have hn : (((ports.map fun x => (portCode x.1, optPortCode x.2)).isNone && (cls.map expectedCode).isNone) ||
      (fp && (ports.map fun x => (portCode x.1, optPortCode x.2)).isNone) || (fc && (cls.map expectedCode).isNone)) = false := by
    rw [Bool.eq_false_iff]
    simp only [Option.isNone_map, ne_eq, Bool.or_eq_true, Bool.and_eq_true, Option.isNone_iff_eq_none]
    tauto
  simp only [takeSetRoute, parseRoute_routeLayout, decodeRoute, hn, Bool.false_eq_true, ↓reduceIte, unitOf_unitAddr, hports, hcls]

theorem routeWriteBusy_reserve (w : RouteWrite) (s : State) : routeWriteBusy w (reserveSlot s) = routeWriteBusy w s := rfl

theorem routeConflict_reserve (w : RouteWrite) (s : State) : routeConflict w (reserveSlot s) = routeConflict w s := rfl

/-- An accepted write, seen without the reply's slot. -/
theorem applyRoute_reserve {w : RouteWrite} (hb : routeWriteBusy w s = false) (hc : routeConflict w s = false) :
    applyRoute w (reserveSlot s) = (reserveSlot (reportMismatch w.unit { s with
      routes := s.routes.set w.unit (routeWritten w s.routes[w.unit]), owners := ownersWritten w s.owners }), .ok []) := by
  simp only [applyRoute, routeWriteBusy_reserve, routeConflict_reserve, hb, hc, Bool.false_eq_true, ↓reduceIte, writeSections_eq]
  exact congrArg (fun t => (t, Answer.ok [])) (reportMismatch_reserve w.unit { s with
    routes := s.routes.set w.unit (routeWritten w s.routes[w.unit]), owners := ownersWritten w s.owners })

theorem takeClearRoute_unitAddr (u : UnitId) (s : State) : takeClearRoute [unitAddr u] s =
    if routeBusy u s then (s, .refuse .busy) else (modRoute u (fun _ => coldRoute) { s with owners := disown u s.owners }, .ok []) := by
  simp only [takeClearRoute, parseOne, unitOf_unitAddr]

end

/-- Settles O44: by the checks of R15 in their order, the sections written by `routeWritten` and the map by `getElem_ownPorts`. -/
theorem routeWritesSetEntryAndMap : Obligations.RouteWritesSetEntryAndMap := by
  refine ⟨?_, fun b tag s hslot => ⟨fun hb => congrArg _ (manage_refuse hslot ?_), ?_⟩⟩
  · intro u ports cls fp fc tag s hslot hs hfp hfc hne run busy claims conflict
    have taken := takeSetRoute_routeLayout (u := u) ⟨hs, hfp, hfc, hne⟩ (reserveSlot s)
    let w : RouteWrite := ⟨u, ports, cls, fp, fc⟩
    refine ⟨fun hb => congrArg _ (manage_refuse hslot (taken.trans (if_pos ((routeWriteBusy_iff w (reserveSlot s)).mpr hb)))),
      fun hb hc => congrArg _ (manage_refuse hslot (taken.trans ((if_neg fun h => hb ((routeWriteBusy_iff w (reserveSlot s)).mp h)).trans
        (if_pos ((routeConflict_iff w (reserveSlot s)).mpr hc))))), fun hb hc => ?_⟩
    have hb' : routeWriteBusy w s = false := by rw [Bool.eq_false_iff]; exact fun h => hb ((routeWriteBusy_iff w s).mp h)
    have hc' : routeConflict w s = false := by rw [Bool.eq_false_iff]; exact fun h => hc ((routeConflict_iff w s).mp h)
    set x : State := { s with routes := s.routes.set u (routeWritten w s.routes[u]), owners := ownersWritten w s.owners } with hx
    have hroute : x.routes[u] = routeWritten w s.routes[u] := by simp [hx]
    have hframe := reportMismatch_frame u x
    refine ⟨reportMismatch u x, congrArg _ (manage_ok hslot (taken.trans (applyRoute_reserve hb' hc'))), ?_⟩
    have hmem := fun n => mem_reportMismatch u n x
    generalize reportMismatch u x = t at hframe hmem
    have ht : t.routes = x.routes := by rw [hframe]
    have ho : t.owners = ownersWritten w s.owners := by rw [hframe]
    rw [ht, hroute, ho]
    simp only [hroute] at hmem
    refine ⟨by rw [hframe], fun p q hp => ?_, fun hp => ?_, fun c hcls => ?_, fun hcls => ?_, fun r hp => ?_, hmem⟩
    · subst hp; exact ⟨rfl, rfl, rfl, rfl⟩
    · subst hp; exact ⟨rfl, rfl, rfl, rfl, rfl⟩
    · subst hcls; exact ⟨rfl, rfl⟩
    · subst hcls; exact ⟨rfl, rfl⟩
    · obtain ⟨⟨p, q⟩, rfl⟩ := Option.ne_none_iff_exists'.mp hp
      have hcl : claims r ↔ r = p ∨ q = some r := ⟨fun ⟨p', q', h, hr⟩ => by cases h; exact hr, fun h => ⟨p, q, rfl, h⟩⟩
      simp only [ownersWritten, w, getElem_ownPorts, hcl]
      exact ⟨fun h => if_pos h, fun h => if_neg h⟩
  · simp only [takeClearRoute, parseOne, unitOf_none hb]
  · rintro u rfl
    refine ⟨fun hb => congrArg _ (manage_refuse hslot ((takeClearRoute_unitAddr u _).trans (if_pos ((routeBusy_iff u (reserveSlot s)).mpr hb)))),
      fun hb => ⟨{ s with routes := s.routes.set u ⟨false, 0, none, .good, .any, .good⟩, owners := disown u s.owners },
        congrArg _ (manage_ok hslot ((takeClearRoute_unitAddr u _).trans (if_neg fun h => hb ((routeBusy_iff u (reserveSlot s)).mp h)))),
        rfl, fun r => getElem_disown u s.owners r⟩⟩

end Sys2Proof.Machine
end

section
/-! SUPPORT. The event path: events of every owner, and the keys of an entry. -/

namespace Sys2Proof.Machine

section
variable {s : State}

/-! ### Updates of a port beside updates of the rest -/

theorem Raised.withPort {n : Notice} {t : State} (h : Raised n s t) (p : PortId) (q : Port) :
    Raised n (withPort p q s) (withPort p q t) := by
  obtain ⟨ht, hm, hp, hr⟩ := h
  exact ⟨congrArg (Machine.withPort p q) ht, hm, hp, hr⟩

theorem raised_of_ne_call {n : Notice} (h : ∀ k, n ≠ .call k) (s : State) : Raised n s (raiseNotice n s) := raiseNotice_raised s n h

theorem endEntry_withPort (k : PosId) (o : EntryOutcome) (c : EntryCause) (st : Byte) (data : List Byte) (p : PortId) (q : Port) (s : State) :
    endEntry k o c st data (withPort p q s) = withPort p q (endEntry k o c st data s) := by
  have hp : (withPort p q s).pool = s.pool := rfl
  have hk : (withPort p q s).positions[k].entry = s.positions[k].entry := rfl
  cases he : s.positions[k].entry with
  | none => simp only [endEntry, hk, he]
  | some e =>
    simp only [endEntry, hk, he, hp]
    split <;> rfl

theorem entryEnded_withPort (k : PosId) (e : Entry) (o : EntryOutcome) (c : EntryCause) (st : Byte) (data : List Byte) (p : PortId) (q : Port)
    (s : State) : entryEnded k e o c st data (withPort p q s) = withPort p q (entryEnded k e o c st data s) := rfl

theorem raiseNotice_withPort (n : Notice) (p : PortId) (q : Port) (s : State) :
    raiseNotice n (withPort p q s) = withPort p q (raiseNotice n s) := by
  by_cases h : n ∈ s.notices
  · rw [raiseNotice_present s h, raiseNotice_present _ (show n ∈ (withPort p q s).notices from h)]
  · rw [raiseNotice, raiseNotice, if_neg h, if_neg (show n ∉ (withPort p q s).notices from h)]
    cases n <;> rfl

theorem reportUnusable_withPort (u : UnitId) (p : PortId) (q : Port) (s : State) :
    reportUnusable u (withPort p q s) = withPort p q (reportUnusable u s) := by
  have ha : assignment u (withPort p q s) = assignment u s := rfl
  simp only [reportUnusable, ha]
  split
  · rename_i k role _
    have hc : (withPort p q s).positions[k].entry = s.positions[k].entry := rfl
    simp only [abandonCollecting, hc, endEntry_withPort]
    split <;> rfl
  · rfl

/-! ### Gated, filtered, lost and appended (R105 to R110) -/

/-- Steps 7 and 8 on a state whose port `p` is written out: FILTERED, appended, or lost for overrun (R108, R109, R110). -/
theorem passEvent_withPort (p : PortId) (u : UnitId) (n code : Byte) (data : List Byte) (q : Port) (s : State) :
    (¬ q.passSet.getLsbD (classBit (eventClass code data)) = true → passEvent p u n code data (withPort p q s) =
      withPort p { q with counters := { q.counters with filtered := counted q.counters.filtered } } s) ∧
    (q.passSet.getLsbD (classBit (eventClass code data)) = true → q.outbound.countP isEvent < 8 →
      passEvent p u n code data (withPort p q s) =
        withPort p { q with outbound := q.outbound ++ [.event u n code q.lost data], lost := 0 } s) ∧
    (q.passSet.getLsbD (classBit (eventClass code data)) = true → 8 ≤ q.outbound.countP isEvent →
      Raised (.eventOverrun p)
        (withPort p { q with
          lost := if q.lost = 255 then 255 else q.lost + 1
          counters := { q.counters with overrunLost := counted q.counters.overrunLost } } s)
        (passEvent p u n code data (withPort p q s))) := by
  refine ⟨fun hp => ?_, fun hp hw => ?_, fun hp hw => ?_⟩
  · rw [passEvent, ports_withPort]
    refine (if_neg hp).trans ?_
    rw [countPort_withPort]
    simp only [bumpPort, bump_eq]
  · rw [passEvent, ports_withPort]
    refine (if_pos hp).trans ?_
    rw [queueEvent, ports_withPort]
    refine (if_neg (Nat.not_le.mpr hw)).trans ?_
    rw [modPort_eq_withPort, ports_withPort, withPort_withPort]
  · rw [passEvent, ports_withPort]
    rw [show (if passes q.passSet (eventClass code data) = true then queueEvent p u n code data (withPort p q s)
      else countPort .filtered p (withPort p q s)) = queueEvent p u n code data (withPort p q s) from if_pos hp, queueEvent, ports_withPort]
    rw [show (if Config.eventLimit ≤ eventCount q then _ else _) = _ from if_pos hw, modPort_eq_withPort, ports_withPort, withPort_withPort,
      countPort_withPort]
    have hlost : (if q.lost = 0xFF then q.lost else q.lost + 1) = if q.lost = 255 then 255 else q.lost + 1 := by
      split
      · assumption
      · rfl
    simp only [bumpPort, bump_eq, hlost]
    exact raised_of_ne_call (fun _ => Notice.noConfusion) _

theorem countPort_gated_withPort (p : PortId) (q : Port) (s : State) : countPort .gated p (withPort p q s) =
    withPort p { q with counters := { q.counters with gated := counted q.counters.gated } } s := by
  rw [countPort_withPort]; simp only [bumpPort, bump_eq]

theorem countPort_noUnit_withPort (p : PortId) (q : Port) (s : State) : countPort .noUnit p (withPort p q s) =
    withPort p { q with counters := { q.counters with noUnit := counted q.counters.noUnit } } s := by
  rw [countPort_withPort]; simp only [bumpPort, bump_eq]

/-! ### Card events of a reader (R103, R107, R127, R147) -/

/-- The card state and the entry of a position after an event of its unit (R103, R147). -/
def cardTracked (k : PosId) (reads : Prop) [Decidable reads] (code : Byte) (s : State) : State :=
  if code = 0x10 ∧ reads then withPos k { s.positions[k] with card := .cardIn } s
  else if code = 0x11 ∧ reads then
    match s.positions[k].entry with
    | some e => if e.state = .collecting then entryEnded k e .abandoned .cardRemoved 0 [] (withPos k { s.positions[k] with card := .noCard } s)
      else withPos k { s.positions[k] with card := .noCard } s
    | none => withPos k { s.positions[k] with card := .noCard } s
  else s

theorem trackCard_eq {k : PosId} (role : Role) (code : Byte) (hl : PositionLaw s) :
    trackCard k role code s = cardTracked k (role = .reader) code s := by
  unfold trackCard cardTracked
  by_cases h1 : code = 0x10 ∧ role = .reader
  · rw [if_pos h1]; exact if_pos h1.symm
  · rw [if_neg h1]
    refine (if_neg fun h => h1 ⟨h.2, h.1⟩).trans ?_
    by_cases h2 : code = 0x11 ∧ role = .reader
    · rw [if_pos h2]
      refine (if_pos h2.symm).trans ?_
      have hpos : (withPos k { s.positions[k] with card := .noCard } s).positions[k].entry = s.positions[k].entry := by
        rw [positions_withPos]
      show abandonCollecting k .cardRemoved (withPos k { s.positions[k] with card := .noCard } s) = _
      cases he : s.positions[k].entry with
      | none =>
        exact abandonCollecting_other _ fun x hx => by rw [Collects, hpos, he] at hx; cases hx.1
      | some e =>
        by_cases hc : e.state = .collecting
        · simp only [if_pos hc]
          rw [abandonCollecting, if_pos (by rw [hpos, he]; exact decide_eq_true hc)]
          exact endEntry_eq _ k e _ _ _ _ (hpos.trans he) (by rw [positions_withPos]; exact hl.entry k (by rw [he]; rfl))
        · simp only [if_neg hc]
          exact abandonCollecting_other _ fun x hx => by
            rw [Collects, hpos, he] at hx
            obtain ⟨hx, hxc⟩ := hx
            cases hx
            exact hc hxc
    · rw [if_neg h2]; exact if_neg fun h => h2 ⟨h.2, h.1⟩

theorem cardTracked_withPort (k : PosId) (reads : Prop) [Decidable reads] (code : Byte) (p : PortId) (q : Port) (s : State) :
    cardTracked k reads code (withPort p q s) = withPort p q (cardTracked k reads code s) := by
  have hk : (withPort p q s).positions[k].entry = s.positions[k].entry := rfl
  unfold cardTracked
  split
  · rfl
  · split
    · cases he : s.positions[k].entry with
      | none => simp only [hk, he]; rfl
      | some e =>
        simp only [hk, he]
        split <;> rfl
    · rfl

/-- The card state and the entry aside, a position is as it was. -/
theorem cardTracked_position (k : PosId) (reads : Prop) [Decidable reads] (code : Byte) (s : State) :
    (cardTracked k reads code s).positions[k].state = s.positions[k].state ∧
      (cardTracked k reads code s).positions[k].session = s.positions[k].session := by
  unfold cardTracked
  split
  · rw [positions_withPos]; exact ⟨rfl, rfl⟩
  · split
    · split
      · split
        · simp [entryEnded, withPos, lit_state]
        · rw [positions_withPos]; exact ⟨rfl, rfl⟩
      · rw [positions_withPos]; exact ⟨rfl, rfl⟩
    · exact ⟨rfl, rfl⟩

/-- The state after the last character of a frame, with its port written out. -/
theorem exec_event {p : PortId} {code : Byte} {data : List Byte} {c : RxChar} (hr : s.ports[p].state = .ready)
    (hc : Completes p (lineEvent :: 0 :: code :: data) c s) (hd : data.length ≤ 57) :
    exec (.lineFrameReceived p c) s =
      .next (eventPath p code data (withPort p { s.ports[p] with asm := .hunting false, gap := none } s)) :=
  congrArg _ (receive_event s hr hc hd)

/-- Steps 4 to 8 for a unit of a position that is not CLOSED (R106 to R110). -/
theorem gateEvent_open {p : PortId} {u : UnitId} {k : PosId} {role : Role} {code : Byte} {data : List Byte}
    (hk : s.positions[k].state ≠ .closed) (hg : ¬ (code = 0x12 ∧ role = .reader ∧ s.positions[k].state = .open)) :
    gateEvent p u k role code data s = passEvent p u (sessionOf k s) code data (cardWaits k role code s) := by
  have hg' : ¬ (code = codeCardData ∧ role = .reader ∧ s.positions[k].state ≠ .session) := by
    rintro ⟨h1, h2, h3⟩
    refine hg ⟨h1, h2, ?_⟩
    cases h : s.positions[k].state with
    | closed => exact absurd h hk
    | session => exact absurd h h3
    | _ => rfl
  rw [gateEvent, if_neg hk, if_neg hg']

theorem gateEvent_gated {p : PortId} {u : UnitId} {k : PosId} {role : Role} {code : Byte} {data : List Byte}
    (hg : code = 0x12 ∧ role = .reader ∧ s.positions[k].state = .open) :
    gateEvent p u k role code data s = countPort .gated p s := by
  have hk : s.positions[k].state ≠ .closed := by rw [hg.2.2]; decide
  have hg' : code = codeCardData ∧ role = .reader ∧ s.positions[k].state ≠ .session := ⟨hg.1, hg.2.1, by rw [hg.2.2]; decide⟩
  rw [gateEvent, if_neg hk, if_pos hg']

theorem cardWaits_withPort (k : PosId) (role : Role) (code : Byte) (p : PortId) (q : Port) (s : State) :
    cardWaits k role code (withPort p q s) = withPort p q (cardWaits k role code s) := by
  have hk : (withPort p q s).positions[k].state = s.positions[k].state := rfl
  simp only [cardWaits, hk, raiseNotice_withPort]
  split <;> rfl

/-- An event of a unit of a position is tracked and then gated, unless it is a KEY that an entry captures (R103, R104). -/
theorem eventPath_assigned {p : PortId} {u : UnitId} {k : PosId} {code : Byte} {data : List Byte} (hl : PositionLaw s)
    (ho : s.owners[p] = some u) (h1 : s.routes[u].portsCheck = .good) (h2 : s.routes[u].classCheck = .good)
    (ha : Assigned s.positions[k] u)
    (hn : ¬ (code = 0x20 ∧ s.positions[k].keypad = some u ∧ s.positions[k].entry ≠ none)) :
    ∃ role, (role = .reader ↔ s.positions[k].reader = some u) ∧
      eventPath p code data s = gateEvent p u k role code data (cardTracked k (s.positions[k].reader = some u) code s) := by
  rcases ha with hr | hk
  · refine ⟨.reader, ⟨fun _ => hr, fun _ => rfl⟩, ?_⟩
    rw [eventPath_reader s code data hl ho h1 h2 hr, trackCard_eq .reader code hl]
    congr 1
    simp only [cardTracked, hr]
  · have hnr : ¬ s.positions[k].reader = some u := fun h => hl.roles k u ⟨h, hk⟩
    refine ⟨.keypad, ⟨nofun, fun h => absurd h hnr⟩, ?_⟩
    have hc : ¬ (code = codeKey ∧ s.positions[k].entry.isSome = true) :=
      fun h => hn ⟨h.1, hk, Option.isSome_iff_ne_none.mp h.2⟩
    rw [eventPath_keypad s code data hl ho h1 h2 hk, if_neg hc]
    congr 1
    simp only [cardTracked, hnr, and_false, ↓reduceIte]

/-- The event path of an owner whose entry is faulted: NO_UNIT, TABLE_FAULT and the report (R5, R12, R102). -/
theorem eventPath_faulted {p : PortId} {u : UnitId} {code : Byte} {data : List Byte} {q : Port}
    (ho : s.owners[p] = some u) (hf : s.routes[u].portsCheck ≠ .good ∨ s.routes[u].classCheck ≠ .good) :
    eventPath p code data (withPort p q s) = reportUnusable u (raiseNotice (.unitFault u)
      (withPort p { q with counters := { q.counters with noUnit := counted q.counters.noUnit } } s)) := by
  have hf' : routeFaulted s.routes[u] = true := by
    rw [← Bool.not_eq_false, routeFaulted_eq_false]
    exact fun h => hf.elim (fun e => e h.1) fun e => e h.2
  have ho' : (withPort p q s).owners[p] = some u := ho
  have hr : (withPort p q s).routes = s.routes := rfl
  simp only [eventPath, ho', hr, hf', ↓reduceIte]
  rw [raiseNotice_withPort, reportUnusable_withPort, countPort_noUnit_withPort, raiseNotice_withPort, reportUnusable_withPort]

end

/-- Settles O24: by the owner of the port and the checks of its entry; for a unit in no position by `passEvent_withPort`. -/
theorem eventsOfAUnitInNoPosition : Obligations.EventsOfAUnitInNoPosition := by
  intro p code data c s hr hc hd q waiting passed
  have run : exec (.lineFrameReceived p c) s = .next (eventPath p code data (withPort p q s)) := exec_event hr hc hd
  refine ⟨fun ho => ?_, fun u ho hv hf hl => ?_, fun u ho h1 h2 hu => ?_⟩
  · have ho' : (withPort p q s).owners[p] = none := ho
    rw [run]
    simp only [eventPath, ho']
    rw [countPort_noUnit_withPort]
  · rw [run, eventPath_faulted ho hf]
    set a : State := withPort p { q with counters := { q.counters with noUnit := counted q.counters.noUnit } } s with ha
    have hraised : Raised (.unitFault u) a (raiseNotice (.unitFault u) a) := raised_of_ne_call (fun _ => Notice.noConfusion) a
    have hpos : (raiseNotice (.unitFault u) a).positions = s.positions := by rw [hraised.1]; rfl
    have hlaw : PositionLaw (raiseNotice (.unitFault u) a) := hl.congr hpos (by rw [hraised.1]; rfl) (by rw [hraised.1]; rfl)
    obtain ⟨hsame, hends⟩ := reportUnusable_cases (u := u) hlaw
    simp only [Collects, hpos] at hsame hends
    exact ⟨_, hraised, fun h => congrArg _ (hsame fun k x hk hx => h k x hk hx.1 hx.2),
      fun k e he hcl => ⟨fun h => congrArg _ ((hends k e ⟨he, hcl⟩).1 h), fun h => congrArg _ ((hends k e ⟨he, hcl⟩).2 h)⟩⟩
  · have hpass : exec (.lineFrameReceived p c) s = .next (passEvent p u 0 code data (withPort p q s)) :=
      run.trans (congrArg _ (eventPath_unassigned (withPort p q s) code data ho h1 h2 hu))
    obtain ⟨hfiltered, happended, hlost⟩ := passEvent_withPort p u 0 code data q s
    exact ⟨fun h => hpass.trans (congrArg _ (hfiltered h)), fun h hw => hpass.trans (congrArg _ (happended h hw)),
      fun h hw => ⟨_, hpass, hlost h hw⟩⟩

/-- The clause of O26 on every event of a unit of a position that is not CLOSED. -/
theorem eventOfAnOpenPosition (p : PortId) (u : UnitId) (k : PosId) (code : Byte) (data : List Byte) (c : RxChar) (s : State)
    (hl : PositionLaw s) (hr : s.ports[p].state = .ready) (hd : data.length ≤ 57) (ho : s.owners[p] = some u)
    (h1 : s.routes[u].portsCheck = .good) (h2 : s.routes[u].classCheck = .good) (ha : Assigned s.positions[k] u)
    (hk : s.positions[k].state ≠ .closed) (hc : Completes p (lineEvent :: 0 :: code :: data) c s) :
    let run := exec (.lineFrameReceived p c) s
    let q : Port := { s.ports[p] with asm := .hunting false, gap := none }
    let gated := code = 0x12 ∧ s.positions[k].reader = some u ∧ s.positions[k].state = .open
    let waits := code = 0x10 ∧ s.positions[k].reader = some u ∧ s.positions[k].state = .open
    let session : Byte := if s.positions[k].state = .session then s.positions[k].session else 0
    let passed := q.passSet.getLsbD (classBit (eventClass code data)) = true
    (gated → run = .next (withPort p { q with counters := { q.counters with gated := counted q.counters.gated } } s)) ∧
    (¬ gated → ¬ (code = 0x20 ∧ s.positions[k].keypad = some u ∧ s.positions[k].entry ≠ none) →
      ∃ b : State, (waits → Raised (.cardWaiting k) (cardTracked k (s.positions[k].reader = some u) code s) b) ∧
      (¬ waits → b = cardTracked k (s.positions[k].reader = some u) code s) ∧
      (¬ passed → run = .next (withPort p { q with counters := { q.counters with filtered := counted q.counters.filtered } } b)) ∧
      (passed → q.outbound.countP isEvent < 8 → run = .next
        (withPort p { q with outbound := q.outbound ++ [.event u session code q.lost data], lost := 0 } b)) ∧
      (passed → 8 ≤ q.outbound.countP isEvent → ∃ t : State, run = .next t ∧
        Raised (.eventOverrun p)
          (withPort p { q with
            lost := if q.lost = 255 then 255 else q.lost + 1
            counters := { q.counters with overrunLost := counted q.counters.overrunLost } } b) t)) := by
  intro run q gated waits session passed
  have hrun : run = .next (eventPath p code data (withPort p q s)) := exec_event hr hc hd
  have hl' : PositionLaw (withPort p q s) := hl.congr rfl rfl rfl
  have hpath (hn : ¬ (code = 0x20 ∧ s.positions[k].keypad = some u ∧ s.positions[k].entry ≠ none)) :=
    eventPath_assigned (data := data) (p := p) (k := k) hl' ho h1 h2 ha hn
  obtain ⟨hstate, hsession⟩ := cardTracked_position k (s.positions[k].reader = some u) code s
  refine ⟨fun hg => ?_, fun hg hn => ?_⟩
  · obtain ⟨role, hrole, he⟩ := hpath fun h => absurd (hg.1.symm.trans h.1) (by decide)
    have htrack : cardTracked k (s.positions[k].reader = some u) code s = s := by
      simp only [cardTracked, hg.1, show ((0x12 : Byte) = 0x10) = False by simp, show ((0x12 : Byte) = 0x11) = False by simp, false_and,
        ↓reduceIte]
    have he' : eventPath p code data (withPort p q s) = gateEvent p u k role code data (withPort p q s) := by
      rw [he]
      show gateEvent p u k role code data (cardTracked k (s.positions[k].reader = some u) code (withPort p q s)) = _
      rw [cardTracked_withPort, htrack]
    rw [hrun, he', gateEvent_gated (s := withPort p q s) ⟨hg.1, hrole.mpr hg.2.1, hg.2.2⟩, countPort_gated_withPort]
  · obtain ⟨role, hrole, he⟩ := hpath hn
    set tracked := cardTracked k (s.positions[k].reader = some u) code s with htracked
    have hgate : ¬ (code = 0x12 ∧ role = .reader ∧ (withPort p q tracked).positions[k].state = .open) := fun h =>
      hg ⟨h.1, hrole.mp h.2.1, hstate.symm.trans h.2.2⟩
    have hopen : (withPort p q tracked).positions[k].state ≠ .closed := fun h => hk (hstate.symm.trans h)
    have hsess : sessionOf k (withPort p q tracked) = session := by
      show (if tracked.positions[k].state = .session then tracked.positions[k].session else 0) = _
      rw [hstate, hsession]
    have hpass : run = .next (passEvent p u session code data (withPort p q (cardWaits k role code tracked))) := by
      rw [hrun, he]
      show Host.Outcome.next (gateEvent p u k role code data (cardTracked k (s.positions[k].reader = some u) code (withPort p q s))) = _
      rw [cardTracked_withPort, ← htracked, gateEvent_open hopen hgate, hsess, cardWaits_withPort]
    have hwaits : waits ↔ role = .reader ∧ code = codeCardInserted ∧ tracked.positions[k].state = .open := by
      rw [hrole, hstate]
      exact ⟨fun h => ⟨h.2.1, h.1, h.2.2⟩, fun h => ⟨h.2.1, h.1, h.2.2⟩⟩
    obtain ⟨hfiltered, happended, hlost⟩ := passEvent_withPort p u session code data q (cardWaits k role code tracked)
    refine ⟨cardWaits k role code tracked, fun hw => ?_, fun hw => if_neg fun h => hw (hwaits.mpr h), fun h => hpass.trans (congrArg _ (hfiltered h)),
      fun h hw => hpass.trans (congrArg _ (happended h hw)), fun h hw => ⟨_, hpass, hlost h hw⟩⟩
    rw [cardWaits, if_pos (hwaits.mp hw)]
    exact raised_of_ne_call (fun _ => Notice.noConfusion) _

/-- Settles O26: every event by `eventOfAnOpenPosition`, of which the card events of the reader are instances. -/
theorem cardEventsFollowThePosition : Obligations.CardEventsFollowThePosition := by
  refine ⟨fun p u k data c s hl hr hd ho h1 h2 hk hst hw => ?_, fun p u k code data c s hl hr hd ho h1 h2 ha hst hc => ?_⟩
  · intro q session sent
    have general (code : Byte) (hc : Completes p (lineEvent :: 0 :: code :: data) c s) :=
      eventOfAnOpenPosition p u k code data c s hl hr hd ho h1 h2 (.inl hk) hst hc
    have hnk : ¬ s.positions[k].keypad = some u := fun h => hl.roles k u ⟨hk, h⟩
    refine ⟨fun hc hop => (general _ hc).1 ⟨rfl, hk, hop⟩, fun hc hse hp => ?_, fun hc hp => ⟨fun hne => ?_, fun e he hcl => ?_⟩,
      fun hc hp hse => ?_, fun hc hp hop => ?_⟩
    · obtain ⟨b, -, hb, -, happ, -⟩ := (general _ hc).2 (fun h => by rw [hse] at h; cases h.2.2) fun h => hnk h.2.1
      rw [happ hp hw, hb (fun h => absurd h.1 (by decide))]
      rfl
    · obtain ⟨b, -, hb, -, happ, -⟩ := (general _ hc).2 (fun h => absurd h.1 (by decide)) fun h => hnk h.2.1
      rw [happ hp hw, hb (fun h => absurd h.1 (by decide))]
      have htrack : cardTracked k (s.positions[k].reader = some u) 0x11 s = withPos k { s.positions[k] with card := .noCard } s := by
        rw [cardTracked, if_neg (fun h => absurd h.1 (by decide)), if_pos ⟨rfl, hk⟩]
        split
        · rename_i e he; rw [if_neg (hne e he)]
        · rfl
      rw [htrack]
    · obtain ⟨b, -, hb, -, happ, -⟩ := (general _ hc).2 (fun h => absurd h.1 (by decide)) fun h => hnk h.2.1
      rw [happ hp hw, hb (fun h => absurd h.1 (by decide))]
      have htrack : cardTracked k (s.positions[k].reader = some u) 0x11 s = entryEnded k e .abandoned .cardRemoved 0 []
          (withPos k { s.positions[k] with card := .noCard } s) := by
        rw [cardTracked, if_neg (fun h => absurd h.1 (by decide)), if_pos ⟨rfl, hk⟩]
        simp only [he, if_pos hcl]
      rw [htrack]
    · obtain ⟨b, -, hb, -, happ, -⟩ := (general _ hc).2 (fun h => absurd h.1 (by decide)) fun h => hnk h.2.1
      rw [happ hp hw, hb (fun h => by rw [hse] at h; cases h.2.2)]
      have htrack : cardTracked k (s.positions[k].reader = some u) 0x10 s = withPos k { s.positions[k] with card := .cardIn } s := by
        rw [cardTracked, if_pos ⟨rfl, hk⟩]
      rw [htrack]
    · obtain ⟨b, hb, -, -, happ, -⟩ := (general _ hc).2 (fun h => absurd h.1 (by decide)) fun h => hnk h.2.1
      refine ⟨_, happ hp hw, ?_⟩
      have hraised := hb ⟨rfl, hk, hop⟩
      rw [cardTracked, if_pos ⟨rfl, hk⟩] at hraised
      have hs : (if s.positions[k].state = .session then s.positions[k].session else 0) = session := rfl
      rw [hs]
      exact hraised.withPort p (sent 0x10)
  · exact eventOfAnOpenPosition p u k code data c s hl hr hd ho h1 h2 ha hst hc

end Sys2Proof.Machine
end

section
/-! SUPPORT. Events at a CLOSED position, and the keys that an entry captures. -/

namespace Sys2Proof.Machine

section
variable {s : State}

theorem ports_withPort_ne {p r : PortId} (h : r ≠ p) (q : Port) (s : State) : (withPort p q s).ports[r] = s.ports[r] := by
  have hv : p.val ≠ r.val := fun e => h (Fin.ext e.symm)
  simp only [withPort, Fin.getElem_fin, Vector.getElem_set_ne _ _ hv]

/-- A part of the ports that a write to one port leaves as it was. -/
theorem withPort_field {β : Type} (g : Port → β) {p : PortId} {q : Port} (h : g q = g s.ports[p]) (r : PortId) :
    g (withPort p q s).ports[r] = g s.ports[r] := by
  by_cases hr : r = p
  · rw [hr, ports_withPort, h]
  · rw [ports_withPort_ne hr]

/-- A part of the ports that the receiver leaves as it was. -/
theorem sampled_field {β : Type} (g : Port → β) {p : PortId}
    (h : g { s.ports[p] with asm := .hunting false, gap := none } = g s.ports[p]) (r : PortId) :
    g (sampled p s).ports[r] = g s.ports[r] := withPort_field g h r

theorem countPort_outbound (n : PortCounter) (p r : PortId) (s : State) :
    (countPort n p s).ports[r].outbound = s.ports[r].outbound := by
  rw [countPort, modPort_eq_withPort]
  exact withPort_field (p := p) (s := s) (q := { s.ports[p] with counters := bumpPort n s.ports[p].counters }) (·.outbound) rfl r

theorem positions_withPos_ne {j k : PosId} (h : j ≠ k) (q : Position) (s : State) : (withPos k q s).positions[j] = s.positions[j] :=
  modPos_ne s h fun _ => q

/-! ### Events at a CLOSED position (R105, R127, R129) -/

/-- Without an entry, a card event changes the card state alone (R103). -/
theorem cardTracked_of_no_entry {k : PosId} (reads : Prop) [Decidable reads] (code : Byte) (he : s.positions[k].entry = none) :
    cardTracked k reads code s = withPos k (if reads ∧ code = 0x10 then { s.positions[k] with card := .cardIn }
      else if reads ∧ code = 0x11 then { s.positions[k] with card := .noCard } else s.positions[k]) s := by
  have h1 : (reads ∧ code = 0x10) = (code = 0x10 ∧ reads) := propext and_comm
  have h2 : (reads ∧ code = 0x11) = (code = 0x11 ∧ reads) := propext and_comm
  simp only [cardTracked, he, h1, h2]
  split
  · rfl
  · split
    · rfl
    · rw [withPos_same]

theorem mem_raiseNotice (n m : Notice) (s : State) : m ∈ (raiseNotice n s).notices ↔ m = n ∨ m ∈ s.notices := by
  by_cases h : n ∈ s.notices
  · rw [raiseNotice_present s h]
    exact ⟨.inr, fun hm => hm.elim (fun e => e ▸ h) id⟩
  · rw [raiseNotice, if_neg h, noticeChanged_eq]
    exact mem_insertNotice n m _

theorem raiseNotice_state (n : Notice) (k : PosId) (s : State) : (raiseNotice n s).positions[k].state = s.positions[k].state := by
  unfold raiseNotice
  split
  · rfl
  · rw [noticeChanged_field _ lit_state]

/-- CALL is raised at a CLOSED position, whose lamp flashes (R129, R130). -/
theorem raiseNotice_call_lamp {k : PosId} (hl : LampLaw s) (hk : s.positions[k].state = .closed) :
    (raiseNotice (.call k) s).positions[k].lamp = .flash := by
  rw [((keeps_raiseNotice (A := True) (n := 0) (.call k)).lamp hl).mode k, tableLamp, raiseNotice_state, hk]
  exact if_pos ((mem_raiseNotice _ _ _).mpr (.inl rfl))

/-! ### Keys of an entry (R104, R139 to R144) -/

theorem queueProgress_withPos {k : PosId} {q : Position} (n : Nat) (short full : Bool) (hq : q.session = s.positions[k].session) :
    queueProgress k n short full (withPos k q s) = withPos k q (queueProgress k n short full s) := by
  have hw : controlWaiting (withPos k q s) = controlWaiting s := rfl
  have hf : freeSlots (withPos k q s) = freeSlots s := rfl
  simp only [queueProgress, hw, hf, positions_withPos, hq]
  split
  · rfl
  · split <;> rfl

theorem queueProgress_ports (k : PosId) (n : Nat) (short full : Bool) (s : State) : (queueProgress k n short full s).ports = s.ports := by
  unfold queueProgress
  split
  · rfl
  · split <;> rfl

/-- A key acted on shows its progress beside the entry it leaves (R140, R143). -/
theorem keyTaken_eq (k : PosId) (f : Entry) (short full : Bool) (s : State) : keyTaken k f short full s =
    withPos k { s.positions[k] with entry := some { f with timing := .interKey, timer := some (f.interKeyLimit * 1000) } }
      (queueProgress k f.count short full s) :=
  queueProgress_withPos f.count short full rfl

/-- A KEY of the keypad unit of a position with an entry goes to the entry (R104). -/
theorem exec_captured_key {p : PortId} {u : UnitId} {k : PosId} {e : Entry} {data : List Byte} {c : RxChar} (hl : PositionLaw s)
    (hr : s.ports[p].state = .ready) (ho : s.owners[p] = some u) (h1 : s.routes[u].portsCheck = .good)
    (h2 : s.routes[u].classCheck = .good) (hk : s.positions[k].keypad = some u) (he : s.positions[k].entry = some e)
    (hd : data.length ≤ 57) (hc : Completes p (lineEvent :: 0 :: 0x20 :: data) c s) :
    exec (.lineFrameReceived p c) s = .next (takeKey k data.head? (sampled p s)) := by
  have hl' : PositionLaw (sampled p s) := hl.congr rfl rfl rfl
  have he' : (sampled p s).positions[k].entry = some e := he
  refine (exec_event hr hc hd).trans (congrArg _ ?_)
  show eventPath p 0x20 data (sampled p s) = _
  rw [eventPath_keypad (sampled p s) 0x20 data hl' ho h1 h2 hk]
  exact if_pos ⟨rfl, by rw [he']; rfl⟩

theorem takeKey_collecting {k : PosId} {e : Entry} (b : Byte) (he : s.positions[k].entry = some e) (hc : e.state = .collecting) :
    takeKey k (some b) s = collectKey k e b s := by
  simp only [takeKey, he, if_pos hc]

theorem takeKey_delivering {k : PosId} {e : Entry} (key : Option Byte) (he : s.positions[k].entry = some e) (hc : e.state ≠ .collecting) :
    takeKey k key s = s := by
  cases key with
  | none => simp only [takeKey, he]
  | some b => simp only [takeKey, he, if_neg hc]

theorem takeKey_none (k : PosId) (s : State) : takeKey k none s = s := by
  unfold takeKey
  split
  · rename_i h; cases h
  · rfl

theorem collectKey_digit {b : Byte} (k : PosId) (e : Entry) (h : isDigitKey b = true) (s : State) : collectKey k e b s = digitKey k e b s :=
  if_pos h

theorem collectKey_clear (k : PosId) (e : Entry) (s : State) : collectKey k e 0x43 s = clearKey k e s :=
  (if_neg (by decide)).trans (if_pos rfl)

theorem collectKey_enter (k : PosId) (e : Entry) (s : State) : collectKey k e 0x0D s = enterKey k e s :=
  (if_neg (by decide)).trans ((if_neg (by decide)).trans (if_pos rfl))

theorem collectKey_cancel (k : PosId) (e : Entry) (s : State) : collectKey k e 0x58 s = endEntry k .cancelled .key 0 [] s :=
  (if_neg (by decide)).trans ((if_neg (by decide)).trans ((if_neg (by decide)).trans (if_pos rfl)))

theorem collectKey_other {b : Byte} (k : PosId) (e : Entry) (h : isDigitKey b = false) (h1 : b ≠ 0x43) (h2 : b ≠ 0x58) (h3 : b ≠ 0x0D)
    (s : State) : collectKey k e b s = s :=
  (if_neg (by rw [h]; decide)).trans ((if_neg h1).trans ((if_neg h3).trans (if_neg h2)))

/-- The delivery of a complete ENTER, as one update (R55, R144). -/
theorem deliver_eq {k : PosId} (e : Entry) (u : UnitId) (p : PortId) (hs : s.positions[k].state = .session) :
    deliver k e u p s =
      { withPort p { s.ports[p] with queue := e.record :: s.ports[p].queue }
          (withPos k (lit .off { s.positions[k] with
            entry := some { e with state := .delivering, digits := [], count := e.digits.length, timer := none } }) s) with
        pool := s.pool.set e.record { freeExchange with
          state := .queued, origin := some .delivery, unit := some u, port := some p, position := some k
          command := e.command, data := e.digits } } := by
  unfold deliver
  rw [show ∀ (f : Position → Position) (t : State), modPos k f t = withPos k (f t.positions[k]) t from fun _ _ => rfl, refreshLamp_withPos]
  have hm : lampFor s.positions[k].state (decide (Notice.call k ∈ s.notices))
      (isCollecting (some { e with state := .delivering, digits := [], count := e.digits.length, timer := none })) = .off := by
    rw [hs]; rfl
  have ha : lampFor s.positions[k].state (decide (Notice.call k ∈ (modPort p (fun q => { q with queue := e.record :: q.queue })
      (modRec e.record (fun _ => { freeExchange with
        state := .queued, origin := some .delivery, unit := some u, port := some p, position := some k
        command := e.command, data := e.digits }) s)).notices))
      (isCollecting (some { e with state := .delivering, digits := [], count := e.digits.length, timer := none })) = .off := hm
  refine (congrArg (fun m => withPos k (lit m _) _) ha).trans ?_
  rfl

end

/-- Settles O25: the position has no entry, so the card state alone follows the reader; `raiseNotice_call_lamp` for a KEY CALL. -/
theorem closedPositionStopsEvents : Obligations.ClosedPositionStopsEvents := by
  intro p u k code data c s hlamp hl hr hc hd ho h1 h2 ha hk
  have he : s.positions[k].entry = none := by
    by_contra h
    have hs := hl.entry k (Option.isSome_iff_ne_none.mpr h)
    rw [hk] at hs
    cases hs
  obtain ⟨role, hrole, hpath⟩ := eventPath_assigned (s := sampled p s) (p := p) (code := code) (data := data) (k := k)
    (hl.congr rfl rfl rfl) ho h1 h2 ha fun h => h.2.2 he
  have hrun : exec (.lineFrameReceived p c) s = .next (gateEvent p u k role code data
      (cardTracked k (s.positions[k].reader = some u) code (sampled p s))) :=
    (exec_event hr hc hd).trans (congrArg _ hpath)
  have hclosed : (cardTracked k (s.positions[k].reader = some u) code (sampled p s)).positions[k].state = .closed :=
    (cardTracked_position k _ code (sampled p s)).1.trans hk
  rw [gateEvent, if_pos hclosed] at hrun
  by_cases hcall : code = 0x20 ∧ data.head? = some 0x3F
  · rw [show (if code = codeKey ∧ data.head? = some keyCall then _ else _) = _ from if_pos hcall] at hrun
    have htrack : cardTracked k (s.positions[k].reader = some u) code (sampled p s) = sampled p s := by
      rw [hcall.1]
      exact (if_neg fun h => absurd h.1 (by decide)).trans (if_neg fun h => absurd h.1 (by decide))
    rw [htrack] at hrun
    have hsl : LampLaw (sampled p s) := hlamp.congr rfl rfl
    have hframe := raiseNotice_frame (sampled p s) (.call k)
    refine ⟨_, hrun, by rw [hframe]; rfl, by rw [hframe]; rfl, fun r => ?_, fun _ => ⟨fun m => mem_raiseNotice _ _ _, ?_, by rw [hframe]⟩,
      fun h => absurd hcall h⟩
    · rw [hframe]
      exact sampled_field (·.outbound) rfl r
    · exact raiseNotice_call_lamp hsl hk
  · rw [show (if code = codeKey ∧ data.head? = some keyCall then _ else _) = _ from if_neg hcall] at hrun
    rw [cardTracked_of_no_entry (s := sampled p s) (s.positions[k].reader = some u) code he] at hrun
    refine ⟨_, hrun, rfl, rfl, fun r => ?_, fun h => absurd h hcall, fun _ => ⟨rfl, ?_, ?_⟩⟩
    · exact (countPort_outbound _ p r _).trans (sampled_field (·.outbound) rfl r)
    · have hp : (sampled p s).ports[p] = { s.ports[p] with asm := .hunting false, gap := none } := ports_withPort _ _ _
      rw [countPort, modPort_self]
      show (bumpPort .gated (sampled p s).ports[p].counters) = _
      rw [hp]
      simp only [bumpPort, bump_eq]
    · exact positions_withPos _ _ _

/-- Settles O27: the next states differ in the entry that `queueProgress_withPos` leaves aside. -/
theorem typedDigitsStayInTheEntry : Obligations.TypedDigitsStayInTheEntry := by
  intro p u k e a b rest c d other s hl hr ho h1 h2 hk he ha hb hd s' hc hc'
  have hsampled : sampled p s' = sampled p s := by
    simp only [sampled, s', ports_withPort, withPort_withPort]
  have hs := exec_captured_key hl hr ho h1 h2 hk he (show (a :: rest).length ≤ 57 by simp; omega) hc
  have hr' : s'.ports[p].state = .ready := by simp only [s', ports_withPort]; exact hr
  have hs' := exec_captured_key (s := s') (hl.congr rfl rfl rfl) hr' ho h1 h2 hk he (show (b :: rest).length ≤ 57 by simp; omega) hc'
  rw [hsampled] at hs'
  set x := sampled p s with hx
  have hex : x.positions[k].entry = some e := he
  have hout : ∀ r : PortId, x.ports[r].outbound = s.ports[r].outbound := sampled_field (·.outbound) rfl
  have same {t t' : State} (ht : t' = t) (hp : t.ports = x.ports) : t' = { t with positions := t'.positions } ∧
      (∀ r : PortId, t.ports[r].outbound = s.ports[r].outbound) ∧ (∀ j : PosId, j ≠ k → t'.positions[j] = t.positions[j]) ∧
      { t'.positions[k] with entry := none } = { t.positions[k] with entry := none } ∧
      t'.positions[k].entry.map (fun x => { x with digits := [] }) = t.positions[k].entry.map (fun x => { x with digits := [] }) := by
    subst ht
    exact ⟨rfl, fun r => by rw [hp]; exact hout r, fun _ _ => rfl, rfl, rfl⟩
  rw [List.head?_cons] at hs hs'
  by_cases hcl : e.state = .collecting
  · rw [takeKey_collecting a hex hcl, collectKey_digit k e ha x] at hs
    rw [takeKey_collecting b hex hcl, collectKey_digit k e hb x] at hs'
    by_cases hmax : e.digits.length < e.max
    · simp only [digitKey, if_pos hmax, keyTaken_eq] at hs hs'
      set y := queueProgress k (e.digits.length + 1) false false x with hy
      have hports : y.ports = x.ports := queueProgress_ports ..
      refine ⟨_, _, hs, hs', rfl, fun r => ?_, fun j hj => ?_, ?_, ?_⟩
      · show y.ports[r].outbound = _
        rw [hports]
        exact hout r
      · rw [positions_withPos_ne hj, positions_withPos_ne hj]
      · rw [positions_withPos, positions_withPos]
      · rw [positions_withPos, positions_withPos]
        rfl
    · have hsame : digitKey k e b x = digitKey k e a x := by simp only [digitKey, if_neg hmax]
      refine ⟨_, _, hs, hs', same hsame ?_⟩
      simp only [digitKey, if_neg hmax, keyTaken, queueProgress_ports]
      rfl
  · rw [takeKey_delivering _ hex hcl] at hs hs'
    exact ⟨_, _, hs, hs', same rfl rfl⟩

/-- Settles O28: by the key, each through the equation of `collectKey` for it. -/
theorem keysOfACollectingEntry : Obligations.KeysOfACollectingEntry := by
  refine ⟨fun p u k e key rest c s hl hr ho h1 h2 hk he hcl hd hc => ?_, fun p u k e data c s hl hr ho h1 h2 hk he hn hd hc => ?_⟩
  · intro b progress
    have hrun : exec (.lineFrameReceived p c) s = .next (collectKey k e key b) :=
      (exec_captured_key hl hr ho h1 h2 hk he (show (key :: rest).length ≤ 57 by simp; omega) hc).trans
        (congrArg _ (takeKey_collecting (s := b) key he hcl))
    have shown (f : Entry) (short full : Bool) (hf : f.interKeyLimit = e.interKeyLimit) :
        keyTaken k f short full b = progress f short full := by
      have hw : modPos k (fun q => { q with
          entry := some { f with timing := .interKey, timer := some (f.interKeyLimit * 1000) } }) b = withPos k { s.positions[k] with
          entry := some { f with timing := .interKey, timer := some (f.interKeyLimit * 1000) } } b := rfl
      have hf : f.interKeyLimit * 1000 = e.interKeyLimit * 1000 := by rw [hf]
      rw [keyTaken, queueProgress_eq, hw, hf]
    refine ⟨fun h hmax => ?_, fun h hmax => ?_, fun h => ?_, fun h hmin => ?_, fun h => ?_, fun h h3 h4 h5 => ?_⟩
    · rw [hrun, collectKey_digit k e h, digitKey, if_pos hmax, shown { e with digits := e.digits ++ [key], count := e.digits.length + 1 } _ _ rfl]
    · rw [hrun, collectKey_digit k e h, digitKey, if_neg (Nat.not_lt.mpr hmax), shown _ _ _ rfl]
    · rw [hrun, h, collectKey_clear, clearKey, shown { e with digits := [], count := 0 } _ _ rfl]
    · rw [hrun, h, collectKey_enter, enterKey, if_pos hmin, shown _ _ _ rfl]
    · rw [hrun, h, collectKey_cancel, endEntry_eq b k e _ _ _ _ he (hl.entry k (by rw [he]; rfl))]
    · rw [hrun, collectKey_other k e h h3 h4 h5]
  · rw [exec_captured_key hl hr ho h1 h2 hk he hd hc]
    rcases hn with hn | rfl
    · rw [takeKey_delivering (s := sampled p s) _ he (by rw [hn]; decide)]
    · rw [List.head?_nil, takeKey_none]

/-- Settles O29: without a card, by `deliver_eq` where the reader serves, and by the outcome of its test otherwise. -/
theorem completeEnterDelivers : Obligations.CompleteEnterDelivers := by
  intro p u k e rest c s hl hr ho h1 h2 hk he hcl hmin hd hc b
  have hse : b.positions[k].state = .session := hl.entry k (by rw [he]; rfl)
  have hrun : exec (.lineFrameReceived p c) s = .next (completeEnter k e b) := by
    rw [exec_captured_key hl hr ho h1 h2 hk he (show (0x0D :: rest).length ≤ 57 by simp; omega) hc, List.head?_cons,
      takeKey_collecting (s := sampled p s) _ he hcl, collectKey_enter, enterKey, if_neg (Nat.not_lt.mpr hmin)]
  have reads {v : UnitId} (hcard : s.positions[k].card = .cardIn) (hv : s.positions[k].reader = some v) :
      completeEnter k e b = enterReader k e v b := by
    have hv' : b.positions[k].reader = some v := hv
    rw [completeEnter, if_neg (show ¬ b.positions[k].card = .noCard by rw [show b.positions[k].card = .cardIn from hcard]; decide), hv']
  refine ⟨fun hcard => ?_, fun v hcard hv hns hports => ?_, fun v r hcard hv hserves => ?_⟩
  · rw [hrun, completeEnter, if_pos (show b.positions[k].card = .noCard from hcard), endEntry_eq b k e _ _ _ _ he hse]
  · intro faulted
    have hid : ∀ q, Active b.routes[v] q b → b.ports[q].identity ≠ none := fun q hq => by
      have hready : b.ports[q].state = .ready := hq.elim (·.2) (·.2.2)
      have hready' : s.ports[q].state = .ready := (sampled_field (·.state) rfl q).symm.trans hready
      have hsome := Option.isSome_iff_ne_none.mp ((hports q).identified hready')
      rwa [show b.ports[q].identity = s.ports[q].identity from sampled_field (·.identity) rfl q]
    have hnot : enterReader k e v b = endEntry k .notDelivered .readerUnavailable 0 [] (raiseFault v (usableTest v b) b) := by
      unfold enterReader
      split
      · rename_i q hq
        exact absurd (serves_of_usableTest b hq (hid q ((activePort_iff b _ q).mp (activePort_of_usableTest hq)))) (hns q)
      · rfl
    refine ⟨raiseFault v (usableTest v b) b, fun hf => ?_, fun hf => raiseFault_of_not_faulted (s := b) hf, ?_⟩
    · rw [raiseFault_of_faulted (s := b) hf.1 hf.2]
      exact raised_of_ne_call (fun _ => Notice.noConfusion) b
    · have hpos := raiseFault_positions v (usableTest v b) b
      rw [hrun, reads hcard hv, hnot, endEntry_eq _ k e _ _ _ _ (by rw [hpos]; exact he) (by rw [hpos]; exact hse)]
  · rw [hrun, reads hcard hv, enterReader, usableTest_usable b hserves]
    exact congrArg _ (deliver_eq e v r hse)

end Sys2Proof.Machine
end

section
/-! SUPPORT. Evaluations and re-evaluations of units (R12), and the replies of an identify. -/

namespace Sys2Proof.Machine

section
variable {s : State}

/-! ### What a re-evaluation leaves alone -/

/-- What an evaluation leaves alone of routes, owners and ports, and which notice it may add (R5, R12). -/
theorem evaluate_kept (u : UnitId) (s : State) : (evaluate u s).ports = s.ports ∧ (evaluate u s).routes = s.routes ∧
    (evaluate u s).owners = s.owners := by
  rw [evaluate_frame]; exact ⟨rfl, rfl, rfl⟩

theorem endEntry_notices (k : PosId) (o : EntryOutcome) (c : EntryCause) (st : Byte) (d : List Byte) (s : State) :
    (endEntry k o c st d s).notices = s.notices := by
  rw [endEntry_frame]

theorem reportUnusable_notices (u : UnitId) (s : State) : (reportUnusable u s).notices = s.notices := by
  unfold reportUnusable
  split
  · unfold abandonCollecting
    split
    · exact endEntry_notices ..
    · rfl
  · rfl

theorem raiseFault_notices (u : UnitId) (r : Usable) (s : State) :
    (raiseFault u r s).notices = s.notices ∨ (raiseFault u r s).notices = (raiseNotice (.unitFault u) s).notices := by
  unfold raiseFault
  split
  · exact .inr rfl
  · exact .inl rfl

/-- An evaluation raises TABLE_FAULT or no notice (R5). -/
theorem mem_evaluate {n : Notice} (u : UnitId) (hn : n ≠ .unitFault u) (s : State) : n ∈ (evaluate u s).notices ↔ n ∈ s.notices := by
  unfold evaluate evaluationEffects
  split
  · rfl
  · rw [reportUnusable_notices]
    rcases raiseFault_notices u (usableTest u s) s with h | h
    · rw [h]
    · rw [h, mem_raiseNotice]
      exact or_iff_right hn

theorem subset_evaluate (u : UnitId) (s : State) : s.notices ⊆ (evaluate u s).notices := by
  intro n hn
  unfold evaluate evaluationEffects
  split
  · exact hn
  · rw [reportUnusable_notices]
    rcases raiseFault_notices u (usableTest u s) s with h | h
    · rw [h]; exact hn
    · rw [h, mem_raiseNotice]; exact .inr hn

/-- One unit of a re-evaluation (R12). -/
def reevaluateUnit (p : PortId) (s : State) (u : UnitId) : State := if namesPort p u s then evaluate u s else s

theorem reevaluate_eq (p : PortId) (s : State) : reevaluate p s = (List.finRange 24).foldl (reevaluateUnit p) s := rfl

/-- What an evaluation of each unit keeps, a re-evaluation of a list of units keeps. -/
theorem foldl_reevaluateUnit {P : State → Prop} (hP : ∀ u t, P t → P (evaluate u t)) (p : PortId) (l : List UnitId) (h : P s) :
    P (l.foldl (reevaluateUnit p) s) := by
  induction l generalizing s with
  | nil => exact h
  | cons u l ih =>
    refine ih ?_
    unfold reevaluateUnit
    split
    · exact hP u s h
    · exact h

theorem reevaluate_kept (p : PortId) (s : State) : (reevaluate p s).ports = s.ports ∧ (reevaluate p s).routes = s.routes ∧
    (reevaluate p s).owners = s.owners := by
  rw [reevaluate_eq]
  refine foldl_reevaluateUnit (P := fun t => t.ports = s.ports ∧ t.routes = s.routes ∧ t.owners = s.owners) (fun u t ⟨h1, h2, h3⟩ => ?_) p _
    ⟨rfl, rfl, rfl⟩
  obtain ⟨g1, g2, g3⟩ := evaluate_kept u t
  exact ⟨g1.trans h1, g2.trans h2, g3.trans h3⟩

theorem mem_reevaluate {n : Notice} (p : PortId) (hn : ∀ u, n ≠ .unitFault u) (s : State) :
    n ∈ (reevaluate p s).notices ↔ n ∈ s.notices := by
  rw [reevaluate_eq]
  exact foldl_reevaluateUnit (P := fun t => n ∈ t.notices ↔ n ∈ s.notices) (fun u t h => (mem_evaluate u (hn u) t).trans h) p _ Iff.rfl

theorem subset_reevaluate (p : PortId) (s : State) : s.notices ⊆ (reevaluate p s).notices := by
  rw [reevaluate_eq]
  exact foldl_reevaluateUnit (P := fun t => s.notices ⊆ t.notices) (fun u t h _ hn => subset_evaluate u t (h hn)) p _ (List.Subset.refl _)

/-! ### A re-evaluation as the statements give it -/

/-- Every READY port holds the identity of its device (R22). -/
def ReadyIdentified (s : State) : Prop := ∀ r : PortId, s.ports[r].state = .ready → s.ports[r].identity ≠ none

theorem ReadyIdentified.active (h : ReadyIdentified s) (e : RouteEntry) : ∀ r, Active e r s → s.ports[r].identity ≠ none :=
  fun r ha => h r (ha.elim (·.2) (·.2.2))

theorem ReadyIdentified.congr {t : State} (h : ReadyIdentified s) (hp : t.ports = s.ports) : ReadyIdentified t := by
  unfold ReadyIdentified
  rw [hp]
  exact h

theorem PortsLaw.readyIdentified (h : PortsLaw s) : ReadyIdentified s := fun r hr => Option.isSome_iff_ne_none.mp ((h r).identified hr)

theorem positionLaw_evaluate (u : UnitId) (h : PositionLaw s) : PositionLaw (evaluate u s) :=
  (keeps_evaluate (A := True) (n := 0) u).position h

theorem namesPort_iff (p : PortId) (u : UnitId) (s : State) :
    namesPort p u s = true ↔ s.routes[u].valid = true ∧ (NamesPort s.routes[u] p ∨ s.owners[p] = some u) := by
  simp only [namesPort, NamesPort, Bool.and_eq_true, Bool.or_eq_true, decide_eq_true_eq]

theorem reevaluated_foldl (p : PortId) (l : List UnitId) (hl : PositionLaw s) (hi : ReadyIdentified s) :
    Reevaluated p l s (l.foldl (reevaluateUnit p) s) := by
  induction l generalizing s with
  | nil => exact rfl
  | cons u l ih =>
    by_cases h : namesPort p u s = true
    · have hu : reevaluateUnit p s u = evaluate u s := if_pos h
      refine ⟨evaluate u s, fun _ => evaluated_evaluate u hl (hi.active _), fun hn => absurd ((namesPort_iff p u s).mp h) hn, ?_⟩
      rw [List.foldl_cons, hu]
      exact ih (positionLaw_evaluate u hl) (hi.congr (evaluate_kept u s).1)
    · have hu : reevaluateUnit p s u = s := if_neg h
      refine ⟨s, fun hn => absurd ((namesPort_iff p u s).mpr hn) h, fun _ => rfl, ?_⟩
      rw [List.foldl_cons, hu]
      exact ih hl hi

theorem reevaluated_reevaluate (p : PortId) (hl : PositionLaw s) (hi : ReadyIdentified s) :
    Reevaluated p (List.finRange 24) s (reevaluate p s) := reevaluated_foldl p _ hl hi

/-! ### Replies of an identify (R37 to R39) -/

theorem deviceClassOf_deviceClassCode (c : DeviceClass) : deviceClassOf (deviceClassCode c) = some c := by cases c <;> rfl

theorem identityOf_usable (good : Bool) (n : Nat) (kind seq : Byte) (dc : DeviceClass) (m1 m0 v1 v0 : Byte) (extra : List Byte) :
    identityOf ⟨good, n, kind, seq, 0, deviceClassCode dc :: m1 :: m0 :: v1 :: v0 :: extra⟩ = some ⟨dc, m1 ++ m0, v1 ++ v0⟩ := by
  simp only [identityOf, ↓reduceIte, deviceClassOf_deviceClassCode, Option.map_some, halfOf]

theorem deviceClassOf_eq_none {b : Byte} (h : ¬ (b = 1 ∨ b = 2 ∨ b = 3)) : deviceClassOf b = none := by
  rw [not_or, not_or] at h
  rw [deviceClassOf, if_neg h.1, if_neg h.2.1, if_neg h.2.2]

theorem identityOf_unusable (good : Bool) (n : Nat) (kind seq : Byte) {code : Byte} {data : List Byte}
    (h : ¬ (code = 0 ∧ 5 ≤ data.length ∧ (data.head? = some 1 ∨ data.head? = some 2 ∨ data.head? = some 3))) :
    identityOf ⟨good, n, kind, seq, code, data⟩ = none := by
  unfold identityOf
  dsimp only
  split
  · rename_i c m1 m0 v1 v0 extra
    by_cases hc : code = 0
    · rw [if_pos hc, deviceClassOf_eq_none fun g => h ⟨hc, by simp, by simpa using g⟩, Option.map_none]
    · rw [if_neg hc]
  · rfl

theorem takeIdentifyReply_usable {p : PortId} {d : Identify} {f : LineFrame} {i : Identity} (hd : s.ports[p].identify = some d)
    (hs : f.seq = d.seq) (hi : identityOf f = some i) : takeIdentifyReply p f s = enterReady p i s := by
  simp only [takeIdentifyReply, hd, hi]
  exact if_neg (not_not_intro hs.symm)

theorem takeIdentifyReply_unusable {p : PortId} {d : Identify} {f : LineFrame} (hd : s.ports[p].identify = some d)
    (hs : f.seq = d.seq) (hi : identityOf f = none) : takeIdentifyReply p f s =
      if d.attempt < attemptsAllowed s.ports[p].config then modPort p (retryIdentify d) s else enterFault p .noIdentity s := by
  simp only [takeIdentifyReply, hd, hi]
  exact if_neg (not_not_intro hs.symm)

theorem ownerConflict_iff (p : PortId) (i : Identity) (s : State) : ownerConflict p i s = true ↔
    ∃ u : UnitId, s.owners[p] = some u ∧ (s.routes[u].portsCheck = .good ∧ s.routes[u].classCheck = .good) ∧
      ¬ Agrees s.routes[u].expected i.cls := by
  unfold ownerConflict
  cases s.owners[p] with
  | none => simp
  | some u =>
    simp only [Bool.and_eq_true, Bool.not_eq_true', routeFaulted_eq_false, conflicts_some, Option.some.injEq, exists_eq_left']

end

/-- Settles O23: `enterReady` with its notices and the re-evaluation for a usable reply, the retry or the fault for an unusable one. -/
theorem identifyReplyMakesReady : Obligations.IdentifyReplyMakesReady := by
  intro p d c s hr hd
  have hd' : (sampled p s).ports[p].identify = some d := (sampled_field (·.identify) rfl p).trans hd
  refine ⟨fun dc m1 m0 v1 v0 extra h0 h1 h2 hc => ?_, fun seq code data h0 h1 h2 hc => ?_⟩
  · intro entered sound mismatch
    set i : Identity := ⟨dc, m1 ++ m0, v1 ++ v0⟩ with hi
    have hrun : exec (.lineFrameReceived p c) s = .next (enterReady p i (sampled p s)) := by
      have hlen : (deviceClassCode dc :: m1 :: m0 :: v1 :: v0 :: extra).length = extra.length + 5 := rfl
      have hrec := receive_identify s hr hc h0 (by omega) h2
      exact congrArg Host.Outcome.next (hrec.trans (takeIdentifyReply_usable hd' rfl (identityOf_usable _ _ _ _ dc m1 m0 v1 v0 extra)))
    have hmodified : modPort p (fun q => { q with state := .ready, identity := some i, failures := 0, identify := none, tx := .idle })
        (sampled p s) = withPort p entered s := by
      rw [modPort_eq_withPort, sampled, ports_withPort, withPort_withPort]
    have hconflict : ownerConflict p i (sampled p s) = true ↔ mismatch := ownerConflict_iff p i (sampled p s)
    set x := raiseNotice (.portReady p) (withPort p entered s) with hx
    set y := (if ownerConflict p i (sampled p s) then raiseNotice (.classMismatch p) x else x) with hy
    have hentered : enterReady p i (sampled p s) = reevaluate p y := by
      simp only [enterReady]
      rw [hmodified]
    have hxr : Raised (.portReady p) (withPort p entered s) x := raised_of_ne_call (fun _ => Notice.noConfusion) _
    have hyr : mismatch → Raised (.classMismatch p) x y := fun h => by
      rw [hy, if_pos (hconflict.mpr h)]
      exact raised_of_ne_call (fun _ => Notice.noConfusion) _
    have hyx : ¬ mismatch → y = x := fun h => if_neg fun g => h (hconflict.mp g)
    have hmem (n : Notice) : n ∈ y.notices ↔ (n = .classMismatch p ∧ mismatch) ∨ n = .portReady p ∨ n ∈ s.notices := by
      by_cases h : mismatch
      · rw [(hyr h).2.1, hxr.2.1, and_iff_left h]; rfl
      · rw [hyx h, hxr.2.1, or_iff_right (a := n = .classMismatch p ∧ mismatch) fun g => h g.2]; rfl
    have hyf : y.ports = (withPort p entered s).ports ∧ y.positions = s.positions ∧ y.sessionLimit = s.sessionLimit ∧
        y.nextSession = s.nextSession := by
      by_cases h : mismatch
      · rw [(hyr h).1, hxr.1]; exact ⟨rfl, rfl, rfl, rfl⟩
      · rw [hyx h, hxr.1]; exact ⟨rfl, rfl, rfl, rfl⟩
    obtain ⟨hports, hpos, hlimit, hnext⟩ := hyf
    have hall : (reevaluate p y).ports = (withPort p entered s).ports := (reevaluate_kept p y).1.trans hports
    refine ⟨_, hrun, ?_⟩
    rw [hentered]
    refine ⟨by rw [hall, ports_withPort], fun r hrp => by rw [hall, ports_withPort_ne hrp],
      subset_reevaluate p y ((hmem _).mpr (.inr (.inl rfl))), fun u ho hp hcl ha => ?_, fun n hn => ?_, fun r => ?_, fun hpl hl => ?_⟩
    · exact subset_reevaluate p y ((hmem _).mpr (.inl ⟨rfl, u, ho, ⟨hp, hcl⟩, ha⟩))
    · exact subset_reevaluate p y ((hmem _).mpr (.inr (.inr hn)))
    · rw [mem_reevaluate p (fun _ => Notice.noConfusion), hmem]
      simp only [Notice.classMismatch.injEq, reduceCtorEq, false_or]
      exact or_comm
    · refine ⟨x, y, hxr, hyr, hyx, reevaluated_reevaluate p (hl.congr hpos hlimit hnext) fun r hready => ?_⟩
      rw [hports] at hready ⊢
      by_cases hrp : r = p
      · rw [hrp, ports_withPort]; exact Option.some_ne_none _
      · rw [ports_withPort_ne hrp] at hready ⊢
        exact hpl.readyIdentified r hready
  · intro usable q more
    have hrun : exec (.lineFrameReceived p c) s =
        .next (takeIdentifyReply p ⟨true, data.length + 3, lineReply, seq, code, data⟩ (sampled p s)) :=
      congrArg _ (receive_identify s hr hc h0 h1 h2)
    have hq : (sampled p s).ports[p] = q := ports_withPort _ _ _
    refine ⟨fun hseq hu => ?_, fun hseq => ?_⟩
    · have hid := identityOf_unusable true (data.length + 3) lineReply seq hu
      have htake : takeIdentifyReply p ⟨true, data.length + 3, lineReply, seq, code, data⟩ (sampled p s) =
          if d.attempt < attemptsAllowed q.config then modPort p (retryIdentify d) (sampled p s)
          else enterFault p .noIdentity (sampled p s) := by
        rw [takeIdentifyReply_unusable hd' hseq hid, hq]
      have hretry : modPort p (retryIdentify d) (sampled p s) = withPort p (retryIdentify d q) s := by
        rw [modPort_eq_withPort, hq, sampled, withPort_withPort]
      refine ⟨fun hm ht => ?_, fun hm ht => ?_, fun hm => ?_⟩
      · rw [hrun, htake, if_pos (show d.attempt < attemptsAllowed q.config from hm), hretry, retryIdentify_idle ht]
      · rw [hrun, htake, if_pos (show d.attempt < attemptsAllowed q.config from hm), hretry, retryIdentify_busy ht]
      · rw [hrun, htake, if_neg (show ¬ d.attempt < attemptsAllowed q.config from hm)]
        have hn : (sampled p s).ports[p].state ≠ .ready := by rw [hq]; exact fun h => by rw [show s.ports[p].state = .ready from h] at hr; cases hr
        refine ⟨_, rfl, ?_⟩
        rw [enterFault_of_not_ready _ hn, hq, sampled, withPort_withPort,
          show (q.supply && decide (FaultCause.noIdentity ≠ .overcurrent)) = q.supply from Bool.and_true _]
        exact raised_portFault p _
    · rw [hrun]
      refine congrArg _ ?_
      simp only [takeIdentifyReply, hd']
      rw [if_pos (show d.seq ≠ seq from fun h => hseq h.symm), sampled, countPort_withPort]
      simp only [bumpPort, bump_eq]
      rfl

end Sys2Proof.Machine
end

section
/-! SUPPORT. The ends of the exchanges of a port: what one end and a run of ends change. -/

namespace Sys2Proof.Machine

section
variable {s : State}

/-! ### One end, but for the lamp of an entry's position -/

/-- The end of an entry changes what `entryEnded` gives; only the lamp depends on the position's state (R146). -/
theorem endEntry_but_lamps {k : PosId} {e : Entry} (o : EntryOutcome) (c : EntryCause) (st : Byte) (d : List Byte)
    (he : s.positions[k].entry = some e) : endEntry k o c st d s =
      { entryEnded k e o c st d s with positions := (endEntry k o c st d s).positions } := by
  simp only [endEntry, he, refreshLamp_eq]
  split
  · rename_i h
    simp only [entryEnded, withPos, modPos, placeReserved, removeProgress, freeRecord, modRec, h, ↓reduceIte]
    rfl
  · rename_i h
    simp only [entryEnded, withPos, modPos, placeReserved, removeProgress, h, ↓reduceIte]

theorem deliveryEnd_but_lamps (k : PosId) (st : EndStatus) (status : Byte) (data : List Byte) (s : State) :
    endEntry k (deliveryEnd st status data).1 (deliveryEnd st status data).2.1 (deliveryEnd st status data).2.2.1
      (deliveryEnd st status data).2.2.2 s =
    { deliveryEnded k st status data s with
      positions := (endEntry k (deliveryEnd st status data).1 (deliveryEnd st status data).2.1 (deliveryEnd st status data).2.2.1
        (deliveryEnd st status data).2.2.2 s).positions } := by
  cases he : s.positions[k].entry with
  | none =>
    have h1 : deliveryEnded k st status data s = s := by unfold deliveryEnded; rw [he]
    rw [h1]; unfold endEntry; rw [he]
  | some e =>
    conv_lhs => rw [endEntry_but_lamps _ _ _ _ he]
    unfold deliveryEnded
    rw [he]
    cases st <;> rfl

/-- The end of an exchange changes what `ended` gives; only the lamp of its entry's position depends on that position's state
(R67, R68, R70, R145). -/
theorem endExchange_but_lamps {i : RecId} {p : PortId} (st : EndStatus) (status : Byte) (data : List Byte) (hp : s.pool[i].port = some p) :
    endExchange i st status data s =
      { ended p i st status data s with positions := (endExchange i st status data s).positions } := by
  have hf := groupTold_frame (portTold p i st s) s.pool[i].group
  simp only [endExchange, hp, modRec, reportToPort_eq, reportToGroup_eq, ended]
  generalize groupTold s.pool[i].group (portTold p i st s) = b at hf ⊢
  have hh : b.line = s.line := by rw [hf]; rfl
  split
  · simp only [endDelivery, freeRecord, modRec, Fin.getElem_fin, Vector.getElem_set_self, Vector.set_set, entryTold]
    cases s.pool[i.val].position with
    | none => rfl
    | some k => exact deliveryEnd_but_lamps k st status data _
  · simp only [holdReply, endQueuedFor_eq, endReply, modPort, modRec, withPort, hh, holdMs_eq,
      Fin.getElem_fin, Vector.getElem_set_self, Vector.set_set]
    rfl

/-- The end of a workstation exchange (R67, R68). -/
theorem endExchange_workstation {i : RecId} {p : PortId} (st : EndStatus) (status : Byte) (data : List Byte)
    (hp : s.pool[i].port = some p) (ho : s.pool[i].origin ≠ some .delivery) :
    endExchange i st status data s = ended p i st status data s := by
  have hf := groupTold_frame (portTold p i st s) s.pool[i].group
  simp only [endExchange, hp, modRec, reportToPort_eq, reportToGroup_eq, ended]
  generalize groupTold s.pool[i].group (portTold p i st s) = b at hf ⊢
  have hh : b.line = s.line := by rw [hf]; rfl
  rw [if_neg ho, if_neg ho]
  simp only [holdReply, endQueuedFor_eq, endReply, modPort, modRec, withPort, hh, holdMs_eq,
    Fin.getElem_fin, Vector.getElem_set_self, Vector.set_set]
  rfl

/-! ### What one end changes -/

theorem deliveryEnded_frame (k : PosId) (st : EndStatus) (status : Byte) (data : List Byte) (s : State) : deliveryEnded k st status data s =
    { s with
      control := (deliveryEnded k st status data s).control, reservations := (deliveryEnded k st status data s).reservations
      pool := (deliveryEnded k st status data s).pool, positions := (deliveryEnded k st status data s).positions } := by
  unfold deliveryEnded
  split <;> rfl

theorem entryTold_frame (position : Option PosId) (st : EndStatus) (status : Byte) (data : List Byte) (s : State) :
    entryTold position st status data s =
      { s with
        control := (entryTold position st status data s).control, reservations := (entryTold position st status data s).reservations
        pool := (entryTold position st status data s).pool, positions := (entryTold position st status data s).positions } := by
  cases position with
  | none => rfl
  | some k => exact deliveryEnded_frame k st status data s

theorem pool_set_self (i : RecId) (x : Exchange) (v : Vector Exchange 24) : (v.set i x)[i] = x := by
  simp only [Fin.getElem_fin, Vector.getElem_set_self]

theorem pool_set_ne {i j : RecId} (h : j ≠ i) (x : Exchange) (v : Vector Exchange 24) : (v.set i x)[j] = v[j] := by
  have hv : i.val ≠ j.val := fun e => h (Fin.ext e.symm)
  simp only [Fin.getElem_fin, Vector.getElem_set_ne _ _ hv]

/-- The end of an entry frees at most its RESERVED record (R146). -/
theorem entryEnded_pool (k : PosId) (e : Entry) (o : EntryOutcome) (c : EntryCause) (st : Byte) (d : List Byte) (s : State) (j : RecId) :
    (entryEnded k e o c st d s).pool[j] = s.pool[j] ∨
      (s.pool[j].state = .reserved ∧ (entryEnded k e o c st d s).pool[j] = freeExchange) := by
  have hp : (entryEnded k e o c st d s).pool =
      if s.pool[e.record].state = .reserved then s.pool.set e.record freeExchange else s.pool := rfl
  rw [hp]
  split
  · rename_i h
    by_cases hj : j = e.record
    · rw [hj, pool_set_self]; exact .inr ⟨h, rfl⟩
    · rw [pool_set_ne hj]; exact .inl rfl
  · exact .inl rfl

theorem entryTold_pool (position : Option PosId) (st : EndStatus) (status : Byte) (data : List Byte) (s : State) (j : RecId) :
    (entryTold position st status data s).pool[j] = s.pool[j] ∨
      (s.pool[j].state = .reserved ∧ (entryTold position st status data s).pool[j] = freeExchange) := by
  cases position with
  | none => exact .inl rfl
  | some k =>
    show (deliveryEnded k st status data s).pool[j] = s.pool[j] ∨ _ ∧ (deliveryEnded k st status data s).pool[j] = freeExchange
    unfold deliveryEnded
    split
    · exact .inl rfl
    all_goals exact entryEnded_pool k _ _ _ _ _ s j

theorem ended_delivery {i : RecId} {p : PortId} (st : EndStatus) (status : Byte) (data : List Byte) (h : s.pool[i].origin = some .delivery) :
    ended p i st status data s = entryTold s.pool[i].position st status data
      { groupTold s.pool[i].group (portTold p i st s) with pool := s.pool.set i freeExchange } := if_pos h

theorem ended_workstation {i : RecId} {p : PortId} (st : EndStatus) (status : Byte) (data : List Byte) (h : s.pool[i].origin ≠ some .delivery) :
    ended p i st status data s =
      let b := groupTold s.pool[i].group (portTold p i st s)
      { withPort p { b.ports[p] with outbound := b.ports[p].outbound ++
          [endReply i s.pool[i] (s.groupRecords.any fun g => decide (s.pool[i].group = some g.tag) && g.endQueued) st status data] } b with
        pool := s.pool.set i { s.pool[i] with
          state := .held, endStatus := some st, deviceStatus := status, replyData := data, deadline := none
          hold := some (holdTime s.line.hold) } } := if_neg h

/-- A delivery's record is freed at its end (R70). -/
theorem ended_pool_delivery {i : RecId} (p : PortId) (st : EndStatus) (status : Byte) (data : List Byte)
    (h : s.pool[i].origin = some .delivery) : (ended p i st status data s).pool[i] = freeExchange := by
  rw [ended_delivery st status data h]
  rcases entryTold_pool s.pool[i].position st status data
    { groupTold s.pool[i].group (portTold p i st s) with pool := s.pool.set i freeExchange } i with e | ⟨-, e⟩
  · rw [e]; exact pool_set_self ..
  · exact e

/-- A workstation exchange is HELD at its end (R68). -/
theorem ended_pool_workstation {i : RecId} (p : PortId) (st : EndStatus) (status : Byte) (data : List Byte)
    (h : s.pool[i].origin ≠ some .delivery) : (ended p i st status data s).pool[i] = { s.pool[i] with
      state := .held, endStatus := some st, deviceStatus := status, replyData := data, deadline := none
      hold := some (holdTime s.line.hold) } := by
  rw [ended_workstation st status data h]
  exact pool_set_self ..

theorem ended_pool_ne {i j : RecId} (p : PortId) (st : EndStatus) (status : Byte) (data : List Byte) (hj : j ≠ i) :
    (ended p i st status data s).pool[j] = s.pool[j] ∨
      (s.pool[j].state = .reserved ∧ (ended p i st status data s).pool[j] = freeExchange) := by
  by_cases h : s.pool[i].origin = some .delivery
  · rw [ended_delivery st status data h]
    have := entryTold_pool s.pool[i].position st status data
      { groupTold s.pool[i].group (portTold p i st s) with pool := s.pool.set i freeExchange } j
    dsimp only at this
    rwa [pool_set_ne hj] at this
  · rw [ended_workstation st status data h]
    exact .inl (pool_set_ne hj ..)

/-- Of the ports an end changes only its own: the outbound list at its tail, the failure count and the frame held (R40, R66, R68). -/
theorem ended_ports_told {i : RecId} (p : PortId) (st : EndStatus) (status : Byte) (data : List Byte) :
    ∃ out, (ended p i st status data s).ports = (withPort p { s.ports[p] with
      outbound := s.ports[p].outbound ++ out, failures := (portTold p i st s).ports[p].failures
      tx := releaseTx i s.ports[p].tx } s).ports := by
  have hg := groupTold_frame (portTold p i st s) s.pool[i].group
  by_cases h : s.pool[i].origin = some .delivery
  · refine ⟨[], ?_⟩
    rw [ended_delivery st status data h, entryTold_frame, hg]
    simp only [List.append_nil, portTold, ports_withPort]
  · refine ⟨[endReply i s.pool[i] (s.groupRecords.any fun g => decide (s.pool[i].group = some g.tag) && g.endQueued) st status data],
      ?_⟩
    rw [ended_workstation st status data h, hg]
    simp only [portTold, ports_withPort]
    simp only [withPort, Vector.set_set]

theorem ended_ports {i : RecId} (p : PortId) (st : EndStatus) (status : Byte) (data : List Byte) :
    ∃ out n, (ended p i st status data s).ports = (withPort p { s.ports[p] with
      outbound := s.ports[p].outbound ++ out, failures := n, tx := releaseTx i s.ports[p].tx } s).ports := by
  obtain ⟨out, h⟩ := ended_ports_told (s := s) (i := i) p st status data
  exact ⟨out, _, h⟩

theorem ended_frame (p : PortId) (i : RecId) (st : EndStatus) (status : Byte) (data : List Byte) (s : State) : ended p i st status data s =
    { s with
      control := (ended p i st status data s).control, reservations := (ended p i st status data s).reservations
      groupRecords := (ended p i st status data s).groupRecords, ports := (ended p i st status data s).ports
      pool := (ended p i st status data s).pool, positions := (ended p i st status data s).positions } := by
  have hg := groupTold_frame (portTold p i st s) s.pool[i].group
  by_cases h : s.pool[i].origin = some .delivery
  · rw [ended_delivery st status data h, entryTold_frame, hg]
    rfl
  · rw [ended_workstation st status data h, hg]
    rfl

end

end Sys2Proof.Machine
end

section
/-! SUPPORT. Runs of ends: what they change of records, ports, entries and the control queue. -/

namespace Sys2Proof.Machine

section
variable {s : State}

/-! ### A run of ends on one port -/

/-- The records whose ends are reported can be ended: they are of the port, and not set aside. -/
def Endable (p : PortId) (l : List RecId) (s : State) : Prop := ∀ i ∈ l, s.pool[i].port = some p ∧ s.pool[i].state ≠ .reserved

/-- A run of ends on port `p`, as the exchange engine makes it (R72, R73). -/
def endAll (st : EndStatus) (l : List RecId) (s : State) : State := l.foldl (fun t i => endExchange i st 0 [] t) s

theorem endExchange_pool_ne {i j : RecId} {p : PortId} (st : EndStatus) (hp : s.pool[i].port = some p) (hj : j ≠ i)
    (hr : s.pool[j].state ≠ .reserved) : (endExchange i st 0 [] s).pool[j] = s.pool[j] := by
  rw [endExchange_but_lamps st 0 [] hp]
  exact (ended_pool_ne p st 0 [] hj).resolve_right fun h => hr h.1

theorem Endable.tail {p : PortId} {i : RecId} {l : List RecId} (st : EndStatus) (h : Endable p (i :: l) s) (hn : (i :: l).Nodup) :
    Endable p l (endExchange i st 0 [] s) := by
  obtain ⟨hi, hn⟩ := List.nodup_cons.mp hn
  intro j hj
  obtain ⟨hp, hr⟩ := h j (List.mem_cons_of_mem _ hj)
  rw [endExchange_pool_ne st (h i List.mem_cons_self).1 (fun e => hi (e ▸ hj)) hr]
  exact ⟨hp, hr⟩

/-- What a run of ends without a reply makes of a state whose port sends nothing. -/
structure EndsMade (p : PortId) (st : EndStatus) (l : List RecId) (s t : State) : Prop where
  ports : ∃ out n, t.ports =
    (withPort p { s.ports[p] with outbound := s.ports[p].outbound ++ out, failures := n } s).ports
  notices : t.notices = s.notices
  owners : t.owners = s.owners
  routes : t.routes = s.routes
  held : ∀ i ∈ l, s.pool[i].origin ≠ some .delivery → t.pool[i].state = .held ∧ t.pool[i].endStatus = some st
  freed : ∀ i ∈ l, s.pool[i].origin = some .delivery → t.pool[i] = freeExchange
  rest : ∀ i ∉ l, s.pool[i].state ≠ .reserved → t.pool[i] = s.pool[i]

theorem releaseTx_idle (i : RecId) : releaseTx i .idle = .idle := rfl

theorem endsMade_nil (p : PortId) (st : EndStatus) (s : State) : EndsMade p st [] s s :=
  ⟨⟨[], s.ports[p].failures, by rw [List.append_nil]; exact congrArg State.ports (withPort_same p s).symm⟩,
    rfl, rfl, rfl, nofun, nofun, fun _ _ _ => rfl⟩

theorem endsMade_endExchange {p : PortId} {i : RecId} (st : EndStatus) (hp : s.pool[i].port = some p) (ht : s.ports[p].tx = .idle) :
    EndsMade p st [i] s (endExchange i st 0 [] s) := by
  obtain ⟨out, n, hports⟩ := ended_ports (s := s) (i := i) p st 0 []
  rw [ht, releaseTx_idle, ← ht] at hports
  rw [endExchange_but_lamps st 0 [] hp]
  refine ⟨⟨out, n, hports⟩, by rw [ended_frame], by rw [ended_frame], by rw [ended_frame], fun j hj ho => ?_, fun j hj ho => ?_, fun j hj hr => ?_⟩
  · rw [List.mem_singleton.mp hj] at ho ⊢
    have hx := ended_pool_workstation p st 0 [] ho
    exact ⟨congrArg Exchange.state hx, congrArg Exchange.endStatus hx⟩
  · rw [List.mem_singleton.mp hj] at ho ⊢
    exact ended_pool_delivery p st 0 [] ho
  · exact (ended_pool_ne p st 0 [] fun e => hj (List.mem_singleton.mpr e)).resolve_right fun h => hr h.1

/-- Two runs of ends, of records that the first has left alone. -/
theorem EndsMade.append {p : PortId} {st : EndStatus} {l m : List RecId} {t u : State} (h : EndsMade p st l s t) (g : EndsMade p st m t u)
    (hd : ∀ i ∈ m, i ∉ l) (hr : ∀ i ∈ m, s.pool[i].state ≠ .reserved) : EndsMade p st (l ++ m) s u := by
  obtain ⟨out, n, hports⟩ := h.ports
  obtain ⟨out', n', gports⟩ := g.ports
  have hp : t.ports[p] = { s.ports[p] with outbound := s.ports[p].outbound ++ out, failures := n } := by rw [hports, ports_withPort]
  have same (i : RecId) (hi : i ∈ m) : t.pool[i] = s.pool[i] := h.rest i (hd i hi) (hr i hi)
  have after (i : RecId) (hi : i ∈ l) : t.pool[i].state ≠ .reserved → u.pool[i] = t.pool[i] := g.rest i fun hm => hd i hm hi
  refine ⟨⟨out ++ out', n', ?_⟩, g.notices.trans h.notices, g.owners.trans h.owners, g.routes.trans h.routes, fun i hi ho => ?_,
    fun i hi ho => ?_, fun i hi hri => ?_⟩
  · rw [gports, hp]
    simp only [withPort, hports, Vector.set_set, List.append_assoc]
  · rcases List.mem_append.mp hi with hi | hi
    · obtain ⟨h1, h2⟩ := h.held i hi ho
      rw [after i hi (by rw [h1]; decide)]
      exact ⟨h1, h2⟩
    · exact g.held i hi (by rw [same i hi]; exact ho)
  · rcases List.mem_append.mp hi with hi | hi
    · have hf := h.freed i hi ho
      rw [after i hi (by rw [hf]; decide), hf]
    · exact g.freed i hi (by rw [same i hi]; exact ho)
  · rw [List.mem_append, not_or] at hi
    have hs := h.rest i hi.1 hri
    rw [g.rest i hi.2 (by rw [hs]; exact hri), hs]

theorem endsMade_endAll {p : PortId} (st : EndStatus) {l : List RecId} (hn : l.Nodup) (h : Endable p l s) (ht : s.ports[p].tx = .idle) :
    EndsMade p st l s (endAll st l s) := by
  induction l generalizing s with
  | nil => exact endsMade_nil p st s
  | cons i l ih =>
    obtain ⟨hi, hn'⟩ := List.nodup_cons.mp hn
    have hone := endsMade_endExchange st (h i List.mem_cons_self).1 ht
    obtain ⟨out, n, hports⟩ := hone.ports
    have hidle : (endExchange i st 0 [] s).ports[p].tx = .idle := by rw [hports, ports_withPort]; exact ht
    exact hone.append (ih hn' (h.tail st hn) hidle) (fun j hj e => hi (List.mem_singleton.mp e ▸ hj))
      fun j hj => (h j (List.mem_cons_of_mem _ hj)).2

/-- In a state of the positions' law a run of ends is the one the statements speak of (R67). -/
theorem endAll_eq {p : PortId} (st : EndStatus) {l : List RecId} (hn : l.Nodup) (h : Endable p l s) (hl : PositionLaw s) :
    endAll st l s = endedAll p st l s := by
  induction l generalizing s with
  | nil => rfl
  | cons i l ih =>
    have hi := endExchange_eq s (i := i) st 0 [] hl (h i List.mem_cons_self).1
    have hrest := ih (List.nodup_cons.mp hn).2 (h.tail st hn) ((keeps_endExchange (A := True) (n := 0) i st 0 []).position hl)
    rw [hi] at hrest
    show endAll st l (endExchange i st 0 [] s) = endedAll p st l (ended p i st 0 [] s)
    rw [hi, hrest]

theorem positionLaw_endAll (st : EndStatus) (l : List RecId) (hl : PositionLaw s) : PositionLaw (endAll st l s) :=
  (Keeps.foldl (A := True) (n := 0) (fun _ i => keeps_endExchange i st 0 []) l s).position hl

/-! ### Slots given up (R146, R158) -/

/-- What `f` makes of a state is the same whatever slots are reserved, and it gives up the same number of them. -/
def Spends (f : State → State) (s : State) : Prop := ∃ d, ∀ r, f (withReservations r s) = withReservations (r - d) (f s)

theorem Spends.of_commute {f : State → State} (h : ∀ r, f (withReservations r s) = withReservations r (f s)) : Spends f s :=
  ⟨0, fun r => by rw [h, Nat.sub_zero]⟩

theorem Spends.comp {f g : State → State} (hf : Spends f s) (hg : Spends g (f s)) : Spends (fun t => g (f t)) s := by
  obtain ⟨d, hd⟩ := hf
  obtain ⟨e, he⟩ := hg
  exact ⟨d + e, fun r => by dsimp only; rw [hd, he, Nat.sub_sub]⟩

theorem Spends.foldl {α : Type} {f : State → α → State} (hf : ∀ a t, Spends (fun u => f u a) t) (l : List α) (s : State) :
    Spends (fun u => l.foldl f u) s := by
  induction l generalizing s with
  | nil => exact .of_commute fun _ => rfl
  | cons a l ih => exact (hf a s).comp (ih (f s a))

/-- A reply is the same whether the slots given up before it were counted with its own reservation or without it (R158). -/
theorem Spends.replied {f : State → State} (h : Spends f s) (tag : Byte) (result : List Byte) :
    replied tag (f (reserveSlot s), .ok result) = answered tag .ok result (f s) := by
  obtain ⟨d, hd⟩ := h
  have hs : (f s).reservations = s.reservations - d := by
    conv_lhs => rw [show f s = withReservations (s.reservations - d) (f s) from hd s.reservations]
    rfl
  have hr : s.reservations + 1 - d - 1 = (f s).reservations := by omega
  rw [show reserveSlot s = withReservations (s.reservations + 1) s from rfl, hd]
  simp only [Machine.replied, answerFrame, placeReserved, withReservations, hr]
  rfl

theorem spends_memberEnded (tag : Byte) (s : State) : Spends (memberEnded tag) s := by
  cases h : s.groupRecords.find? (fun g => decide (g.tag = tag)) with
  | none =>
    refine .of_commute fun r => ?_
    have h' : (withReservations r s).groupRecords.find? (fun g => decide (g.tag = tag)) = none := h
    simp only [memberEnded, h, h']
  | some g =>
    have h' (r : Nat) : (withReservations r s).groupRecords.find? (fun g => decide (g.tag = tag)) = some g := h
    cases ho : groupTest { g with answered := g.answered + 1 } with
    | none => exact .of_commute fun r => by simp only [memberEnded, h, h', placeGroupEnd, ho]; rfl
    | some o => exact ⟨1, fun r => by simp only [memberEnded, h, h', placeGroupEnd, ho]; rfl⟩

theorem spends_reportToGroup (g : Option Byte) (s : State) : Spends (reportToGroup g) s := by
  cases g with
  | none => exact .of_commute fun _ => rfl
  | some tag => exact spends_memberEnded tag s

theorem spends_endDelivery (i : RecId) (st : EndStatus) (status : Byte) (data : List Byte) (s : State) :
    Spends (endDelivery i st status data) s := by
  cases h : s.pool[i].position with
  | none =>
    have h' (r : Nat) : (withReservations r s).pool[i].position = none := h
    exact .of_commute fun r => by simp only [endDelivery, h, h']; rfl
  | some k =>
    have h' (r : Nat) : (withReservations r s).pool[i].position = some k := h
    have hf (r : Nat) : freeRecord i (withReservations r s) = withReservations r (freeRecord i s) := rfl
    unfold Spends
    simp only [endDelivery, h, h', hf]
    exact endEntry_withReservations k _ _ _ _ (freeRecord i s)

theorem spends_endExchange (i : RecId) (st : EndStatus) (status : Byte) (data : List Byte) (s : State) :
    Spends (endExchange i st status data) s := by
  cases hp : s.pool[i].port with
  | none =>
    have hp' (r : Nat) : (withReservations r s).pool[i].port = none := hp
    exact .of_commute fun r => by simp only [endExchange, hp, hp']
  | some p =>
    have hpool (r : Nat) : (withReservations r s).pool = s.pool := rfl
    set a := reportToPort p i st (modRec i (fun r =>
      { r with endStatus := some st, deviceStatus := status, replyData := data, deadline := none }) s) with ha
    have hr (r : Nat) : reportToPort p i st (modRec i (fun r =>
      { r with endStatus := some st, deviceStatus := status, replyData := data, deadline := none }) (withReservations r s)) =
        withReservations r a := rfl
    have hq (r : Nat) : endQueuedFor s.pool[i].group (withReservations r a) = endQueuedFor s.pool[i].group a := rfl
    have hreport := spends_reportToGroup s.pool[i].group a
    unfold Spends
    simp only [endExchange, hp, hpool, hr, hq]
    split
    · exact hreport.comp (spends_endDelivery i st status data _)
    · exact hreport.comp (g := holdReply i p (endQueuedFor s.pool[i].group a) st status data) (.of_commute fun r => rfl)

theorem spends_endAll (st : EndStatus) (l : List RecId) (s : State) : Spends (endAll st l) s :=
  Spends.foldl (fun i => spends_endExchange i st 0 []) l s

theorem spends_reevaluate (p : PortId) (s : State) : Spends (reevaluate p) s := by
  refine Spends.foldl (fun u t => ?_) (List.finRange 24) s
  have hn (r : Nat) : namesPort p u (withReservations r t) = namesPort p u t := rfl
  unfold Spends
  simp only [hn]
  split
  · exact evaluate_withReservations u t
  · exact ⟨0, fun _ => rfl⟩

theorem spends_clearCard (p : PortId) (s : State) : Spends (clearCard p) s := by
  have ha (u : UnitId) (r : Nat) : assignment u (withReservations r s) = assignment u s := rfl
  refine .of_commute fun r => ?_
  cases ho : s.owners[p] with
  | none =>
    have ho' : (withReservations r s).owners[p] = none := ho
    simp only [clearCard, ho, ho']
  | some u =>
    have ho' : (withReservations r s).owners[p] = some u := ho
    simp only [clearCard, ho, ho', ha]
    split <;> rfl

/-! ### The exchange in flight, and the queue -/

/-- The exchanges that are SENDING or AWAITING on a port: at most one (R54). -/
def flyingOn (p : PortId) (s : State) : List RecId :=
  (List.finRange 24).filter fun i => s.pool[i].port = some p ∧ (s.pool[i].state = .sending ∨ s.pool[i].state = .awaiting)

/-- At most one exchange of the port is in flight (R54). -/
def Alone (p : PortId) (s : State) : Prop := ∀ i j : RecId, s.pool[i].port = some p → s.pool[j].port = some p →
  isInFlight s.pool[i] = true → isInFlight s.pool[j] = true → i = j

theorem mem_flyingOn {p : PortId} {i : RecId} : i ∈ flyingOn p s ↔
    s.pool[i].port = some p ∧ (s.pool[i].state = .sending ∨ s.pool[i].state = .awaiting) := by
  simp only [flyingOn, List.mem_filter, List.mem_finRange, true_and, decide_eq_true_eq]

theorem nodup_flyingOn (p : PortId) (s : State) : (flyingOn p s).Nodup := (List.nodup_finRange 24).filter _

theorem eq_of_pool {t : State} (h : ∀ i : RecId, t.pool[i] = s.pool[i]) (ht : t = { s with pool := t.pool }) : t = s := by
  have hp : t.pool = s.pool := Vector.ext fun i hi => h ⟨i, hi⟩
  rw [ht, hp]

theorem orphansFreed_pool (p : PortId) (s : State) (i : RecId) : (orphansFreed p s).pool[i] =
    if s.pool[i].port = some p ∧ s.pool[i].state = .orphaned then freeExchange else s.pool[i] := by
  simp only [orphansFreed, Fin.getElem_fin, Vector.getElem_ofFn]

/-- What is in flight on a port that sends nothing: an orphan is freed, and the exchange SENDING or AWAITING ends (R73). -/
theorem endInFlight_eq {p : PortId} (st : EndStatus) (ha : Alone p s) (ht : s.ports[p].tx = .idle) :
    endInFlight p st s = endAll st (flyingOn p s) (orphansFreed p s) := by
  have noOrphan (h : ∀ i : RecId, s.pool[i].port = some p → s.pool[i].state ≠ .orphaned) : orphansFreed p s = s :=
    eq_of_pool (fun i => by rw [orphansFreed_pool, if_neg fun e => h i e.1 e.2]) rfl
  have empty (h : ∀ i : RecId, s.pool[i].port = some p → s.pool[i].state ≠ .sending ∧ s.pool[i].state ≠ .awaiting) : flyingOn p s = [] :=
    List.eq_nil_iff_forall_not_mem.mpr fun i hi => by
      obtain ⟨hp, hs⟩ := mem_flyingOn.mp hi
      exact hs.elim (h i hp).1 (h i hp).2
  have inFlight_of {i : RecId} (h : s.pool[i].state = .sending ∨ s.pool[i].state = .awaiting ∨ s.pool[i].state = .orphaned) :
      isInFlight s.pool[i] = true := by rw [← flies_placeOf]; exact (flies_iff _).mpr h
  unfold endInFlight
  split
  · rename_i hn
    have hnone (i : RecId) (hp : s.pool[i].port = some p) := inFlight_none s hn i hp
    have ne (i : RecId) (hp : s.pool[i].port = some p) {x : RecState} (hx : x = .sending ∨ x = .awaiting ∨ x = .orphaned) : s.pool[i].state ≠ x :=
      fun e => by
        have h := hnone i hp
        rw [inFlight_of (by rw [e]; exact hx)] at h
        cases h
    rw [noOrphan fun i hp => ne i hp (.inr (.inr rfl)), empty fun i hp => ⟨ne i hp (.inl rfl), ne i hp (.inr (.inl rfl))⟩]
    rfl
  · rename_i i hi
    obtain ⟨hp, hf⟩ := inFlight_spec s hi
    have only (j : RecId) (hj : s.pool[j].port = some p) (hjf : isInFlight s.pool[j] = true) : j = i := ha j i hj hp hjf hf
    split
    · rename_i ho
      have hempty : flyingOn p s = [] := List.eq_nil_iff_forall_not_mem.mpr fun j hj => by
        obtain ⟨hjp, hjs⟩ := mem_flyingOn.mp hj
        have hji := only j hjp (inFlight_of (hjs.imp_right .inl))
        rw [hji, ho] at hjs
        rcases hjs with e | e <;> cases e
      rw [hempty]
      have hfreed : (orphansFreed p s).pool = s.pool.set i freeExchange := Vector.ext fun j hj => by
        have hj' := orphansFreed_pool p s ⟨j, hj⟩
        refine Eq.trans hj' ?_
        by_cases hji : (⟨j, hj⟩ : RecId) = i
        · rw [hji, if_pos ⟨hp, ho⟩]
          subst hji
          exact (pool_set_self ⟨j, hj⟩ freeExchange s.pool).symm
        · rw [if_neg fun e => hji (only _ e.1 (inFlight_of (.inr (.inr e.2))))]
          exact (pool_set_ne hji freeExchange s.pool).symm
      have hport : modPort p (fun q => { q with tx := releaseTx i q.tx }) s = s := by
        rw [modPort_eq_withPort, ht, releaseTx_idle, ← ht, withPort_same]
      simp only [dropOrphan, hp, hport]
      show freeRecord i s = orphansFreed p s
      exact (congrArg (fun v => { s with pool := v }) hfreed).symm
    · rename_i ho
      have hs : s.pool[i].state = .sending ∨ s.pool[i].state = .awaiting := by
        rw [← flies_placeOf, flies_iff] at hf
        exact hf.elim .inl fun h => h.elim .inr fun e => absurd e ho
      have hfly : flyingOn p s = [i] := by
        refine List.perm_singleton.mp ((List.perm_ext_iff_of_nodup (nodup_flyingOn p s) (List.nodup_singleton i)).mpr fun j => ?_)
        rw [mem_flyingOn, List.mem_singleton]
        refine ⟨fun h => only j h.1 (inFlight_of (h.2.imp_right .inl)), fun h => by rw [h]; exact ⟨hp, hs⟩⟩
      rw [noOrphan fun j hj e => ?_, hfly]
      · rfl
      · have := only j hj (inFlight_of (.inr (.inr e)))
        rw [this] at e
        exact ho e

end

end Sys2Proof.Machine
end

section
/-! SUPPORT. Departures of a port from READY: its queue, and the parts that the order of reports and the port's change leave alone. -/

namespace Sys2Proof.Machine

section
variable {s : State}

/-! ### The queue of the port -/

/-- The request queue of a port queueEmptied (R73). -/
def queueEmptied (p : PortId) (s : State) : State := modPort p (fun q => { q with queue := [] }) s

theorem modRec_modPort (i : RecId) (f : Exchange → Exchange) (p : PortId) (g : Port → Port) (s : State) :
    modRec i f (modPort p g s) = modPort p g (modRec i f s) := rfl

theorem memberEnded_withPort (tag : Byte) (p : PortId) (q : Port) (s : State) :
    memberEnded tag (withPort p q s) = withPort p q (memberEnded tag s) := by
  cases h : s.groupRecords.find? (fun g => decide (g.tag = tag)) with
  | none =>
    have h' : (withPort p q s).groupRecords.find? (fun g => decide (g.tag = tag)) = none := h
    simp only [memberEnded, h, h']
  | some g =>
    have h' : (withPort p q s).groupRecords.find? (fun g => decide (g.tag = tag)) = some g := h
    cases ho : groupTest { g with answered := g.answered + 1 } <;> (simp only [memberEnded, h, h', placeGroupEnd, ho]; rfl)

theorem reportToGroup_withPort (g : Option Byte) (p : PortId) (q : Port) (s : State) :
    reportToGroup g (withPort p q s) = withPort p q (reportToGroup g s) := by
  cases g with
  | none => rfl
  | some tag => exact memberEnded_withPort tag p q s

theorem reportToGroup_queueEmptied (g : Option Byte) (p : PortId) (s : State) :
    reportToGroup g (queueEmptied p s) = queueEmptied p (reportToGroup g s) := by
  have hp : (reportToGroup g s).ports = s.ports := by
    cases g with
    | none => rfl
    | some tag =>
      show (memberEnded tag s).ports = s.ports
      rw [memberEnded_frame]
  rw [queueEmptied, modPort_eq_withPort, reportToGroup_withPort, queueEmptied, modPort_eq_withPort, hp]

theorem endEntry_queueEmptied (k : PosId) (o : EntryOutcome) (c : EntryCause) (st : Byte) (data : List Byte) (p : PortId) (s : State) :
    endEntry k o c st data (queueEmptied p s) = queueEmptied p (endEntry k o c st data s) := by
  have hp : (endEntry k o c st data s).ports = s.ports := by rw [endEntry_frame]
  rw [queueEmptied, modPort_eq_withPort, endEntry_withPort, queueEmptied, modPort_eq_withPort, hp]

theorem endDelivery_queueEmptied (i : RecId) (st : EndStatus) (status : Byte) (data : List Byte) (p : PortId) (s : State) :
    endDelivery i st status data (queueEmptied p s) = queueEmptied p (endDelivery i st status data s) := by
  cases h : s.pool[i].position with
  | none =>
    have h' : (queueEmptied p s).pool[i].position = none := h
    simp only [endDelivery, h, h']
    rfl
  | some k =>
    have h' : (queueEmptied p s).pool[i].position = some k := h
    simp only [endDelivery, h, h']
    exact endEntry_queueEmptied k _ _ _ _ p (freeRecord i s)

theorem holdReply_queueEmptied (i : RecId) (p : PortId) (late : Bool) (st : EndStatus) (status : Byte) (data : List Byte) (s : State) :
    holdReply i p late st status data (queueEmptied p s) = queueEmptied p (holdReply i p late st status data s) := by
  simp only [holdReply, queueEmptied, modRec_modPort, modPort_modPort]
  rfl

/-- An end does not look at the queue of its port. -/
theorem endExchange_queueEmptied {i : RecId} {p : PortId} (st : EndStatus) (status : Byte) (data : List Byte) (hp : s.pool[i].port = some p) :
    endExchange i st status data (queueEmptied p s) = queueEmptied p (endExchange i st status data s) := by
  have hp' : (queueEmptied p s).pool[i].port = some p := hp
  have hpool : (queueEmptied p s).pool = s.pool := rfl
  set a := reportToPort p i st (modRec i (fun r =>
    { r with endStatus := some st, deviceStatus := status, replyData := data, deadline := none }) s) with ha
  have hr : reportToPort p i st (modRec i (fun r =>
      { r with endStatus := some st, deviceStatus := status, replyData := data, deadline := none }) (queueEmptied p s)) = queueEmptied p a := by
    rw [ha]
    simp only [reportToPort, queueEmptied, modRec_modPort, modPort_modPort]
  have hq : endQueuedFor s.pool[i].group (queueEmptied p a) = endQueuedFor s.pool[i].group a := rfl
  simp only [endExchange, hp, hpool, hr, hq, reportToGroup_queueEmptied]
  split
  · exact endDelivery_queueEmptied i st status data p _
  · exact holdReply_queueEmptied i p _ st status data _

theorem endAll_queueEmptied {p : PortId} (st : EndStatus) {l : List RecId} (hn : l.Nodup) (h : Endable p l s) :
    endAll st l (queueEmptied p s) = queueEmptied p (endAll st l s) := by
  induction l generalizing s with
  | nil => rfl
  | cons i l ih =>
    show endAll st l (endExchange i st 0 [] (queueEmptied p s)) = queueEmptied p (endAll st l (endExchange i st 0 [] s))
    rw [endExchange_queueEmptied st 0 [] (h i List.mem_cons_self).1]
    exact ih (List.nodup_cons.mp hn).2 (h.tail st hn)

theorem endAll_append (st : EndStatus) (l m : List RecId) (s : State) : endAll st (l ++ m) s = endAll st m (endAll st l s) :=
  List.foldl_append ..

theorem endQueued_eq (p : PortId) (st : EndStatus) (s : State) :
    endQueued p st s = endAll st s.ports[p].queue (queueEmptied p s) := rfl

theorem orphansFreed_ports (p : PortId) (s : State) : (orphansFreed p s).ports = s.ports := by unfold orphansFreed; rfl

theorem orphansFreed_queueEmptied (p : PortId) (s : State) :
    orphansFreed p (queueEmptied p s) = queueEmptied p (orphansFreed p s) := by
  unfold orphansFreed queueEmptied modPort; rfl

/-- The ends of a departure: the exchange in flight, and then the queue from its head (R73). -/
theorem endQueued_endInFlight {p : PortId} (st : EndStatus) (hl : PoolLaw s) {a : State} (hp : a.pool = s.pool)
    (hq : a.ports[p].queue = s.ports[p].queue) (ht : a.ports[p].tx = .idle) :
    endQueued p st (endInFlight p st a) = endAll st (flyingOn p s ++ s.ports[p].queue) (orphansFreed p (queueEmptied p a)) := by
  have halone : Alone p a := fun i j hi hj hfi hfj => by
    simp only [hp] at hi hj hfi hfj
    exact hl.alone i j hfi hfj (hi.trans hj.symm)
  have hfly : flyingOn p a = flyingOn p s := by simp only [flyingOn, hp]
  have hend : Endable p (flyingOn p s) (orphansFreed p a) := fun i hi => by
    obtain ⟨hip, his⟩ := mem_flyingOn.mp hi
    rw [orphansFreed_pool, hp, if_neg fun e => by rw [e.2] at his; rcases his with h | h <;> cases h]
    exact ⟨hip, fun e => by rw [e] at his; rcases his with h | h <;> cases h⟩
  have hidle : (orphansFreed p a).ports[p].tx = .idle := by rw [orphansFreed_ports]; exact ht
  have hmade := endsMade_endAll st (nodup_flyingOn p s) hend hidle
  obtain ⟨out, n, hports⟩ := hmade.ports
  have hqueue : (endAll st (flyingOn p s) (orphansFreed p a)).ports[p].queue = s.ports[p].queue := by
    rw [hports, ports_withPort, orphansFreed_ports]
    exact hq
  rw [endInFlight_eq st halone ht, hfly, endQueued_eq, hqueue, ← endAll_queueEmptied st (nodup_flyingOn p s) hend, endAll_append,
    orphansFreed_queueEmptied]

/-! ### What the ends look at -/

/-- The ends of exchanges of port `p` see no difference between two states: what they place and where they place it is the same. -/
structure EndAlike (p : PortId) (s t : State) : Prop where
  control : t.control = s.control
  groupRecords : t.groupRecords = s.groupRecords
  tx : t.tx = s.tx
  line : t.line = s.line
  positions : t.positions = s.positions
  outbound : t.ports[p].outbound = s.ports[p].outbound
  pool : ∀ i : RecId, t.pool[i] = s.pool[i] ∨ (s.pool[i].state = .orphaned ∧ t.pool[i] = freeExchange)

namespace EndAlike

variable {p : PortId} {t : State}

theorem refl (p : PortId) (s : State) : EndAlike p s s := ⟨rfl, rfl, rfl, rfl, rfl, rfl, fun _ => .inl rfl⟩

theorem pool_eq (h : EndAlike p s t) {i : RecId} (hi : s.pool[i].state ≠ .orphaned) : t.pool[i] = s.pool[i] :=
  (h.pool i).resolve_right fun e => hi e.1

theorem waiting (h : EndAlike p s t) : controlInFlight t = controlInFlight s ∧ controlWaiting t = controlWaiting s := by
  unfold controlInFlight controlWaiting controlSending
  rw [h.tx, h.control]
  exact ⟨rfl, rfl⟩

/-- Both states change in one record, to the same. -/
theorem set_pool (h : EndAlike p s t) (i : RecId) (x : Exchange) (j : RecId) :
    (t.pool.set i x)[j] = (s.pool.set i x)[j] ∨ ((s.pool.set i x)[j].state = .orphaned ∧ (t.pool.set i x)[j] = freeExchange) := by
  by_cases hj : j = i
  · rw [hj, pool_set_self, pool_set_self]; exact .inl rfl
  · rw [pool_set_ne hj, pool_set_ne hj]; exact h.pool j

theorem entryEnded (h : EndAlike p s t) (k : PosId) (e : Entry) (o : EntryOutcome) (c : EntryCause) (st : Byte) (d : List Byte) :
    EndAlike p (Machine.entryEnded k e o c st d s) (Machine.entryEnded k e o c st d t) := by
  obtain ⟨hin, hwait⟩ := h.waiting
  refine ⟨?_, h.groupRecords, h.tx, h.line, ?_, h.outbound, fun j => ?_⟩
  · simp only [Machine.entryEnded, hin, hwait, h.positions]
  · simp only [Machine.entryEnded, h.positions]
  · have hp (x : State) : (Machine.entryEnded k e o c st d x).pool =
        if x.pool[e.record].state = .reserved then x.pool.set e.record freeExchange else x.pool := rfl
    rw [hp, hp]
    rcases h.pool e.record with hr | ⟨ho, hf⟩
    · rw [hr]
      split
      · exact h.set_pool e.record freeExchange j
      · exact h.pool j
    · rw [if_neg (show ¬ t.pool[e.record].state = .reserved by rw [hf]; decide), if_neg (by rw [ho]; decide)]
      exact h.pool j

theorem entryTold (h : EndAlike p s t) (position : Option PosId) (st : EndStatus) (status : Byte) (data : List Byte) :
    EndAlike p (Machine.entryTold position st status data s) (Machine.entryTold position st status data t) := by
  cases position with
  | none => exact h
  | some k =>
    show EndAlike p (deliveryEnded k st status data s) (deliveryEnded k st status data t)
    unfold deliveryEnded
    rw [h.positions]
    split
    · exact h
    all_goals exact h.entryEnded k _ _ _ _ _

theorem memberCounted (h : EndAlike p s t) (tag : Byte) : EndAlike p (Machine.memberCounted tag s) (Machine.memberCounted tag t) := by
  unfold Machine.memberCounted
  rw [h.groupRecords]
  split
  · exact h
  · refine ⟨?_, ?_, h.tx, h.line, h.positions, h.outbound, h.pool⟩
    · simp only [h.control]
    · rfl

theorem groupTold (h : EndAlike p s t) (g : Option Byte) : EndAlike p (Machine.groupTold g s) (Machine.groupTold g t) := by
  cases g with
  | none => exact h
  | some tag => exact h.memberCounted tag

theorem portTold (h : EndAlike p s t) (i : RecId) (st : EndStatus) : EndAlike p (Machine.portTold p i st s) (Machine.portTold p i st t) :=
  ⟨h.control, h.groupRecords, h.tx, h.line, h.positions, by simp only [Machine.portTold, ports_withPort, h.outbound], h.pool⟩

theorem ended (h : EndAlike p s t) {i : RecId} (hi : s.pool[i].state ≠ .orphaned) (st : EndStatus) (status : Byte) (data : List Byte) :
    EndAlike p (Machine.ended p i st status data s) (Machine.ended p i st status data t) := by
  have hr := h.pool_eq hi
  have hg := (h.portTold i st).groupTold s.pool[i].group
  by_cases ho : s.pool[i].origin = some .delivery
  · rw [ended_delivery st status data ho, ended_delivery st status data (by rw [hr]; exact ho), hr]
    exact EndAlike.entryTold
      (s := { Machine.groupTold s.pool[i].group (Machine.portTold p i st s) with pool := s.pool.set i freeExchange })
      (t := { Machine.groupTold s.pool[i].group (Machine.portTold p i st t) with pool := t.pool.set i freeExchange })
      ⟨hg.control, hg.groupRecords, hg.tx, hg.line, hg.positions, hg.outbound, fun j => h.set_pool i freeExchange j⟩ _ _ _ _
  · rw [ended_workstation st status data ho, ended_workstation st status data (by rw [hr]; exact ho), hr]
    refine ⟨hg.control, hg.groupRecords, hg.tx, hg.line, hg.positions, ?_, fun j => ?_⟩
    · simp only [ports_withPort, hg.outbound, h.groupRecords]
    · simp only [h.line]
      exact h.set_pool i _ j

end EndAlike

/-- No end makes an orphan (R76). -/
theorem orphaned_of_ended {p : PortId} {i j : RecId} {st : EndStatus} {status : Byte} {data : List Byte}
    (h : (ended p i st status data s).pool[j].state = .orphaned) : s.pool[j].state = .orphaned := by
  by_cases hj : j = i
  · rw [hj] at h
    by_cases ho : s.pool[i].origin = some .delivery
    · rw [ended_pool_delivery p st status data ho] at h; cases h
    · rw [ended_pool_workstation p st status data ho] at h; cases h
  · rcases ended_pool_ne (s := s) p st status data hj with e | ⟨-, e⟩ <;> rw [e] at h
    · exact h
    · cases h

theorem EndAlike.endedAll {p : PortId} {t : State} (h : EndAlike p s t) (st : EndStatus) {l : List RecId}
    (hl : ∀ i ∈ l, s.pool[i].state ≠ .orphaned) : EndAlike p (endedAll p st l s) (endedAll p st l t) := by
  induction l generalizing s t with
  | nil => exact h
  | cons i l ih =>
    exact ih (h.ended (hl i List.mem_cons_self) st 0 []) fun j hj e => hl j (List.mem_cons_of_mem _ hj) (orphaned_of_ended e)

end

end Sys2Proof.Machine
end

section
/-! SUPPORT. Departures of a port from READY: what the reports to route table, position control and entry unit leave. -/

namespace Sys2Proof.Machine

section
variable {s : State}

/-! ### Frames that stay in the control queue (R143, R146) -/

theorem not_isProgressOf_of_lasting {f : ControlFrame} (k : PosId) (h : lasting f = true) : isProgressOf k f = false := by
  cases f with
  | progress => cases h
  | _ => rfl

theorem filter_lasting_waiting (k : PosId) (s : State) :
    (controlInFlight s ++ (controlWaiting s).filter fun f => !isProgressOf k f).filter lasting = s.control.filter lasting := by
  have h : ((controlWaiting s).filter fun f => !isProgressOf k f).filter lasting = (controlWaiting s).filter lasting := by
    rw [List.filter_filter]
    refine List.filter_congr fun f _ => ?_
    cases hf : lasting f with
    | false => rfl
    | true => rw [not_isProgressOf_of_lasting k hf]; rfl
  rw [List.filter_append, h, ← List.filter_append, inFlight_append_waiting]

/-- Frames that an evaluation may leave in the control queue: those of entries in collection that it ends (R147). -/
def AbandonedEnd (f : ControlFrame) : Prop := ∃ k n c, f = ControlFrame.entryEnd k n .abandoned c 0 []

/-- The control queue has got frames of abandoned entries at its end, and an ENTRY PROGRESS may have left it. -/
def MoreAbandoned (s t : State) : Prop := ∃ l, t.control.filter lasting = s.control.filter lasting ++ l ∧ ∀ f ∈ l, AbandonedEnd f

theorem MoreAbandoned.refl (s : State) : MoreAbandoned s s := ⟨[], (List.append_nil _).symm, nofun⟩

theorem MoreAbandoned.of_control {t : State} (h : t.control = s.control) : MoreAbandoned s t := by
  unfold MoreAbandoned
  rw [h]
  exact MoreAbandoned.refl s

theorem MoreAbandoned.trans {t u : State} (h : MoreAbandoned s t) (g : MoreAbandoned t u) : MoreAbandoned s u := by
  obtain ⟨l, hl, hf⟩ := h
  obtain ⟨m, hm, gf⟩ := g
  refine ⟨l ++ m, by rw [hm, hl, List.append_assoc], fun f hfm => ?_⟩
  exact (List.mem_append.mp hfm).elim (hf f) (gf f)

/-! ### What an evaluation leaves alone -/

/-- What an evaluation keeps of records, entries and positions: a RESERVED record may be freed and a COLLECTING entry may end, and
nothing else changes but a lamp (R12, R147). -/
structure EvalKept (s t : State) : Prop where
  pool : ∀ j : RecId, s.pool[j].state ≠ .reserved → t.pool[j] = s.pool[j]
  entry : ∀ k : PosId, s.positions[k].entry = none → t.positions[k].entry = none
  card : ∀ k : PosId, t.positions[k].card = s.positions[k].card
  reader : ∀ k : PosId, t.positions[k].reader = s.positions[k].reader
  keypad : ∀ k : PosId, t.positions[k].keypad = s.positions[k].keypad
  groupRecords : t.groupRecords = s.groupRecords
  owners : t.owners = s.owners
  control : MoreAbandoned s t

theorem EvalKept.refl (s : State) : EvalKept s s :=
  ⟨fun _ _ => rfl, fun _ => id, fun _ => rfl, fun _ => rfl, fun _ => rfl, rfl, rfl, .refl s⟩

theorem EvalKept.trans {t u : State} (h : EvalKept s t) (g : EvalKept t u) : EvalKept s u where
  pool j hj := (g.pool j (by rw [h.pool j hj]; exact hj)).trans (h.pool j hj)
  entry k hk := g.entry k (h.entry k hk)
  card k := (g.card k).trans (h.card k)
  reader k := (g.reader k).trans (h.reader k)
  keypad k := (g.keypad k).trans (h.keypad k)
  groupRecords := g.groupRecords.trans h.groupRecords
  owners := g.owners.trans h.owners
  control := h.control.trans g.control

theorem EvalKept.of_same {t : State} (hp : t.pool = s.pool) (hk : t.positions = s.positions) (hg : t.groupRecords = s.groupRecords)
    (ho : t.owners = s.owners) (hc : t.control = s.control) : EvalKept s t :=
  ⟨fun j _ => by rw [hp], fun k h => by rw [hk]; exact h, fun k => by rw [hk], fun k => by rw [hk], fun k => by rw [hk], hg, ho, .of_control hc⟩

/-- A part of the positions that the end of an entry leaves as it was. -/
theorem endEntry_field {β : Type} (g : Position → β) (hg : ∀ m q, g (lit m q) = g q) (he : ∀ q : Position, g { q with entry := none } = g q)
    (k : PosId) (o : EntryOutcome) (c : EntryCause) (st : Byte) (d : List Byte) (s : State) (j : PosId) :
    g (endEntry k o c st d s).positions[j] = g s.positions[j] := by
  unfold endEntry
  split
  · rfl
  · rw [refreshLamp_field g hg, modPos_field g (he _)]
    split <;> rfl

theorem endEntry_position_ne {j k : PosId} (h : j ≠ k) (o : EntryOutcome) (c : EntryCause) (st : Byte) (d : List Byte) (s : State) :
    (endEntry k o c st d s).positions[j] = s.positions[j] := by
  unfold endEntry
  split
  · rfl
  · rw [refreshLamp_eq, positions_withPos_ne h, modPos_ne _ h]
    split <;> rfl

theorem evalKept_abandoned (k : PosId) (c : EntryCause) (s : State) : EvalKept s (endEntry k .abandoned c 0 [] s) := by
  cases he : s.positions[k].entry with
  | none =>
    have h : endEntry k .abandoned c 0 [] s = s := by simp only [endEntry, he]
    rw [h]
    exact .refl s
  | some e =>
    have hlamps := endEntry_but_lamps (s := s) .abandoned c 0 [] he
    refine ⟨fun j hj => ?_, fun j hj => ?_, endEntry_field (·.card) lit_card (fun _ => rfl) k _ _ _ _ s,
      endEntry_field (·.reader) lit_reader (fun _ => rfl) k _ _ _ _ s, endEntry_field (·.keypad) lit_keypad (fun _ => rfl) k _ _ _ _ s,
      by rw [hlamps]; rfl, by rw [hlamps]; rfl, ?_⟩
    · rw [hlamps]
      exact (entryEnded_pool k e .abandoned c 0 [] s j).resolve_right fun h => hj h.1
    · by_cases hjk : j = k
      · rw [hjk]; exact endEntry_entry k _ _ _ _
      · rw [endEntry_position_ne hjk]; exact hj
    · refine ⟨[.entryEnd k s.positions[k].session .abandoned c 0 []], ?_, fun f hf => ⟨k, _, c, List.mem_singleton.mp hf⟩⟩
      rw [hlamps]
      show (controlInFlight s ++ (controlWaiting s).filter (fun f => !isProgressOf k f) ++ _).filter lasting = _
      rw [List.filter_append, filter_lasting_waiting]
      rfl

theorem evalKept_evaluate (u : UnitId) (s : State) : EvalKept s (evaluate u s) := by
  have fault : EvalKept s (raiseFault u (usableTest u s) s) := by
    have hp := raiseFault_positions u (usableTest u s) s
    refine .of_same ?_ hp ?_ ?_ ?_ <;>
    · unfold raiseFault
      split
      · rw [raiseNotice_frame]
      · rfl
  unfold evaluate evaluationEffects
  split
  · exact .refl s
  · refine fault.trans ?_
    unfold reportUnusable
    split
    · unfold abandonCollecting
      split
      · exact evalKept_abandoned _ _ _
      · exact .refl _
    · exact .refl _

theorem evalKept_reevaluate (p : PortId) (s : State) : EvalKept s (reevaluate p s) := by
  rw [reevaluate_eq]
  exact foldl_reevaluateUnit (P := EvalKept s) (fun u t h => h.trans (evalKept_evaluate u t)) p _ (.refl s)

/-! ### Card states (R128) -/

theorem clearCard_frame (p : PortId) (s : State) : clearCard p s = { s with positions := (clearCard p s).positions } := by
  unfold clearCard
  split
  · rfl
  · split <;> rfl

theorem clearCard_entry (p : PortId) (k : PosId) (s : State) : (clearCard p s).positions[k].entry = s.positions[k].entry := by
  unfold clearCard
  split
  · rfl
  · split
    · exact modPos_field (fun q => q.entry) rfl k
    · rfl

theorem cardsCleared_positions (p : PortId) (s : State) (k : PosId) : (cardsCleared p s).positions[k] =
    if s.owners[p] ≠ none ∧ s.positions[k].reader = s.owners[p] then { s.positions[k] with card := .noCard } else s.positions[k] := by
  simp only [cardsCleared, Fin.getElem_fin, Vector.getElem_ofFn]

/-- In a state of the positions' law NO_CARD comes to the position whose reader unit the map names for the port (R128). -/
theorem clearCard_eq (p : PortId) (hl : PositionLaw s) : clearCard p s = cardsCleared p s := by
  have of_positions {t : State} (ht : t = { s with positions := t.positions })
      (h : ∀ k : PosId, t.positions[k] = (cardsCleared p s).positions[k]) : t = cardsCleared p s := by
    have hp : t.positions = (cardsCleared p s).positions := Vector.ext fun i hi => h ⟨i, hi⟩
    rw [ht, hp]
    rfl
  have hnone (h : ∀ k : PosId, ¬ (s.owners[p] ≠ none ∧ s.positions[k].reader = s.owners[p])) : s = cardsCleared p s :=
    of_positions rfl fun k => by rw [cardsCleared_positions, if_neg (h k)]
  unfold clearCard
  split
  · rename_i ho
    exact hnone fun k h => h.1 ho
  · rename_i u ho
    split
    · rename_i k ha
      have hk : s.positions[k].reader = some u := (assigned_of_assignment ha).resolve_right fun h => by
        rw [assignment_keypad s hl h] at ha
        cases ha
      refine of_positions rfl fun j => ?_
      rw [cardsCleared_positions]
      by_cases hj : j = k
      · subst hj
        rw [modPos_self, if_pos ⟨by rw [ho]; exact Option.some_ne_none u, by rw [ho]; exact hk⟩]
      · rw [modPos_ne s hj, if_neg fun h => hj (hl.single j k u (.inl (h.2.trans ho)) (.inl hk))]
    · rename_i hna
      exact hnone fun k h => hna k (assignment_reader s hl (h.2.trans ho))

/-! ### Entries whose delivery ends with its port (R145) -/

/-- The cause that a lost delivery gives its entry (R145). -/
def lossCause (st : EndStatus) : EntryCause := match st with | .detached => .detached | .faulted => .faulted | _ => .reset

/-- The entry of position `k`, in session `n`, has ended NOT_DELIVERED, and its ENTRY END waits. -/
def Lost (st : EndStatus) (k : PosId) (n : Byte) (t : State) : Prop :=
  t.positions[k].entry = none ∧ ControlFrame.entryEnd k n .notDelivered (lossCause st) 0 [] ∈ t.control

theorem mem_keepWaiting {f : ControlFrame} (k : PosId) (hf : lasting f = true) (h : f ∈ s.control) :
    f ∈ controlInFlight s ++ (controlWaiting s).filter fun f => !isProgressOf k f := by
  have hm : f ∈ s.control.filter lasting := List.mem_filter.mpr ⟨h, hf⟩
  rw [← filter_lasting_waiting k s] at hm
  exact (List.mem_filter.mp hm).1

theorem groupTold_control (g : Option Byte) {f : ControlFrame} (h : f ∈ s.control) : f ∈ (groupTold g s).control := by
  cases g with
  | none => exact h
  | some tag =>
    show f ∈ (memberCounted tag s).control
    unfold memberCounted
    split
    · exact h
    · exact List.mem_append_left _ h

theorem entryEnded_other {j k : PosId} (h : j ≠ k) (e : Entry) (o : EntryOutcome) (c : EntryCause) (st : Byte) (d : List Byte) (s : State) :
    (entryEnded k e o c st d s).positions[j] = s.positions[j] := positions_withPos_ne h _ s

/-- A lost delivery that has no entry any more, or whose entry ends. -/
theorem entryTold_lost {st : EndStatus} (hst : st = .detached ∨ st = .faulted ∨ st = .reset) (position : Option PosId) (k : PosId) (s : State) :
    let t := entryTold position st 0 [] s
    (∀ f ∈ s.control, lasting f = true → f ∈ t.control) ∧
      (t.positions[k] = s.positions[k] ∧ (position = some k → s.positions[k].entry = none) ∨ Lost st k s.positions[k].session t) := by
  cases position with
  | none => exact ⟨fun f h _ => h, .inl ⟨rfl, nofun⟩⟩
  | some j =>
    have hend {e : Entry} (he : s.positions[j].entry = some e) :
        entryTold (some j) st 0 [] s = entryEnded j e .notDelivered (lossCause st) 0 [] s := by
      show deliveryEnded j st 0 [] s = _
      unfold deliveryEnded
      rw [he]
      rcases hst with rfl | rfl | rfl <;> rfl
    dsimp only
    cases he : s.positions[j].entry with
    | none =>
      have hs : entryTold (some j) st 0 [] s = s := by
        show deliveryEnded j st 0 [] s = s
        unfold deliveryEnded
        rw [he]
      rw [hs]
      exact ⟨fun f h _ => h, .inl ⟨rfl, fun h => by rw [← Option.some.inj h]; exact he⟩⟩
    | some e =>
      rw [hend he]
      refine ⟨fun f h hf => List.mem_append_left _ (mem_keepWaiting j hf h), ?_⟩
      by_cases hk : k = j
      · subst hk
        refine .inr ⟨?_, List.mem_append_right _ (List.mem_singleton.mpr rfl)⟩
        show (withPos k _ s).positions[k].entry = none
        rw [positions_withPos, lit_entry]
      · exact .inl ⟨entryEnded_other hk .., fun h => absurd (Option.some.inj h).symm hk⟩

/-- One end of a run: an entry that is lost stays so, and the entry of a delivery that ends is lost (R145). -/
theorem ended_lost {p : PortId} {st : EndStatus} (hst : st = .detached ∨ st = .faulted ∨ st = .reset) (i : RecId) (k : PosId) (s : State) :
    let t := ended p i st 0 [] s
    (∀ f ∈ s.control, lasting f = true → f ∈ t.control) ∧
      (t.positions[k] = s.positions[k] ∧
          (s.pool[i].origin = some .delivery → s.pool[i].position = some k → s.positions[k].entry = none) ∨
        Lost st k s.positions[k].session t) := by
  have hc {f : ControlFrame} (h : f ∈ s.control) : f ∈ (groupTold s.pool[i].group (portTold p i st s)).control := groupTold_control _ h
  have hpos : (groupTold s.pool[i].group (portTold p i st s)).positions = s.positions := by rw [groupTold_frame]; rfl
  dsimp only
  by_cases ho : s.pool[i].origin = some .delivery
  · rw [ended_delivery st 0 [] ho]
    obtain ⟨x, hx⟩ : ∃ x : State, x = { groupTold s.pool[i].group (portTold p i st s) with pool := s.pool.set i freeExchange } := ⟨_, rfl⟩
    have hxp : x.positions = s.positions := by rw [hx]; exact hpos
    have hxc {f : ControlFrame} (h : f ∈ s.control) : f ∈ x.control := by rw [hx]; exact hc h
    rw [← hx]
    obtain ⟨h1, h2⟩ := entryTold_lost hst s.pool[i].position k x
    rw [hxp] at h2
    refine ⟨fun f h hf => h1 f (hxc h) hf, ?_⟩
    rcases h2 with ⟨hs, hn⟩ | hlost
    · exact .inl ⟨hs, fun _ => hn⟩
    · exact .inr hlost
  · rw [ended_workstation st 0 [] ho]
    refine ⟨fun f h _ => hc h, .inl ⟨?_, fun h => absurd h ho⟩⟩
    show (groupTold s.pool[i].group (portTold p i st s)).positions[k] = _
    rw [hpos]

theorem Lost.endedAll {p : PortId} {st : EndStatus} (hst : st = .detached ∨ st = .faulted ∨ st = .reset) {k : PosId} {n : Byte}
    (h : Lost st k n s) (l : List RecId) : Lost st k n (endedAll p st l s) := by
  induction l generalizing s with
  | nil => exact h
  | cons i l ih =>
    obtain ⟨hc, hpos⟩ := ended_lost (p := p) hst i k s
    refine ih ⟨?_, hc _ h.2 rfl⟩
    rcases hpos with ⟨hs, -⟩ | ⟨he, -⟩
    · rw [hs]; exact h.1
    · exact he

/-- The entry of every delivery that is among the ends is lost (R145). -/
theorem endedAll_lost {p : PortId} {st : EndStatus} (hst : st = .detached ∨ st = .faulted ∨ st = .reset) {k : PosId} {i : RecId}
    {l : List RecId} (hi : i ∈ l) (ho : s.pool[i].origin = some .delivery) (hk : s.pool[i].position = some k)
    (he : s.positions[k].entry ≠ none) (hr : s.pool[i].state ≠ .reserved) : Lost st k s.positions[k].session (endedAll p st l s) := by
  induction l generalizing s with
  | nil => cases hi
  | cons j l ih =>
    obtain ⟨-, hpos⟩ := ended_lost (p := p) hst j k s
    rcases hpos with ⟨hs, hne⟩ | hlost
    · have hij : i ≠ j := fun e => he (hne (e ▸ ho) (e ▸ hk))
      have hsame : (ended p j st 0 [] s).pool[i] = s.pool[i] := (ended_pool_ne p st 0 [] hij).resolve_right fun h => hr h.1
      have := ih ((List.mem_cons.mp hi).resolve_left hij) (by rw [hsame]; exact ho) (by rw [hsame]; exact hk)
        (by rw [hs]; exact he) (by rw [hsame]; exact hr)
      rw [hs] at this
      exact this
    · exact hlost.endedAll hst l

end

end Sys2Proof.Machine
end

section
/-! SUPPORT. Departures of a port from READY as the statements give them. -/

namespace Sys2Proof.Machine

section
variable {s : State}

/-! ### The whole of a departure -/

/-- What the ends and the reports of a departure make of a state `a` with the records of `s`, whose port `p` has left READY. -/
structure Departure (p : PortId) (st : EndStatus) (s a t : State) : Prop where
  ports : ∃ out n, t.ports =
    (withPort p { a.ports[p] with queue := [], outbound := a.ports[p].outbound ++ out, failures := n } a).ports
  notices : a.notices ⊆ t.notices
  held : ∀ i : RecId, s.pool[i].port = some p → s.pool[i].state = .queued ∨ s.pool[i].state = .sending ∨ s.pool[i].state = .awaiting →
    s.pool[i].origin ≠ some .delivery → t.pool[i].state = .held ∧ t.pool[i].endStatus = some st
  freed : ∀ i : RecId, s.pool[i].port = some p → s.pool[i].state = .queued ∨ s.pool[i].state = .sending ∨ s.pool[i].state = .awaiting →
    s.pool[i].origin = some .delivery → t.pool[i] = freeExchange
  orphan : ∀ i : RecId, s.pool[i].port = some p → s.pool[i].state = .orphaned → t.pool[i] = freeExchange
  kept : ∀ i : RecId, s.pool[i].state = .held → t.pool[i] = s.pool[i]
  others : ∀ i : RecId, s.pool[i].port ≠ some p → s.pool[i].state ≠ .reserved → t.pool[i] = s.pool[i]

theorem clearCard_kept (p : PortId) (s : State) : (clearCard p s).ports = s.ports ∧ (clearCard p s).pool = s.pool ∧
    (clearCard p s).notices = s.notices ∧ (clearCard p s).control = s.control ∧ (clearCard p s).groupRecords = s.groupRecords := by
  unfold clearCard
  split
  · exact ⟨rfl, rfl, rfl, rfl, rfl⟩
  · split <;> exact ⟨rfl, rfl, rfl, rfl, rfl⟩

/-- The exchanges that end with a port's departure, in their order (R73). -/
def departing (p : PortId) (s : State) : List RecId := flyingOn p s ++ s.ports[p].queue

theorem mem_departing {p : PortId} (hl : PoolLaw s) {i : RecId} : i ∈ departing p s ↔
    s.pool[i].port = some p ∧ (s.pool[i].state = .queued ∨ s.pool[i].state = .sending ∨ s.pool[i].state = .awaiting) := by
  rw [departing, List.mem_append, mem_flyingOn]
  constructor
  · rintro (⟨hp, hs⟩ | hq)
    · exact ⟨hp, .inr hs⟩
    · obtain ⟨hs, hp⟩ := hl.queue p i hq
      exact ⟨hp, .inl hs⟩
  · rintro ⟨hp, hs | hs⟩
    · obtain ⟨r, hr, hq⟩ := hl.queued i hs
      rw [hp] at hr
      cases hr
      exact .inr hq
    · exact .inl ⟨hp, hs⟩

theorem nodup_departing (p : PortId) (hl : PoolLaw s) : (departing p s).Nodup := by
  refine List.nodup_append.mpr ⟨nodup_flyingOn p s, hl.once p, fun i hi j hj e => ?_⟩
  have hs := (mem_flyingOn.mp hi).2
  rw [e, (hl.queue p j hj).1] at hs
  rcases hs with h | h <;> cases h

/-- The state in which the ends of a departure begin: the queue empty, an orphan freed. -/
theorem departing_pool {p : PortId} (hl : PoolLaw s) {a : State} (hp : a.pool = s.pool) {i : RecId} (hi : i ∈ departing p s) :
    (orphansFreed p (queueEmptied p a)).pool[i] = s.pool[i] := by
  have hs := ((mem_departing hl).mp hi).2
  rw [orphansFreed_pool, if_neg fun e => ?_]
  · exact congrArg (fun v : Vector Exchange 24 => v[i]) hp
  · have ho : s.pool[i].state = .orphaned := by rw [← hp]; exact e.2
    rw [ho] at hs
    rcases hs with h | h | h <;> cases h

theorem endable_departing {p : PortId} (hl : PoolLaw s) {a : State} (hp : a.pool = s.pool) :
    Endable p (departing p s) (orphansFreed p (queueEmptied p a)) := fun i hi => by
  obtain ⟨hip, his⟩ := (mem_departing hl).mp hi
  rw [departing_pool hl hp hi]
  exact ⟨hip, fun e => by rw [e] at his; rcases his with h | h | h <;> cases h⟩

theorem depart_eq {p : PortId} (st : EndStatus) (hl : PoolLaw s) {a : State} (hp : a.pool = s.pool)
    (hq : a.ports[p].queue = s.ports[p].queue) (ht : a.ports[p].tx = .idle) :
    depart p st a = clearCard p (reevaluate p (endAll st (departing p s) (orphansFreed p (queueEmptied p a)))) := by
  rw [depart, endQueued_endInFlight st hl hp hq ht, departing]

theorem departure_depart {p : PortId} (st : EndStatus) (hl : PoolLaw s) {a : State} (hp : a.pool = s.pool)
    (hq : a.ports[p].queue = s.ports[p].queue) (ht : a.ports[p].tx = .idle) : Departure p st s a (depart p st a) := by
  rw [depart_eq st hl hp hq ht]
  have hemptied : (queueEmptied p a).ports[p] = { a.ports[p] with queue := [] } := modPort_self ..
  have hports : (orphansFreed p (queueEmptied p a)).ports = (queueEmptied p a).ports := orphansFreed_ports ..
  have hmade := endsMade_endAll (p := p) st (nodup_departing p hl) (endable_departing hl hp)
    (by rw [hports, hemptied]; exact ht)
  have hnotices : (orphansFreed p (queueEmptied p a)).notices = a.notices := by unfold orphansFreed; rfl
  have hstart (i : RecId) : (orphansFreed p (queueEmptied p a)).pool[i] =
      if s.pool[i].port = some p ∧ s.pool[i].state = .orphaned then freeExchange else s.pool[i] := by
    rw [← hp]; exact orphansFreed_pool ..
  have hsame (i : RecId) (hi : i ∈ departing p s) := departing_pool (a := a) hl hp hi
  generalize orphansFreed p (queueEmptied p a) = f at hports hmade hnotices hstart hsame ⊢
  generalize endAll st (departing p s) f = e at hmade ⊢
  have hkept := evalKept_reevaluate p e
  have hcleared := clearCard_kept p (reevaluate p e)
  have hpool (i : RecId) (h : e.pool[i].state ≠ .reserved) : (clearCard p (reevaluate p e)).pool[i] = e.pool[i] := by
    rw [hcleared.2.1]; exact hkept.pool i h
  refine ⟨?_, ?_, fun i hip his ho => ?_, fun i hip his ho => ?_, fun i hip his => ?_, fun i his => ?_, fun i hip his => ?_⟩
  · obtain ⟨out, n, h⟩ := hmade.ports
    refine ⟨out, n, ?_⟩
    rw [hcleared.1]
    refine (reevaluate_kept p e).1.trans (h.trans ?_)
    simp only [withPort, hports, hemptied]
    simp only [queueEmptied, modPort, Vector.set_set]
  · rw [hcleared.2.2.1]
    have h : a.notices = e.notices := (hmade.notices.trans hnotices).symm
    rw [h]
    exact subset_reevaluate p e
  · have hi := (mem_departing hl).mpr ⟨hip, his⟩
    obtain ⟨h1, h2⟩ := hmade.held i hi (by rw [hsame i hi]; exact ho)
    rw [hpool i (by rw [h1]; decide)]
    exact ⟨h1, h2⟩
  · have hi := (mem_departing hl).mpr ⟨hip, his⟩
    have h := hmade.freed i hi (by rw [hsame i hi]; exact ho)
    rw [hpool i (by rw [h]; decide), h]
  · have hi : i ∉ departing p s := fun hi => by
      have := ((mem_departing hl).mp hi).2
      rw [his] at this
      rcases this with h | h | h <;> cases h
    have hf := hstart i
    rw [if_pos ⟨hip, his⟩] at hf
    have h := hmade.rest i hi (by rw [hf]; decide)
    rw [hf] at h
    rw [hpool i (by rw [h]; decide), h]
  · have hi : i ∉ departing p s := fun hi => by
      have := ((mem_departing hl).mp hi).2
      rw [his] at this
      rcases this with h | h | h <;> cases h
    have hf := hstart i
    rw [if_neg fun g => by rw [g.2] at his; cases his] at hf
    have h := hmade.rest i hi (by rw [hf, his]; decide)
    rw [hf] at h
    rw [hpool i (by rw [h, his]; decide), h]
  · have hi : i ∉ departing p s := fun hi => hip ((mem_departing hl).mp hi).1
    have hf := hstart i
    rw [if_neg fun g => hip g.1] at hf
    have h := hmade.rest i hi (by rw [hf]; exact his)
    rw [hf] at h
    rw [hpool i (by rw [h]; exact his), h]

end

end Sys2Proof.Machine
end

section
/-! SUPPORT. Departures of a port from READY, and the silent device, as the statements give them. -/

namespace Sys2Proof.Machine

section
variable {s : State}

/-! ### A port that has changed, with its notice -/

/-- A notice raised, where there is one. -/
def noticed (n : Option Notice) (s : State) : State := match n with | some m => raiseNotice m s | none => s

/-- `s` as the cause of a departure leaves it: the port `moved` but for its queue, and the notice raised. -/
def turned (p : PortId) (n : Option Notice) (moved : Port) (s : State) : State :=
  noticed n (withPort p { moved with queue := s.ports[p].queue } s)

/-- A notice that concerns no lamp. -/
def NoCall (n : Option Notice) : Prop := ∀ k, n ≠ some (.call k)

theorem noticed_frame {n : Option Notice} (hn : NoCall n) (s : State) :
    noticed n s = { s with notices := (noticed n s).notices, wattn := (noticed n s).wattn } := by
  cases n with
  | none => rfl
  | some m => exact (raised_of_ne_call (fun k e => hn k (by rw [e])) s).1

theorem noticed_withPort (n : Option Notice) (p : PortId) (q : Port) (s : State) :
    noticed n (withPort p q s) = withPort p q (noticed n s) := by
  cases n with
  | none => rfl
  | some m => exact raiseNotice_withPort m p q s

theorem noticed_mem {n : Option Notice} {m : Notice} (h : n = some m) (s : State) : m ∈ (noticed n s).notices := by
  rw [h]
  exact (mem_raiseNotice m m s).mpr (.inl rfl)

section
variable {p : PortId} {n : Option Notice} {moved : Port}

theorem turned_kept (hn : NoCall n) (p : PortId) (moved : Port) (s : State) : (turned p n moved s).pool = s.pool ∧
    (turned p n moved s).positions = s.positions ∧ (turned p n moved s).control = s.control ∧
    (turned p n moved s).groupRecords = s.groupRecords ∧ (turned p n moved s).tx = s.tx ∧ (turned p n moved s).line = s.line ∧
    (turned p n moved s).owners = s.owners := by
  unfold turned
  rw [noticed_frame hn]
  exact ⟨rfl, rfl, rfl, rfl, rfl, rfl, rfl⟩

theorem turned_ports (hn : NoCall n) (p : PortId) (moved : Port) (s : State) :
    (turned p n moved s).ports = (withPort p { moved with queue := s.ports[p].queue } s).ports := by
  unfold turned
  rw [noticed_frame hn]

theorem turned_port (hn : NoCall n) (p : PortId) (moved : Port) (s : State) :
    (turned p n moved s).ports[p] = { moved with queue := s.ports[p].queue } := by rw [turned_ports hn, ports_withPort]

theorem queueEmptied_turned (hn : NoCall n) (hq : moved.queue = []) :
    queueEmptied p (turned p n moved s) = noticed n (withPort p moved s) := by
  have hm : { moved with queue := [] } = moved := by rw [← hq]
  rw [queueEmptied, modPort_eq_withPort, turned_port hn]
  unfold turned
  rw [noticed_withPort, noticed_withPort, withPort_withPort, hm]

theorem departure_turned (hn : NoCall n) (st : EndStatus) (hl : PoolLaw s) (ht : moved.tx = .idle) :
    Departure p st s (turned p n moved s) (depart p st (turned p n moved s)) :=
  departure_depart st hl (turned_kept hn p moved s).1 (by rw [turned_port hn]) (by rw [turned_port hn]; exact ht)

/-! ### The whole next state (R12, R41, R73, R128) -/

/-- A part of the positions that an end leaves as it was. -/
theorem endExchange_field {β : Type} (g : Position → β) (hg : ∀ m q, g (lit m q) = g q) (he : ∀ q : Position, g { q with entry := none } = g q)
    (i : RecId) (st : EndStatus) (status : Byte) (data : List Byte) (s : State) (k : PosId) :
    g (endExchange i st status data s).positions[k] = g s.positions[k] := by
  unfold endExchange
  split
  · rfl
  · rename_i p _
    have hb : (reportToGroup s.pool[i].group (reportToPort p i st (modRec i (fun r =>
        { r with endStatus := some st, deviceStatus := status, replyData := data, deadline := none }) s))).positions = s.positions := by
      cases s.pool[i].group with
      | none => rfl
      | some tag =>
        show (memberEnded tag _).positions = _
        rw [memberEnded_frame]
        rfl
    dsimp only
    generalize reportToGroup s.pool[i].group (reportToPort p i st (modRec i (fun r =>
        { r with endStatus := some st, deviceStatus := status, replyData := data, deadline := none }) s)) = b at hb ⊢
    split
    · unfold endDelivery
      dsimp only
      split
      · rw [endEntry_field g hg he]
        show g b.positions[k] = _
        rw [hb]
      · show g b.positions[k] = _
        rw [hb]
    · show g b.positions[k] = _
      rw [hb]

theorem endAll_field {β : Type} (g : Position → β) (hg : ∀ m q, g (lit m q) = g q) (he : ∀ q : Position, g { q with entry := none } = g q)
    (st : EndStatus) (l : List RecId) (s : State) (k : PosId) : g (endAll st l s).positions[k] = g s.positions[k] := by
  induction l generalizing s with
  | nil => rfl
  | cons i l ih => exact (ih (endExchange i st 0 [] s)).trans (endExchange_field g hg he i st 0 [] s k)

theorem orphansFreed_frame (p : PortId) (s : State) : orphansFreed p s = { s with pool := (orphansFreed p s).pool } := by
  unfold orphansFreed; rfl

/-- The ends of a departure, in their order, before the reports to route table and position control. -/
def endsOf (p : PortId) (st : EndStatus) (n : Option Notice) (moved : Port) (s : State) : State :=
  endAll st (departing p s) (orphansFreed p (noticed n (withPort p moved s)))

theorem depart_turned (hn : NoCall n) (st : EndStatus) (hl : PoolLaw s) (ht : moved.tx = .idle) (hq : moved.queue = []) :
    depart p st (turned p n moved s) = clearCard p (reevaluate p (endsOf p st n moved s)) := by
  rw [depart_eq st hl (turned_kept hn p moved s).1 (by rw [turned_port hn]) (by rw [turned_port hn]; exact ht),
    queueEmptied_turned hn hq, endsOf]

theorem endsOf_start_positions (hn : NoCall n) : (orphansFreed p (noticed n (withPort p moved s))).positions = s.positions := by
  rw [orphansFreed_frame, noticed_frame hn]; rfl

theorem positionLaw_start (hn : NoCall n) (hpos : PositionLaw s) : PositionLaw (orphansFreed p (noticed n (withPort p moved s))) := by
  refine hpos.congr (endsOf_start_positions hn) ?_ ?_ <;> (rw [orphansFreed_frame, noticed_frame hn]; rfl)

theorem endable_start (hn : NoCall n) (hl : PoolLaw s) : Endable p (departing p s) (orphansFreed p (noticed n (withPort p moved s))) := by
  intro i hi
  obtain ⟨hip, his⟩ := (mem_departing hl).mp hi
  have hpool : (noticed n (withPort p moved s)).pool = s.pool := by rw [noticed_frame hn]; rfl
  have hsame : (orphansFreed p (noticed n (withPort p moved s))).pool[i] = s.pool[i] := by
    rw [orphansFreed_pool, hpool, if_neg fun e => by rw [e.2] at his; rcases his with h | h | h <;> cases h]
  rw [hsame]
  exact ⟨hip, fun e => by rw [e] at his; rcases his with h | h | h <;> cases h⟩

theorem endsOf_eq (hn : NoCall n) (st : EndStatus) (hl : PoolLaw s) (hpos : PositionLaw s) :
    endsOf p st n moved s = endedAll p st (departing p s) (orphansFreed p (noticed n (withPort p moved s))) :=
  endAll_eq st (nodup_departing p hl) (endable_start hn hl) (positionLaw_start hn hpos)

/-- The ends see no difference between the state before the port's change and the state after it. -/
theorem endAlike_start (hn : NoCall n) (ho : moved.outbound = s.ports[p].outbound) :
    EndAlike p s (orphansFreed p (noticed n (withPort p moved s))) := by
  have hf := noticed_frame hn (withPort p moved s)
  have hpool : (noticed n (withPort p moved s)).pool = s.pool := by rw [hf]; rfl
  refine ⟨?_, ?_, ?_, ?_, endsOf_start_positions hn, ?_, fun i => ?_⟩
  · rw [orphansFreed_frame, hf]; rfl
  · rw [orphansFreed_frame, hf]; rfl
  · rw [orphansFreed_frame, hf]; rfl
  · rw [orphansFreed_frame, hf]; rfl
  · rw [orphansFreed_ports, hf]
    show (withPort p moved s).ports[p].outbound = _
    rw [ports_withPort, ho]
  · rw [orphansFreed_pool, hpool]
    split
    · rename_i h; exact .inr ⟨h.2, rfl⟩
    · exact .inl rfl

/-- A departure in a state of the laws: the lists of the ends, the lost entries, the card states, and the whole next state. -/
structure LegalDeparture (p : PortId) (st : EndStatus) (n : Option Notice) (moved : Port) (s t : State) : Prop where
  ends : DepartedWith p (endedAll p st (departing p s) s) t
  lost : st = .detached ∨ st = .faulted ∨ st = .reset → ∀ (k : PosId) (e : Entry), s.positions[k].entry = some e → e.state = .delivering →
    s.pool[e.record].port = some p → Lost st k s.positions[k].session t
  card : ∀ k : PosId, t.positions[k].card =
    if s.owners[p] ≠ none ∧ s.positions[k].reader = s.owners[p] then .noCard else s.positions[k].card
  whole : PortsLaw s → LeavesReady p st n moved s t

theorem legalDeparture (hn : NoCall n) (st : EndStatus) (hl : PoolLaw s) (hpos : PositionLaw s) (hm : moved.state ≠ .ready)
    (ht : moved.tx = .idle) (hq : moved.queue = []) (ho : moved.outbound = s.ports[p].outbound) :
    LegalDeparture p st n moved s (depart p st (turned p n moved s)) := by
  have hends := endsOf_eq (p := p) (moved := moved) hn st hl hpos
  have hstartlaw := positionLaw_start (p := p) (moved := moved) hn hpos
  have halike := (endAlike_start (n := n) hn ho).endedAll st (l := departing p s) fun i hi e => by
    have := ((mem_departing hl).mp hi).2
    rw [e] at this
    rcases this with h | h | h <;> cases h
  rw [← hends] at halike
  have hmade : EndsMade p st (departing p s) _ (endsOf p st n moved s) :=
    endsMade_endAll st (nodup_departing p hl) (endable_start hn hl) (by
      rw [orphansFreed_ports, noticed_frame hn]
      show (withPort p moved s).ports[p].tx = .idle
      rw [ports_withPort, ht])
  have hlaw : PositionLaw (endsOf p st n moved s) := positionLaw_endAll st _ hstartlaw
  have howners : (endsOf p st n moved s).owners = s.owners := by
    rw [hmade.owners, orphansFreed_frame, noticed_frame hn]
    rfl
  have hfield {β : Type} (g : Position → β) (hg : ∀ m q, g (lit m q) = g q) (he : ∀ q : Position, g { q with entry := none } = g q)
      (k : PosId) : g (endsOf p st n moved s).positions[k] = g s.positions[k] :=
    (endAll_field g hg he st _ _ k).trans (by rw [endsOf_start_positions hn])
  have hident (hports : PortsLaw s) : ReadyIdentified (endsOf p st n moved s) := fun r hr => by
    obtain ⟨out, m, h⟩ := hmade.ports
    have hstart : (orphansFreed p (noticed n (withPort p moved s))).ports = (withPort p moved s).ports := by
      rw [orphansFreed_ports, noticed_frame hn]
    by_cases hrp : r = p
    · rw [hrp, h, ports_withPort, hstart, ports_withPort] at hr
      exact absurd hr hm
    · rw [h, ports_withPort_ne hrp, hstart, ports_withPort_ne hrp] at hr ⊢
      exact hports.readyIdentified r hr
  rw [depart_turned hn st hl ht hq]
  have hwhole (hports : PortsLaw s) (a : State) (ha : a = endsOf p st n moved s) :
      Reevaluated p (List.finRange 24) a (reevaluate p a) := by
    rw [ha]; exact reevaluated_reevaluate p hlaw (hident hports)
  have hlost : st = .detached ∨ st = .faulted ∨ st = .reset → ∀ (k : PosId) (e : Entry), s.positions[k].entry = some e →
      e.state = .delivering → s.pool[e.record].port = some p → Lost st k s.positions[k].session (endedAll p st (departing p s) s) :=
    fun hst k e he hd hp => by
      obtain ⟨hs, ho, hk⟩ := hl.delivering k e he hd
      refine endedAll_lost hst ((mem_departing hl).mpr ⟨hp, hs⟩) ho hk (by rw [he]; exact Option.some_ne_none e) fun h => ?_
      rw [h] at hs
      rcases hs with g | g | g <;> cases g
  generalize hE : endsOf p st n moved s = e at *
  have hkept := evalKept_reevaluate p e
  have hrlaw : PositionLaw (reevaluate p e) := (keeps_reevaluate (A := True) (n := 0) p).position hlaw
  have hcleared := clearCard_kept p (reevaluate p e)
  refine ⟨⟨?_, ?_, ?_⟩, fun hst k x hx hd hp => ?_, fun k => ?_, fun hports => ?_⟩
  · rw [hcleared.1, (reevaluate_kept p e).1, halike.outbound]
  · rw [hcleared.2.2.2.2, hkept.groupRecords, halike.groupRecords]
  · obtain ⟨l, hcontrol, hframes⟩ := hkept.control
    exact ⟨l, by rw [hcleared.2.2.2.1, hcontrol, halike.control], fun f hf => .inl (hframes f hf)⟩
  · obtain ⟨hnone, hframe⟩ := hlost hst k x hx hd hp
    rw [← halike.positions] at hnone
    rw [← halike.control] at hframe
    refine ⟨?_, ?_⟩
    · rw [clearCard_entry]; exact hkept.entry k hnone
    · obtain ⟨l, hcontrol, -⟩ := hkept.control
      have hm : ControlFrame.entryEnd k s.positions[k].session .notDelivered (lossCause st) 0 [] ∈ (reevaluate p e).control.filter lasting := by
        rw [hcontrol]
        exact List.mem_append_left _ (List.mem_filter.mpr ⟨hframe, rfl⟩)
      rw [hcleared.2.2.2.1]
      exact (List.mem_filter.mp hm).1
  · rw [clearCard_eq p hrlaw, cardsCleared_positions, hkept.owners, howners, hkept.reader, hfield (·.reader) lit_reader fun _ => rfl]
    split
    · rfl
    · rw [hkept.card, hfield (·.card) lit_card fun _ => rfl]
  · refine ⟨noticed n (withPort p moved s), reevaluate p e, fun m hmn => ?_, fun hnn => by rw [hnn]; rfl, ?_, clearCard_eq p hrlaw⟩
    · rw [hmn]
      exact raised_of_ne_call (fun k h => hn k (by rw [hmn, h])) _
    · exact hends ▸ hwhole hports e rfl

end
end

end Sys2Proof.Machine
end

section
/-! SUPPORT. The commands by which a port leaves READY, and the deadline that faults a silent device. -/

namespace Sys2Proof.Machine

section
variable {s : State} {p : PortId}

/-! ### The commands of a departure -/

theorem spends_endInFlight (p : PortId) (st : EndStatus) (s : State) : Spends (endInFlight p st) s := by
  have hf (r : Nat) : inFlight p (withReservations r s) = inFlight p s := rfl
  have hp (r : Nat) : (withReservations r s).pool = s.pool := rfl
  cases h : inFlight p s with
  | none => exact .of_commute fun r => by simp only [endInFlight, hf, h]
  | some i =>
    have hdrop : Spends (dropOrphan i) s := by
      refine .of_commute fun r => ?_
      cases hi : s.pool[i].port with
      | none => simp only [dropOrphan, hp, hi]
      | some q => simp only [dropOrphan, hp, hi]; rfl
    unfold Spends
    simp only [endInFlight, hf, h, hp]
    split
    · exact hdrop
    · exact spends_endExchange i st 0 [] s

theorem spends_endQueued (p : PortId) (st : EndStatus) (s : State) : Spends (endQueued p st) s := by
  have hq : Spends (queueEmptied p) s := .of_commute fun _ => rfl
  exact hq.comp (g := endAll st s.ports[p].queue) (spends_endAll st _ _)

theorem Spends.next {f g : State → State} (hf : Spends f s) (hg : ∀ t, Spends g t) : Spends (fun t => g (f t)) s := hf.comp (hg (f s))

theorem spends_depart (p : PortId) (st : EndStatus) (s : State) : Spends (depart p st) s := by
  have hends : Spends (fun t => endQueued p st (endInFlight p st t)) s := (spends_endInFlight p st s).next (spends_endQueued p st)
  have hroute : Spends (fun t => reevaluate p (endQueued p st (endInFlight p st t))) s := hends.next (spends_reevaluate p)
  have hcard : Spends (fun t => clearCard p (reevaluate p (endQueued p st (endInFlight p st t)))) s := hroute.next (spends_clearCard p)
  unfold Spends at hcard ⊢
  unfold depart
  exact hcard

theorem noticed_withReservations (n : Option Notice) (r : Nat) (s : State) :
    noticed n (withReservations r s) = withReservations r (noticed n s) := by
  cases n with
  | none => rfl
  | some m => exact raiseNotice_withReservations m r s

/-- The reply of a request by which a port departs (R158). -/
theorem replied_depart (n : Option Notice) (moved : Port) (st : EndStatus) (tag : Byte) (s : State) :
    replied tag (depart p st (turned p n moved (reserveSlot s)), .ok []) = answered tag .ok [] (depart p st (turned p n moved s)) := by
  have hturn : Spends (fun u => noticed n (withPort p { moved with queue := s.ports[p].queue } u)) s :=
    .of_commute fun r => noticed_withReservations n r (withPort p { moved with queue := s.ports[p].queue } s)
  exact (hturn.comp (spends_depart p st _)).replied tag []

theorem departIf_ready {x : State} (h : s.ports[p].state = .ready) (st : EndStatus) : departIf (portReady p s) p st x = depart p st x :=
  if_pos ((portReady_iff s p).mpr h)

/-- The port that a fault leaves (R35, R40). -/
def faultedPort (c : FaultCause) (q : Port) : Port :=
  { quiet q with
    queue := [], state := .fault, cause := c, supply := q.supply && decide (c ≠ .overcurrent), pulse := none, resetLine := false }

theorem enterFault_ready (c : FaultCause) (h : s.ports[p].state = .ready) :
    enterFault p c s = depart p .faulted (turned p (some (.portFault p)) (faultedPort c s.ports[p]) s) := by
  rw [enterFault, departIf_ready h]
  rfl

theorem presenceLost_ready (h : s.ports[p].state = .ready) : presenceLost p s = depart p .detached (turned p (some (.portDetached p))
    { quiet s.ports[p] with queue := [], present := false, state := .empty, identity := none } s) := by
  simp only [presenceLost, h]
  rfl

theorem takeResetPort_ready (h : s.ports[p].state = .ready) : takeResetPort [portCode p] s = (depart p .reset (turned p none
    { quiet s.ports[p] with queue := [], state := .settling, pulse := some 50, resetLine := true } s), .ok []) := by
  have hn : ¬ (s.ports[p].state = .off ∨ s.ports[p].state = .fault) := by rw [h]; decide
  simp only [takeResetPort, parseOne, portOf_portCode, if_neg hn, resetThePort, departIf_ready h]
  rfl

theorem takeSetPort_ready {w : PortWrite} (h : s.ports[w.port].state = .ready) (hw : w.power = some false) (hf : SettingsFit w)
    (hb : ¬ SettingsBusy w s) : takeSetPort (portLayout w) s = (depart w.port .detached (turned w.port none
      { quiet s.ports[w.port] with
        queue := [], config := settingsAfter w s.ports[w.port].config, state := .off, supply := false, identity := none, cause := .none
        pulse := none, resetLine := false } s), .ok []) := by
  have hsel : Selects w := by simp only [Selects, hw]; simp
  have hst : (storeSettings w s.ports[w.port]).state = .ready := (storeSettings_state w _).trans h
  have hport : (modPort w.port (storeSettings w) s).ports[w.port] = storeSettings w s.ports[w.port] := modPort_self ..
  have hready : (modPort w.port (storeSettings w) s).ports[w.port].state = .ready := by rw [hport]; exact hst
  have hoff : switchOff (storeSettings w s.ports[w.port]) = { quiet s.ports[w.port] with
      config := settingsAfter w s.ports[w.port].config, state := .off, supply := false, identity := none, cause := .none
      pulse := none, resetLine := false } := by
    rw [switchOff, hst, if_neg (by decide), storeSettings_cases]
    split <;> rfl
  rw [takeSetPort_portLayout hsel hf, if_neg fun g => hb ((portWriteBusy_iff w s).mp g)]
  simp only [applyPower, hw, powerOff]
  rw [if_neg (by rw [hready]; decide), departIf_ready hready, modPort_modPort, modPort_eq_withPort, hoff]
  rfl

/-! ### What the statement of a departure says of its next state -/

/-- Everything that `DepartsBy` says of the port and the notice, whatever the command. -/
theorem departsBy_port {c : Instr} {st : EndStatus} {n : Option Notice} {moved : Port} {answer : Option Byte}
    (hd : DepartsBy p s c st n moved answer) : moved.state ≠ .ready ∧ moved.tx = .idle ∧ moved.queue = [] ∧
      moved.outbound = s.ports[p].outbound ∧ NoCall n ∧ (st = .detached ∨ st = .faulted ∨ st = .reset) := by
  rcases hd with ⟨-, rfl, rfl, -, rfl⟩ | ⟨-, rfl, rfl, -, rfl⟩ | ⟨tag, -, -, rfl, rfl, -, rfl⟩ | ⟨tag, w, -, -, -, -, -, -, rfl, rfl, -, rfl⟩
  · exact ⟨(nofun : PortState.empty ≠ .ready), rfl, rfl, rfl, fun k => nofun, .inl rfl⟩
  · exact ⟨(nofun : PortState.fault ≠ .ready), rfl, rfl, rfl, fun k => nofun, .inr (.inl rfl)⟩
  · exact ⟨(nofun : PortState.settling ≠ .ready), rfl, rfl, rfl, fun k => nofun, .inr (.inr rfl)⟩
  · exact ⟨(nofun : PortState.off ≠ .ready), rfl, rfl, rfl, fun k => nofun, .inl rfl⟩

/-- The state after a departure, with the reply of its request where there is one. -/
def replyAdded (answer : Option Byte) (x : State) : State := match answer with | some tag => answered tag .ok [] x | none => x

theorem exec_departs {c : Instr} {st : EndStatus} {n : Option Notice} {moved : Port} {answer : Option Byte}
    (hr : s.ports[p].state = .ready) (hd : DepartsBy p s c st n moved answer) :
    exec c s = .next (replyAdded answer (depart p st (turned p n moved s))) := by
  rcases hd with ⟨rfl, rfl, rfl, rfl, rfl⟩ | ⟨rfl, rfl, rfl, rfl, rfl⟩ | ⟨tag, hslot, rfl, rfl, rfl, rfl, rfl⟩ |
    ⟨tag, w, hslot, rfl, rfl, hw, hf, hb, rfl, rfl, rfl, rfl⟩
  · exact congrArg Host.Outcome.next (presenceLost_ready hr)
  · have hs : supplied s.ports[p] = true := by simp only [supplied, hr]
    have hx : (if supplied s.ports[p] = true then enterFault p .overcurrent s else s) = enterFault p .overcurrent s := if_pos hs
    refine congrArg Host.Outcome.next (hx.trans ?_)
    rw [enterFault_ready _ hr, faultedPort, show (s.ports[p].supply && decide (FaultCause.overcurrent ≠ .overcurrent)) = false from Bool.and_false _]
    rfl
  · refine congrArg Host.Outcome.next ((manage_slot s hslot).trans ?_)
    rw [takeResetPort_ready (s := reserveSlot s) hr]
    exact replied_depart none _ .reset tag s
  · refine congrArg Host.Outcome.next ((manage_slot s hslot).trans ?_)
    rw [takeSetPort_ready (s := reserveSlot s) hr hw hf fun h => hb h]
    exact replied_depart none _ .detached tag s

theorem replyAdded_kept (answer : Option Byte) (x : State) : (replyAdded answer x).ports = x.ports ∧ (replyAdded answer x).pool = x.pool ∧
    (replyAdded answer x).notices = x.notices ∧ (replyAdded answer x).positions = x.positions ∧
    (replyAdded answer x).groupRecords = x.groupRecords ∧
    ∃ l, (replyAdded answer x).control = x.control ++ l ∧ ∀ f ∈ l, ∃ tag, f = .reply tag .ok [] := by
  cases answer with
  | none => exact ⟨rfl, rfl, rfl, rfl, rfl, [], (List.append_nil _).symm, nofun⟩
  | some tag => exact ⟨rfl, rfl, rfl, rfl, rfl, [.reply tag .ok []], rfl, fun f hf => ⟨tag, List.mem_singleton.mp hf⟩⟩

theorem DepartedWith.replyAdded {b x : State} (h : DepartedWith p b x) (answer : Option Byte) : DepartedWith p b (replyAdded answer x) := by
  obtain ⟨hports, -, -, -, hgroups, l, hcontrol, hl⟩ := replyAdded_kept answer x
  obtain ⟨m, hm, hf⟩ := h.control
  refine ⟨by rw [hports]; exact h.outbound, hgroups.trans h.groups, m ++ l, ?_, fun f hfm => ?_⟩
  · have hlast : l.filter lasting = l := List.filter_eq_self.mpr fun f hfl => by
      obtain ⟨tag, rfl⟩ := hl f hfl
      rfl
    rw [hcontrol, List.filter_append, hm, hlast, List.append_assoc]
  · exact (List.mem_append.mp hfm).elim (hf f) fun h => .inr (hl f h)

end

/-- Settles O13: `departure_turned` without the positions' law, and `legalDeparture` with it, for the command that `exec_departs` runs. -/
theorem departureEndsExchanges : Obligations.DepartureEndsExchanges := by
  intro p s c st n moved answer hl hr hd
  obtain ⟨hm, ht, hq, ho, hn, hst⟩ := departsBy_port hd
  have hdep := departure_turned (p := p) (moved := moved) hn st hl ht
  obtain ⟨out, m, hports⟩ := hdep.ports
  have hlegal (hpos : PositionLaw s) := legalDeparture hn st hl hpos hm ht hq ho
  have hmem {x : Notice} (h : n = some x) : x ∈ (turned p n moved s).notices := noticed_mem h _
  obtain ⟨kports, kpool, knotices, kpositions, -, l, kcontrol, -⟩ := replyAdded_kept answer (depart p st (turned p n moved s))
  refine ⟨_, exec_departs hr hd, ?_⟩
  have hport : (replyAdded answer (depart p st (turned p n moved s))).ports[p] =
      { moved with outbound := s.ports[p].outbound ++ out, failures := m } := by
    rw [kports, hports, ports_withPort, turned_port hn, ← hq, ← ho]
  rw [hport]
  refine ⟨rfl, rfl, hq, ht, fun x hx => ?_, ⟨out, rfl⟩, fun i hi => ⟨fun his => ?_, fun h => ?_, fun h => ?_⟩, fun i hi h => ?_, fun hpos => ?_⟩
  · rw [knotices]; exact hdep.notices (hmem hx)
  · rw [kpool]; exact ⟨hdep.held i hi his, hdep.freed i hi his⟩
  · rw [kpool]; exact hdep.orphan i hi h
  · rw [kpool]; exact hdep.kept i h
  · rw [kpool]; exact hdep.others i hi h
  · intro flying cause
    have hg := hlegal hpos
    have hcause : cause = lossCause st := by rcases hst with rfl | rfl | rfl <;> rfl
    refine ⟨hg.ends.replyAdded answer, fun k e he hde hp => ?_, fun k => by rw [kpositions]; exact hg.card k,
      fun hpl => ⟨_, hg.whole hpl, rfl⟩⟩
    obtain ⟨hnone, hframe⟩ := hg.lost hst k e he hde hp
    rw [kpositions, kcontrol, hcause]
    exact ⟨hnone, List.mem_append_left _ hframe⟩

end Sys2Proof.Machine
end

section
/-! SUPPORT. The last deadline of an exchange, and the silent device. -/

namespace Sys2Proof.Machine

section
variable {s b : State} {p : PortId} {i : RecId}

/-- What the end of the exchange in flight, or of an orphan, at its last deadline leaves: its port READY, with one failure more, and
nothing in flight there (R40, R61, R76). -/
structure TimedOut (p : PortId) (i : RecId) (s b : State) : Prop where
  law : PoolLaw b
  ready : b.ports[p].state = .ready
  failures : b.ports[p].failures = s.ports[p].failures + 1
  outbound : ∃ out, b.ports[p].outbound = s.ports[p].outbound ++ out
  quiet : flyingOn p b = []

/-- The exchange in flight has ended, and every other record is as it was or freed. -/
theorem flyingOn_ended (hl : PoolLaw s) (hp : s.pool[i].port = some p) (hf : isInFlight s.pool[i] = true)
    (hi : b.pool[i].state ≠ .sending ∧ b.pool[i].state ≠ .awaiting) (hb : ∀ j, j ≠ i → b.pool[j] = s.pool[j] ∨ b.pool[j] = freeExchange) :
    flyingOn p b = [] := by
  refine List.eq_nil_iff_forall_not_mem.mpr fun j hj => ?_
  obtain ⟨hjp, hjs⟩ := mem_flyingOn.mp hj
  by_cases hji : j = i
  · rw [hji] at hjs
    exact hjs.elim hi.1 hi.2
  · rcases hb j hji with e | e
    · rw [e] at hjp hjs
      exact hji (hl.alone j i (isInFlight_of_state (hjs.imp_right .inl)) hf (hjp.trans hp.symm))
    · rw [e] at hjs
      rcases hjs with h | h <;> cases h

theorem timedOut_endExchange (hl : PoolLaw s) (hp : s.pool[i].port = some p) (hs : s.pool[i].state = .awaiting) :
    TimedOut p i s (endExchange i .timeout 0 [] s) := by
  have hf : isInFlight s.pool[i] = true := isInFlight_of_state (.inr (.inl hs))
  obtain ⟨r, hr, hready⟩ := hl.flying i hf
  rw [hp] at hr
  cases hr
  have hlaw : PoolLaw (endExchange i .timeout 0 [] s) := poolLaw_of_ends hl hf fun hx => ends_endExchange hx rfl _ _ _
  obtain ⟨out, hout⟩ := ended_ports_told (s := s) (i := i) p .timeout 0 []
  have hout : (ended p i .timeout 0 [] s).ports[p] = { s.ports[p] with
      outbound := s.ports[p].outbound ++ out, failures := s.ports[p].failures + 1, tx := releaseTx i s.ports[p].tx } := by
    rw [hout, ports_withPort, portTold, ports_withPort]
  have hpool (j : RecId) (hj : j ≠ i) : (ended p i .timeout 0 [] s).pool[j] = s.pool[j] ∨ (ended p i .timeout 0 [] s).pool[j] = freeExchange :=
    (ended_pool_ne p .timeout 0 [] hj).imp_right (·.2)
  have hself : (ended p i .timeout 0 [] s).pool[i].state ≠ .sending ∧ (ended p i .timeout 0 [] s).pool[i].state ≠ .awaiting := by
    by_cases ho : s.pool[i].origin = some .delivery
    · rw [ended_pool_delivery p .timeout 0 [] ho]; exact ⟨nofun, nofun⟩
    · rw [ended_pool_workstation p .timeout 0 [] ho]; exact ⟨nofun, nofun⟩
  have hone := endExchange_but_lamps .timeout 0 [] hp
  have hports : (endExchange i .timeout 0 [] s).ports = (ended p i .timeout 0 [] s).ports := by rw [hone]
  refine ⟨hlaw, by rw [hports, hout]; exact hready, by rw [hports, hout], ⟨out, by rw [hports, hout]⟩, ?_⟩
  have hpl : (endExchange i .timeout 0 [] s).pool = (ended p i .timeout 0 [] s).pool := by rw [hone]
  exact flyingOn_ended hl hp hf (by rw [hpl]; exact hself) fun j hj => by rw [hpl]; exact hpool j hj

theorem timedOut_endOrphan (hl : PoolLaw s) (hp : s.pool[i].port = some p) (hs : s.pool[i].state = .orphaned) :
    TimedOut p i s (orphanEnded p i (s.ports[p].failures + 1) s) := by
  have hf : isInFlight s.pool[i] = true := isInFlight_of_state (.inr (.inr hs))
  obtain ⟨r, hr, hready⟩ := hl.flying i hf
  rw [hp] at hr
  cases hr
  have hlaw : PoolLaw (endOrphan i .timeout s) := poolLaw_of_ends hl hf fun hx => ends_endOrphan hx rfl hs _
  rw [endOrphan_eq s .timeout hp] at hlaw
  have hport : (orphanEnded p i (s.ports[p].failures + 1) s).ports[p] =
      { s.ports[p] with failures := s.ports[p].failures + 1, tx := releaseTx i s.ports[p].tx } := ports_withPort _ _ _
  have hself : (orphanEnded p i (s.ports[p].failures + 1) s).pool[i] = freeExchange := pool_set_self _ _ _
  refine ⟨hlaw, by rw [hport]; exact hready, by rw [hport], ⟨[], by rw [hport, List.append_nil]⟩, ?_⟩
  exact flyingOn_ended hl hp hf (by rw [hself]; exact ⟨nofun, nofun⟩) fun j hj => .inl (pool_set_ne hj freeExchange s.pool)

theorem silentCheck_few (h : TimedOut p i s b) (hn : s.ports[p].failures < 3) : silentCheck p b = b :=
  if_neg fun g => by have := h.failures; omega

theorem silentCheck_fourth (h : TimedOut p i s b) (hn : s.ports[p].failures = 3) : silentCheck p b =
    depart p .faulted (turned p (some (.portFault p)) (faultedPort .silentDevice b.ports[p]) b) := by
  rw [silentCheck, if_pos ⟨(portReady_iff b p).mpr h.ready, by have := h.failures; omega⟩, enterFault_ready _ h.ready]

theorem faultedPort_silent (q : Port) : faultedPort .silentDevice q =
    { quiet q with queue := [], state := .fault, cause := .silentDevice, pulse := none, resetLine := false } := by
  rw [faultedPort, show (q.supply && decide (FaultCause.silentDevice ≠ .overcurrent)) = (quiet q).supply from Bool.and_true _]

theorem noCall_portFault (p : PortId) : NoCall (some (.portFault p)) := fun _ => nofun

/-- The fourth failure in a row, without the positions' law: the port, its notice, and its records. -/
theorem silent_departure (h : TimedOut p i s b) :
    Departure p .faulted b (turned p (some (.portFault p)) (faultedPort .silentDevice b.ports[p]) b)
      (depart p .faulted (turned p (some (.portFault p)) (faultedPort .silentDevice b.ports[p]) b)) := 
  departure_turned (noCall_portFault p) .faulted h.law rfl

/-- The fourth failure in a row (R40, R62). -/
theorem silentFault (h : TimedOut p i s b) (hpos : PositionLaw b) :
    SilentFault p b (depart p .faulted (turned p (some (.portFault p)) (faultedPort .silentDevice b.ports[p]) b)) := by
  have hn := noCall_portFault p
  have hdep := silent_departure h
  have hlegal := legalDeparture (p := p) (moved := faultedPort .silentDevice b.ports[p]) hn .faulted h.law hpos nofun rfl rfl rfl
  have hdeparting : departing p b = b.ports[p].queue := by rw [departing, h.quiet, List.nil_append]
  obtain ⟨out, m, hports⟩ := hdep.ports
  generalize depart p .faulted (turned p (some (.portFault p)) (faultedPort .silentDevice b.ports[p]) b) = t at *
  have hport : t.ports[p] = { faultedPort .silentDevice b.ports[p] with
      outbound := b.ports[p].outbound ++ out, failures := m } := by
    rw [hports, ports_withPort, turned_port hn]
    rfl
  refine ⟨by rw [hport]; rfl, by rw [hport]; rfl, by rw [hport]; rfl, hdep.notices (noticed_mem rfl _), ?_, fun hpl => ?_⟩
  · have := hlegal.ends
    rwa [hdeparting] at this
  · have := hlegal.whole hpl
    rwa [faultedPort_silent] at this

end

/-- Settles O20: the end at the last deadline by `timedOut_endExchange` and `timedOut_endOrphan`, the fourth in a row by `silentFault`. -/
theorem lastDeadlineEndsTimeout : Obligations.LastDeadlineEndsTimeout := by
  intro p i ms s hl hp hd run last
  have hlast (h : last) : run = .next (silentCheck p (endExchange i .timeout 0 [] s)) := by
    refine congrArg Host.Outcome.next ((deadlineExpired_awaiting hl hp h.1 hd).trans (if_neg ?_))
    exact Nat.not_lt.mpr h.2
  refine ⟨fun h ho hg => ⟨fun hn => ?_, fun hn => ?_⟩, fun h hpos => ?_, fun hs => ?_⟩
  · have ht := timedOut_endExchange hl hp h.1
    rw [hlast h, silentCheck_few ht hn, endExchange_held s _ _ _ hp ho hg]
    rfl
  · have ht := timedOut_endExchange hl hp h.1
    have hdep := silent_departure ht
    have hheld := endExchange_held s .timeout 0 [] hp ho hg
    obtain ⟨out, m, hports⟩ := hdep.ports
    rw [hlast h, silentCheck_fourth ht hn]
    generalize hb : endExchange i .timeout 0 [] s = b at *
    have hbi : b.pool[i].state = .held ∧ b.pool[i].endStatus = some .timeout := by
      rw [hheld]
      have hset := pool_set_self i { s.pool[i] with
        state := .held, endStatus := some .timeout, deviceStatus := 0, replyData := [], deadline := none
        hold := some (holdTime s.line.hold) } s.pool
      exact ⟨congrArg Exchange.state hset, congrArg Exchange.endStatus hset⟩
    have hbo : b.ports[p].outbound = s.ports[p].outbound ++ [endReply i s.pool[i] false .timeout 0 []] := by
      rw [hheld]
      exact congrArg Port.outbound (ports_withPort _ _ _)
    generalize depart p .faulted (turned p (some (.portFault p)) (faultedPort .silentDevice b.ports[p]) b) = t at *
    have hport : t.ports[p] = { faultedPort .silentDevice b.ports[p] with outbound := b.ports[p].outbound ++ out, failures := m } := by
      rw [hports, ports_withPort, turned_port (noCall_portFault p)]
      rfl
    have hti := hdep.kept i hbi.1
    refine ⟨t, rfl, by rw [hport]; rfl, by rw [hport]; rfl, by rw [hport]; rfl, hdep.notices (noticed_mem rfl _), by rw [hti]; exact hbi.1,
      by rw [hti]; exact hbi.2, out, ?_⟩
    rw [hport, hbo]
    exact List.append_assoc _ _ _
  · intro b
    have hb : endExchange i .timeout 0 [] s = b := endExchange_eq s .timeout 0 [] hpos hp
    have ht : TimedOut p i s b := hb ▸ timedOut_endExchange hl hp h.1
    have hbpos : PositionLaw b := hb ▸ (keeps_endExchange (A := True) (n := 0) i .timeout 0 []).position hpos
    have hdep := silent_departure ht
    rw [hlast h, hb]
    refine ⟨fun hn => by rw [silentCheck_few ht hn], fun hn => ⟨_, by rw [silentCheck_fourth ht hn], silentFault ht hbpos, fun ho => ?_, fun ho => ?_⟩⟩
    · exact hdep.kept i (congrArg Exchange.state (ended_pool_workstation p .timeout 0 [] ho))
    · have hfree : b.pool[i] = freeExchange := ended_pool_delivery p .timeout 0 [] ho
      rw [hdep.others i (by rw [hfree]; exact nofun) (by rw [hfree]; exact nofun), hfree]
  · intro b
    have ht : TimedOut p i s b := timedOut_endOrphan hl hp hs
    have hrun : run = .next (silentCheck p b) := by
      refine congrArg Host.Outcome.next ((deadlineExpired_orphaned hl hp hs hd).trans ?_)
      rw [endOrphan_eq s .timeout hp]
      rfl
    rw [hrun]
    refine ⟨fun hn => by rw [silentCheck_few ht hn], fun hn hpos => ⟨_, by rw [silentCheck_fourth ht hn], silentFault ht ?_, ?_⟩⟩
    · exact hpos.congr rfl rfl rfl
    · have hfree : b.pool[i] = freeExchange := pool_set_self i freeExchange s.pool
      rw [(silent_departure ht).others i (by rw [hfree]; exact nofun) (by rw [hfree]; exact nofun), hfree]

end Sys2Proof.Machine
end

section
/-! SUPPORT. ABORT PORT: the ends of the workstation exchanges of a queue. -/

namespace Sys2Proof.Machine

section
variable {s : State} {p : PortId}

/-- The records of a list are workstation exchanges of a port. -/
def Workstations (p : PortId) (l : List RecId) (s : State) : Prop := ∀ i ∈ l, s.pool[i].port = some p ∧ s.pool[i].origin = some .workstation

theorem not_delivery {o : Option Origin} (h : o = some .workstation) : o ≠ some .delivery := by rw [h]; decide

theorem ended_workstation_pool_ne {i j : RecId} (p : PortId) (st : EndStatus) (ho : s.pool[i].origin = some .workstation) (hj : j ≠ i) :
    (ended p i st 0 [] s).pool[j] = s.pool[j] := by
  rw [ended_workstation st 0 [] (not_delivery ho)]
  exact pool_set_ne hj ..

theorem Workstations.tail {i : RecId} {l : List RecId} (st : EndStatus) (h : Workstations p (i :: l) s) (hn : (i :: l).Nodup) :
    Workstations p l (ended p i st 0 [] s) := by
  intro j hj
  have hji : j ≠ i := fun e => (List.nodup_cons.mp hn).1 (e ▸ hj)
  rw [ended_workstation_pool_ne p st (h i List.mem_cons_self).2 hji]
  exact h j (List.mem_cons_of_mem _ hj)

/-- The ends of workstation exchanges need no law of positions (R67, R68). -/
theorem endAll_workstations (st : EndStatus) {l : List RecId} (hn : l.Nodup) (h : Workstations p l s) : endAll st l s = endedAll p st l s := by
  induction l generalizing s with
  | nil => rfl
  | cons i l ih =>
    obtain ⟨hp, ho⟩ := h i List.mem_cons_self
    show endAll st l (endExchange i st 0 [] s) = endedAll p st l (ended p i st 0 [] s)
    rw [endExchange_workstation st 0 [] hp (not_delivery ho)]
    exact ih (List.nodup_cons.mp hn).2 (h.tail st hn)

/-- What a run of ends of workstation exchanges makes of a state: each is HELD with its UNIT REPLY at the tail of the list, in order. -/
structure RepliesMade (p : PortId) (st : EndStatus) (l : List RecId) (s t : State) : Prop where
  ports : ∃ out n x, t.ports = (withPort p { s.ports[p] with outbound := s.ports[p].outbound ++ out, failures := n, tx := x } s).ports ∧
    List.Forall₂ (fun i f => ∃ a, f = endReply i s.pool[i] a st 0 []) l out
  held : ∀ i ∈ l, t.pool[i].state = .held ∧ t.pool[i].endStatus = some st
  rest : ∀ i ∉ l, t.pool[i] = s.pool[i]

theorem ended_workstation_ports {i : RecId} (st : EndStatus) (ho : s.pool[i].origin = some .workstation) :
    ∃ a n, (ended p i st 0 [] s).ports = (withPort p { s.ports[p] with
      outbound := s.ports[p].outbound ++ [endReply i s.pool[i] a st 0 []], failures := n, tx := releaseTx i s.ports[p].tx } s).ports := by
  refine ⟨s.groupRecords.any fun g => decide (s.pool[i].group = some g.tag) && g.endQueued, (portTold p i st s).ports[p].failures, ?_⟩
  rw [ended_workstation st 0 [] (not_delivery ho), groupTold_frame (portTold p i st s) s.pool[i].group]
  simp only [portTold, ports_withPort]
  simp only [withPort, Vector.set_set]

theorem repliesMade_endedAll (st : EndStatus) {l : List RecId} (hn : l.Nodup) (h : Workstations p l s) :
    RepliesMade p st l s (endedAll p st l s) := by
  induction l generalizing s with
  | nil =>
    refine ⟨⟨[], s.ports[p].failures, s.ports[p].tx, ?_, .nil⟩, nofun, fun _ _ => rfl⟩
    rw [List.append_nil]
    exact congrArg State.ports (withPort_same p s).symm
  | cons i l ih =>
    obtain ⟨hi, hn'⟩ := List.nodup_cons.mp hn
    obtain ⟨hp, ho⟩ := h i List.mem_cons_self
    have hself := ended_pool_workstation p st 0 [] (not_delivery ho)
    have hne (j : RecId) (hj : j ≠ i) := ended_workstation_pool_ne (s := s) p st ho hj
    obtain ⟨a, n, hports⟩ := ended_workstation_ports (p := p) st ho
    obtain ⟨⟨out, m, x, gports, hall⟩, gheld, grest⟩ := ih hn' (h.tail st hn)
    show RepliesMade p st (i :: l) s (endedAll p st l (ended p i st 0 [] s))
    generalize endedAll p st l (ended p i st 0 [] s) = t at *
    generalize ended p i st 0 [] s = b at *
    have hport : b.ports[p] = { s.ports[p] with
        outbound := s.ports[p].outbound ++ [endReply i s.pool[i] a st 0 []], failures := n, tx := releaseTx i s.ports[p].tx } := by
      rw [hports, ports_withPort]
    refine ⟨⟨endReply i s.pool[i] a st 0 [] :: out, m, x, ?_, .cons ⟨a, rfl⟩ ?_⟩, fun j hj => ?_, fun j hj => ?_⟩
    · rw [gports, hport]
      simp only [withPort, hports, Vector.set_set, List.append_assoc, List.singleton_append]
    · obtain ⟨hlen, hget⟩ := List.forall₂_iff_get.mp hall
      refine List.forall₂_iff_get.mpr ⟨hlen, fun k h1 h2 => ?_⟩
      obtain ⟨c, hc⟩ := hget k h1 h2
      refine ⟨c, ?_⟩
      rw [hc, hne (l.get ⟨k, h1⟩) fun e => hi (e ▸ List.get_mem l ⟨k, h1⟩)]
    · rcases List.mem_cons.mp hj with rfl | hj
      · rw [grest _ hi, hself]; exact ⟨rfl, rfl⟩
      · exact gheld j hj
    · rw [List.mem_cons, not_or] at hj
      rw [grest j hj.2, hne j hj.1]

/-- ABORT PORT, with the slot of its reply (R72, R158). -/
theorem exec_abortPort (hslot : HasSlot s) (hl : PoolLaw s) (tag : Byte) :
    let aborted := s.ports[p].queue.filter fun i => s.pool[i].origin = some .workstation
    let b := withPort p { s.ports[p] with queue := s.ports[p].queue.filter fun i => !decide (s.pool[i].origin = some .workstation) } s
    exec (.abortPort tag [portCode p]) s = .next (answered tag .ok [byteOf aborted.length] (endedAll p .aborted aborted b)) := by
  intro aborted b
  have hn : aborted.Nodup := (hl.once p).filter _
  have hw : Workstations p aborted b := fun i hi => by
    obtain ⟨hq, ho⟩ := List.mem_filter.mp hi
    exact ⟨(hl.queue p i hq).2, of_decide_eq_true ho⟩
  have hcount : queuedWorkstation p s = aborted.length := List.countP_eq_length_filter
  have htake : takeAbortPort [portCode p] (reserveSlot s) = (endAll .aborted aborted (reserveSlot b), .ok [byteOf aborted.length]) := by
    simp only [takeAbortPort, parseOne, portOf_portCode]
    rw [show queuedWorkstation p (reserveSlot s) = aborted.length from hcount]
    rfl
  refine congrArg Host.Outcome.next ((manage_slot s hslot).trans ?_)
  rw [htake, ← endAll_workstations .aborted hn hw]
  exact (spends_endAll .aborted aborted b).replied tag _

end

/-- Settles O48: the workstation exchanges of the queue are ended in its order, and `repliesMade_endedAll` says what that makes. -/
theorem abortPortEndsTheQueue : Obligations.AbortPortEndsTheQueue := by
  intro p tag s hslot hl aborted hall
  have hkept : s.ports[p].queue.filter (fun i => !decide (s.pool[i].origin = some .workstation)) =
      s.ports[p].queue.filter fun i => s.pool[i].origin = some .delivery := List.filter_congr fun i hi => by
    have := of_decide_eq_true (List.all_eq_true.mp hall i hi)
    rcases this with h | h <;> rw [h] <;> rfl
  have hrun := exec_abortPort (p := p) hslot hl tag
  dsimp only at hrun
  rw [hkept] at hrun
  set b : State := withPort p { s.ports[p] with queue := s.ports[p].queue.filter fun i => s.pool[i].origin = some .delivery } s with hb
  have hbp : b.ports[p] = { s.ports[p] with queue := s.ports[p].queue.filter fun i => s.pool[i].origin = some .delivery } := ports_withPort _ _ _
  have hw : Workstations p aborted b := fun i hi => by
    obtain ⟨hq, ho⟩ := List.mem_filter.mp hi
    exact ⟨(hl.queue p i hq).2, of_decide_eq_true ho⟩
  obtain ⟨⟨out, n, x, hports, hout⟩, hheld, hrest⟩ := repliesMade_endedAll .aborted ((hl.once p).filter _) hw
  refine ⟨_, hrun, List.getLast?_concat .., ?_, ⟨out, ?_, hout.length_eq.symm, fun n i hi => ?_⟩, hheld, hrest, fun r hr => ?_, rfl⟩
  · show (endedAll p .aborted aborted b).ports[p].queue = _
    rw [hports, ports_withPort, hbp]
  · show (endedAll p .aborted aborted b).ports[p].outbound = _
    rw [hports, ports_withPort, hbp]
  · obtain ⟨hlen, hget⟩ := List.forall₂_iff_get.mp hout
    obtain ⟨hlt, hi⟩ := List.getElem?_eq_some_iff.mp hi
    obtain ⟨a, ha⟩ := hget n hlt (hlen ▸ hlt)
    refine ⟨a, List.getElem?_eq_some_iff.mpr ⟨hlen ▸ hlt, ha.trans ?_⟩⟩
    rw [show aborted.get ⟨n, hlt⟩ = i from hi]
    rfl
  · show (endedAll p .aborted aborted b).ports[r] = _
    rw [hports, ports_withPort_ne hr, hb, ports_withPort_ne hr]

end Sys2Proof.Machine
end

section
/-! SUPPORT. Ends of members of a group request, characters of both receivers, and counter frames with a bad check. -/

namespace Sys2Proof.Machine

section
variable {s : State}

/-! ### Ends of members (R96, R97) -/

theorem groupTest_queued {g : GroupRecord} (h : g.endQueued = true) : groupTest g = none := if_pos h

theorem groupTest_open {g : GroupRecord} (h : g.endQueued = false) :
    groupTest g = if g.answered = g.expected then some .complete else if g.answered = g.issued then some .short else none := by
  simp only [groupTest, h, Bool.false_eq_true, ↓reduceIte]

/-! ### What an assembler makes of one character (R24 to R27, R154) -/

theorem assemble_mark {mark b : Byte} {lo hi : Nat} {run : Bool} (hb : b = mark) :
    assemble mark lo hi false b (.hunting run) = (.collecting [b], .quiet) := if_pos ⟨rfl, hb⟩

theorem assemble_junk {mark b : Byte} {lo hi : Nat} {e run : Bool} (h : b ≠ mark ∨ e = true) :
    assemble mark lo hi e b (.hunting run) = (.hunting true, if run then .quiet else .counted) := by
  have hn : ¬ (e = false ∧ b = mark) := fun ⟨he, hb⟩ => h.elim (· hb) fun h => by rw [he] at h; cases h
  simp only [assemble, if_neg hn]
  cases run <;> rfl

theorem assemble_error {mark b : Byte} {lo hi : Nat} (bytes : List Byte) :
    assemble mark lo hi true b (.collecting bytes) = (.hunting true, .counted) := rfl

theorem assemble_wrong_length {mark m b : Byte} {lo hi : Nat} (h : b.toNat < lo ∨ hi < b.toNat) :
    assemble mark lo hi false b (.collecting [m]) = (.hunting true, .counted) := if_pos h

theorem assemble_joins {mark m n b : Byte} {lo hi : Nat} {rest : List Byte} (h1 : lo ≤ n.toNat) (h2 : n.toNat ≤ hi)
    (h : rest.length + 1 < n.toNat + 2) :
    assemble mark lo hi false b (.collecting (m :: n :: rest)) = (.collecting (m :: n :: rest ++ [b]), .quiet) := by
  have hlen : (rest ++ [b]).length ≠ n.toNat + 2 := by simp only [List.length_append, List.length_singleton]; omega
  exact (if_neg (by omega)).trans (if_neg hlen)

theorem assemble_length {mark m b : Byte} {lo hi : Nat} (h1 : lo ≤ b.toNat) (h2 : b.toNat ≤ hi) :
    assemble mark lo hi false b (.collecting [m]) = (.collecting [m, b], .quiet) :=
  (if_neg (by omega)).trans (if_neg (by simp))

theorem assemble_completes {mark m n b : Byte} {lo hi : Nat} {rest : List Byte} (h1 : lo ≤ n.toNat) (h2 : n.toNat ≤ hi)
    (h : rest.length + 1 = n.toNat + 2) :
    assemble mark lo hi false b (.collecting (m :: n :: rest)) = (.hunting false, .frame (m :: n :: rest ++ [b])) := by
  have hlen : (rest ++ [b]).length = n.toNat + 2 := by simpa only [List.length_append, List.length_singleton] using h
  exact (if_neg (by omega)).trans (if_pos hlen)

/-- The check of a run of bytes compared with its last two (R183). -/
theorem splitCheck_pair (body : List Byte) (hi lo : Byte) :
    splitCheck (body ++ [hi, lo]) = (body, decide (checkOf body = hi ++ lo)) := by
  have hiff : [hi, lo] = halfBytes (checkOf body) ↔ checkOf body = hi ++ lo := by
    constructor
    · intro h
      simp only [halfBytes, List.cons.injEq, and_true] at h
      rw [← halfOf_halfBytes (checkOf body), ← h.1, ← h.2, halfOf]
    · intro h
      rw [h]
      exact (halfBytes_halfOf hi lo).symm
  simp [splitCheck, hiff]

/-! ### The device receiver -/

theorem sampleCharacter_eq {p : PortId} {c : RxChar} {a : Assembler} {r : Assembled}
    (h : assemble lineMark 3 253 (charError s.ports[p].config.charLen c) c.data s.ports[p].asm = (a, r)) :
    sampleCharacter p c s =
      takeAssembled p r (withPort p { s.ports[p] with asm := a, gap := gapFor (gapMs s.ports[p].config) a } s) := by
  simp only [sampleCharacter, h]
  rfl

theorem receiverRuns_eq {q : Port} (h : q.state = .identifying ∨ q.state = .ready) : receiverRuns q = true := by
  rcases h with h | h <;> simp [receiverRuns, h]

/-- A port that listens samples the character. -/
theorem receiveCharacter_listening {p : PortId} (c : RxChar)
    (on : s.ports[p].state = .identifying ∨ s.ports[p].state = .ready)
    (listens : ∀ o b talked, s.ports[p].tx ≠ .sending o b true talked) : receiveCharacter p c s = sampleCharacter p c s := by
  refine (if_pos (receiverRuns_eq on)).trans ?_
  split
  · rename_i o b ht; exact absurd ht (listens _ _ _)
  · rename_i o b ht; exact absurd ht (listens _ _ _)
  · rfl

theorem receiveCharacter_sending {p : PortId} (c : RxChar) {o : TxOwner} {b : SentFrame} {talked : Bool}
    (on : s.ports[p].state = .identifying ∨ s.ports[p].state = .ready) (h : s.ports[p].tx = .sending o b true talked) :
    receiveCharacter p c s = if talked then s else talkOver p o b s := by
  refine (if_pos (receiverRuns_eq on)).trans ?_
  rw [h]
  cases talked <;> rfl

theorem countPort_lineErrors (p : PortId) (q : Port) (s : State) : countPort .lineErrors p (withPort p q s) =
    withPort p { q with counters := { q.counters with lineErrors := counted q.counters.lineErrors } } s := by
  rw [countPort_withPort, bumpPort, bump_eq]

/-- A frame that fails a test of R27, or an EVENT while IDENTIFYING (R28), is counted and has no other effect. -/
theorem takeLineFrame_bad {p : PortId} {n kind seq code hi lo : Byte} {data : List Byte}
    (on : s.ports[p].state = .identifying ∨ s.ports[p].state = .ready)
    (bad : ¬ (checkOf (n :: kind :: seq :: code :: data) = hi ++ lo ∧
      ((kind = 0x02 ∧ seq ≠ 0 ∧ n.toNat + 4 ≤ s.ports[p].config.replyLimit.toNat) ∨
        (kind = 0x03 ∧ seq = 0 ∧ n.toNat + 4 ≤ 64 ∧ s.ports[p].state = .ready)))) :
    takeLineFrame p (lineMark :: n :: kind :: seq :: code :: data ++ [hi, lo]) s = countPort .lineErrors p s := by
  have hread : readLineFrame (lineMark :: n :: kind :: seq :: code :: data ++ [hi, lo]) =
      some ⟨decide (checkOf (n :: kind :: seq :: code :: data) = hi ++ lo), n.toNat, kind, seq, code, data⟩ := by
    have := splitCheck_pair (n :: kind :: seq :: code :: data) hi lo
    simp only [List.cons_append] at this
    simp only [readLineFrame, List.cons_append, List.drop_succ_cons, List.drop_zero, this]
  simp only [takeLineFrame, hread]
  by_cases hgood : lineFrameGood s.ports[p].config.replyLimit.toNat
      ⟨decide (checkOf (n :: kind :: seq :: code :: data) = hi ++ lo), n.toNat, kind, seq, code, data⟩ = true
  · simp only [lineFrameGood, lineReply, lineEvent, Bool.and_eq_true, Bool.or_eq_true, decide_eq_true_eq] at hgood
    obtain ⟨hcheck, htest⟩ := hgood
    rw [if_pos (by simp only [lineFrameGood, lineReply, lineEvent, Bool.and_eq_true, Bool.or_eq_true, decide_eq_true_eq]
                   exact ⟨hcheck, htest⟩)]
    have hevent : kind = 0x03 ∧ seq = 0 ∧ n.toNat ≤ 60 := by
      rcases htest with ⟨⟨hk, h0⟩, hs⟩ | ⟨⟨hk, h0⟩, hs⟩
      · exact absurd ⟨hcheck, .inl ⟨of_decide_eq_true hk, h0, hs⟩⟩ bad
      · exact ⟨of_decide_eq_true hk, h0, hs⟩
    obtain ⟨hk, h0, hs⟩ := hevent
    have hr : s.ports[p].state ≠ .ready := fun hr => bad ⟨hcheck, .inr ⟨hk, h0, by omega, hr⟩⟩
    have hkind : kind ≠ lineReply := by rw [hk]; decide
    simp only [passFrame, if_neg hr, if_pos (on.resolve_right hr), if_neg hkind]
  · exact if_neg hgood

/-! ### The workstation receiver -/

theorem receiveWorkstation_eq {b : Byte} {stop : Bool} {a : Assembler} {r : Assembled}
    (h : assemble counterMark 4 255 (!stop) b s.wsAsm = (a, r)) :
    receiveWorkstation b stop s = takeWorkstation r { s with wsAsm := a, wsGap := workstationGap a } := by
  simp only [receiveWorkstation, h]

theorem countLink_rxFormatErrors (s : State) : countLink .rxFormatErrors s =
    { s with link := { s.link with rxFormatErrors := counted s.link.rxFormatErrors } } := by
  rw [countLink, bumpLink, bump_eq]

/-- A complete counter frame with a bad check is counted and raises LINK_ERROR (R155). -/
theorem takeCounterFrame_bad {n hi lo : Byte} {body : List Byte} (h4 : 4 ≤ body.length) (bad : checkOf (n :: body) ≠ hi ++ lo) :
    takeCounterFrame (counterMark :: n :: body ++ [hi, lo]) s = raiseNotice .linkError (countLink .rxCheckErrors s) := by
  match body, h4 with
  | kind :: flags :: unit :: tag :: payload, _ =>
    have := splitCheck_pair (n :: kind :: flags :: unit :: tag :: payload) hi lo
    simp only [List.cons_append, decide_eq_false bad] at this
    simp only [takeCounterFrame, readCounterFrame, List.cons_append, List.drop_succ_cons, List.drop_zero, this,
      Bool.false_eq_true, ↓reduceIte]

end

/-- Settles O41, by the store of the record in its place and the case of its test. -/
theorem memberEndsAreCounted : Obligations.MemberEndsAreCounted := by
  unfold Obligations.MemberEndsAreCounted
  intro g before after s hs hg n stored ended
  have hm := memberEnded_split hg hs.tags
  set x : GroupRecord := { g with answered := n } with hx
  have hopen (h : g.endQueued = false) := groupTest_open (g := x) h
  -- the next state by the outcome of the test
  have hsome {o : GroupOutcome} (ho : groupTest x = some o) : memberEnded g.tag s = ended o := by
    refine hm.trans ?_
    have hq : afterTest x = { g with answered := n, endQueued := true } := by rw [afterTest, ho, Option.isSome_some, Bool.or_true]
    have hp : placeGroupEnd x s = placeReserved (groupEndFrame x o) s := by simp only [placeGroupEnd, ho]
    rw [hq, hp]
    rfl
  have hnone {b : Bool} (hb : g.endQueued = b) (ho : groupTest x = none) :
      memberEnded g.tag s = { s with groupRecords := stored b } := by
    refine hm.trans ?_
    have hq : afterTest x = { g with answered := n, endQueued := b } := by
      rw [afterTest, ho, Option.isSome_none, Bool.or_false, ← hb]
    have hp : placeGroupEnd x s = s := by simp only [placeGroupEnd, ho]
    rw [hq, hp]
  refine ⟨fun h => hnone h (groupTest_queued h), fun h he => hsome ?_, fun h he hi => hsome ?_, fun h he hi => hnone h ?_⟩
  · exact (hopen h).trans (if_pos he)
  · exact (hopen h).trans ((if_neg he).trans (if_pos hi))
  · exact (hopen h).trans ((if_neg he).trans (if_neg hi))

/-- Settles O33, by the check of the frame the last byte completes. -/
theorem badChecksRaiseLinkError : Obligations.BadChecksRaiseLinkError := by
  unfold Obligations.BadChecksRaiseLinkError
  intro length hi lo body s h4 hlen hasm hbad
  refine ⟨_, rfl, ?_⟩
  have ha : assemble counterMark 4 255 (!true) lo s.wsAsm =
      (.hunting false, .frame (counterMark :: length :: (body ++ [hi]) ++ [lo])) := by
    rw [hasm]
    exact assemble_completes (rest := body ++ [hi]) h4 (by omega) (by simp; omega)
  have hframe : counterMark :: length :: (body ++ [hi]) ++ [lo] = counterMark :: length :: body ++ [hi, lo] := by simp
  rw [receiveWorkstation_eq ha, takeWorkstation, hframe, takeCounterFrame_bad (by omega) hbad, countLink, bumpLink, bump_eq]
  exact raised_of_ne_call (fun _ => Notice.noConfusion) _

/-- Settles O31, by what each assembler makes of the character and what the receiver makes of that. -/
theorem charactersAndGapExpiries : Obligations.CharactersAndGapExpiries := by
  unfold Obligations.CharactersAndGapExpiries
  refine ⟨⟨?_, ?_⟩, ?_, ?_, ?_⟩
  · intro p c run s q on listens
    have hear (hon : on) (hl : listens) {a : Assembler} {r : Assembled}
        (h : assemble lineMark 3 253 (charError q.config.charLen c) c.data q.asm = (a, r)) :
        receiveCharacter p c s = takeAssembled p r (withPort p { q with asm := a, gap := gapFor (gapMs q.config) a } s) :=
      (receiveCharacter_listening c hon hl).trans (sampleCharacter_eq h)
    refine ⟨?_, ?_, ?_, ?_, ?_, ?_, ?_⟩
    · intro hon hl ha hb he
      have h : assemble lineMark 3 253 (charError q.config.charLen c) c.data q.asm = (.collecting [0x3C], .quiet) := by
        rw [ha, he, hb]
        exact assemble_mark rfl
      exact congrArg _ (hear hon hl h)
    · intro hon hl ha hb
      have h : assemble lineMark 3 253 (charError q.config.charLen c) c.data q.asm =
          (.hunting true, if run then .quiet else .counted) := by
        rw [ha]
        exact assemble_junk hb
      refine congrArg _ ((hear hon hl h).trans ?_)
      cases run with
      | true => rfl
      | false => exact countPort_lineErrors p _ s
    · intro n rest hon hl lost joined
      have hlost (h : assemble lineMark 3 253 (charError q.config.charLen c) c.data q.asm = (.hunting true, .counted)) :
          exec (.deviceCharacterReceived p c) s = lost :=
        congrArg _ ((hear hon hl h).trans (countPort_lineErrors p _ s))
      have hjoined {bytes : List Byte}
          (h : assemble lineMark 3 253 (charError q.config.charLen c) c.data q.asm = (.collecting bytes, .quiet)) :
          exec (.deviceCharacterReceived p c) s = joined bytes := congrArg _ (hear hon hl h)
      refine ⟨fun bytes ha he => hlost (by rw [ha, he]; exact assemble_error bytes), fun ha he => ⟨fun hb => ?_, fun h3 h253 => ?_⟩, ?_⟩
      · exact hlost (by rw [ha, he]; exact assemble_wrong_length hb)
      · exact hjoined (by rw [ha, he]; exact assemble_length h3 h253)
      · exact fun ha he h3 h253 h => hjoined (by rw [ha, he]; exact assemble_joins h3 h253 h)
    · intro n kind seq code hi data hon hl he hn h253 ha good hbad
      have hfull : assemble lineMark 3 253 (charError q.config.charLen c) c.data q.asm =
          (.hunting false, .frame (lineMark :: n :: kind :: seq :: code :: data ++ [hi, c.data])) := by
        rw [ha, he]
        refine (assemble_completes (rest := kind :: seq :: code :: data ++ [hi]) (by omega) h253 (by simp; omega)).trans ?_
        simp [lineMark]
      refine congrArg _ ((hear hon hl hfull).trans ?_)
      generalize ht : withPort p { q with asm := .hunting false, gap := gapFor (gapMs q.config) (.hunting false) } s = t
      have hport : t.ports[p] = { q with asm := .hunting false, gap := none } := by rw [← ht]; exact ports_withPort p _ s
      have hbad' : takeLineFrame p (lineMark :: n :: kind :: seq :: code :: data ++ [hi, c.data]) t = countPort .lineErrors p t :=
        takeLineFrame_bad (by rw [hport]; exact hon) (by rw [hport]; exact hbad)
      exact hbad'.trans (by rw [← ht]; exact countPort_lineErrors p _ s)
    · intro o b hon ht
      refine congrArg _ ((receiveCharacter_sending c hon ht).trans ?_)
      rw [if_neg (by decide), talkOver, modPort_eq_withPort, countPort_withPort, bumpPort, bump_eq]
    · intro o b hon ht
      exact congrArg _ (receiveCharacter_sending c hon ht)
    · intro hon
      have hr : receiverRuns q = false := by
        simp only [receiverRuns, Bool.or_eq_false_iff, decide_eq_false_iff_not]
        exact not_or.mp hon
      exact congrArg _ (if_neg (by rw [hr]; exact Bool.false_ne_true))
  · intro b stop run s ha
    refine ⟨fun hb hs => ?_, fun h => ?_⟩
    · have hc : assemble counterMark 4 255 (!stop) b s.wsAsm = (.collecting [0xC3], .quiet) := by
        rw [ha, hs, hb]
        exact assemble_mark rfl
      exact congrArg _ (receiveWorkstation_eq hc)
    · have hc : assemble counterMark 4 255 (!stop) b s.wsAsm = (.hunting true, if run then .quiet else .counted) := by
        rw [ha]
        exact assemble_junk (h.imp_right fun e => by rw [e]; rfl)
      refine congrArg _ ((receiveWorkstation_eq hc).trans ?_)
      cases run with
      | true => rfl
      | false => exact countLink_rxFormatErrors _
  · intro b n stop rest s lost run
    have hlost (h : assemble counterMark 4 255 (!stop) b s.wsAsm = (.hunting true, .counted)) : run = lost :=
      congrArg _ ((receiveWorkstation_eq h).trans (countLink_rxFormatErrors _))
    refine ⟨fun bytes ha hs => hlost (by rw [ha, hs]; exact assemble_error bytes),
      fun ha hs => ⟨fun h => hlost (by rw [ha, hs]; exact assemble_wrong_length (.inl h)), fun h => ?_⟩, fun ha hs h4 h => ?_⟩
    · have hc : assemble counterMark 4 255 (!stop) b s.wsAsm = (.collecting [0xC3, b], .quiet) := by
        rw [ha, hs]
        exact assemble_length h (by omega)
      exact congrArg _ (receiveWorkstation_eq hc)
    · have hc : assemble counterMark 4 255 (!stop) b s.wsAsm = (.collecting (0xC3 :: n :: rest ++ [b]), .quiet) := by
        rw [ha, hs]
        exact assemble_joins h4 (by omega) h
      exact congrArg _ (receiveWorkstation_eq hc)
  · intro p s q
    refine ⟨fun h => congrArg _ ((if_pos (Option.isSome_iff_ne_none.mpr h)).trans ?_), fun h => congrArg _ (if_neg ?_)⟩
    · rw [modPort_eq_withPort]
      exact countPort_lineErrors p _ s
    · rw [show s.ports[p].gap = none from h]; exact Bool.false_ne_true
  · intro s
    refine ⟨fun h => congrArg _ ((if_pos (Option.isSome_iff_ne_none.mpr h)).trans (countLink_rxFormatErrors _)),
      fun h => congrArg _ (if_neg ?_)⟩
    rw [h]; exact Bool.false_ne_true

end Sys2Proof.Machine
end

section
/-! SUPPORT. Grants of the workstation transmitter and the ends of granted frames. -/

namespace Sys2Proof.Machine

section
variable {s : State}

/-! ### The port a group grants next (R162) -/

/-- The ports are examined in the order in which they lie behind the pointer. -/
theorem cyclicFrom_pairwise (ptr : Option PortId) : (cyclicFrom ptr).Pairwise fun p r => behind ptr p < behind ptr r := by
  cases ptr with
  | none => decide
  | some q => revert q; decide

theorem mem_cyclicFrom (ptr : Option PortId) (p : PortId) : p ∈ cyclicFrom ptr := by
  cases ptr with
  | none => exact List.mem_finRange p
  | some q => revert q p; decide

theorem candidate_iff {g : Priority} {p : PortId} : candidate g s p = true ↔ Waits g p s := by
  simp [candidate, Waits]

/-- The candidate that lies least far behind the pointer is granted. -/
theorem groupPick_least {g : Priority} {ptr : Option PortId} {p : PortId} (hp : Waits g p s)
    (least : ∀ r, Waits g r s → behind ptr p ≤ behind ptr r) : groupPick g ptr s = some p := by
  cases hf : groupPick g ptr s with
  | none => exact absurd (candidate_iff.mpr hp) (List.find?_eq_none.mp hf p (mem_cyclicFrom ptr p))
  | some r =>
    obtain ⟨hr, as, bs, hl, has⟩ := List.find?_eq_some_iff_append.mp hf
    have hpw := cyclicFrom_pairwise ptr
    have hm := mem_cyclicFrom ptr p
    rw [hl, List.mem_append, List.mem_cons] at hm
    rw [hl] at hpw
    rcases hm with hm | rfl | hm
    · have := has p hm
      rw [candidate_iff.mpr hp] at this
      cases this
    · rfl
    · have hlt : behind ptr r < behind ptr p := List.rel_of_pairwise_cons (List.pairwise_append.mp hpw).2.1 hm
      exact absurd (least r (candidate_iff.mp hr)) (by omega)

theorem groupPick_none {g : Priority} {ptr : Option PortId} (h : ∀ p, ¬ Waits g p s) : groupPick g ptr s = none :=
  List.find?_eq_none.mpr fun p _ hc => h p (candidate_iff.mp hc)

theorem groupPick_some {g : Priority} (ptr : Option PortId) (h : ∃ p, Waits g p s) : ∃ p, groupPick g ptr s = some p := by
  obtain ⟨p, hp⟩ := h
  cases hf : groupPick g ptr s with
  | none => exact absurd (candidate_iff.mpr hp) (List.find?_eq_none.mp hf p (mem_cyclicFrom ptr p))
  | some r => exact ⟨r, rfl⟩

theorem lowTurn_iff : lowTurn s = true ↔ s.line.k ≠ 0 ∧ s.line.k.toNat ≤ s.starvation := by simp [lowTurn]

/-- The LOW group's turn, or no HIGH port waiting (R162). -/
theorem choosePort_low {p : PortId} (hp : groupPick .low s.lowPtr s = some p) (h : LowChosen s) :
    choosePort s = some (p, grantLow p s) := by
  by_cases hh : ∃ r, Waits .high r s
  · obtain ⟨r, hr⟩ := groupPick_some s.highPtr hh
    have ht : lowTurn s = true := lowTurn_iff.mpr (h.2.resolve_left fun hn => hh.elim hn)
    simp only [choosePort, hp, hr, ht, ↓reduceIte]
  · simp only [choosePort, hp, groupPick_none (ptr := s.highPtr) (not_exists.mp hh)]

theorem exists_waits_low :
    (∃ r, Waits .low r s) ↔ s.ports.toList.any (fun q => decide (q.config.group = .low ∧ q.outbound ≠ [])) = true := by
  rw [List.any_eq_true]
  constructor
  · rintro ⟨r, hr⟩
    exact ⟨s.ports[r], List.mem_iff_getElem.mpr ⟨r.val, by simp, by simp⟩, decide_eq_true hr⟩
  · rintro ⟨q, hq, hw⟩
    obtain ⟨i, hi, rfl⟩ := List.mem_iff_getElem.mp hq
    exact ⟨⟨i, by simpa using hi⟩, by simpa [Waits] using hw⟩

/-- A HIGH port is granted, past a waiting LOW port or with none waiting (R162). -/
theorem choosePort_high {p : PortId} (hp : groupPick .high s.highPtr s = some p) (h : HighChosen s) :
    choosePort s = some (p, grantHigh p
      (if s.line.k ≠ 0 ∧ s.ports.toList.any (fun q => decide (q.config.group = .low ∧ q.outbound ≠ [])) = true then
        s.starvation + 1 else s.starvation) s) := by
  by_cases hl : ∃ r, Waits .low r s
  · have hany := exists_waits_low.mp hl
    obtain ⟨r, hr⟩ := groupPick_some s.lowPtr hl
    have ht : lowTurn s = false := Bool.eq_false_iff.mpr fun ht => h.2 ⟨hl, .inr (lowTurn_iff.mp ht)⟩
    simp only [choosePort, hp, hr, ht, Bool.false_eq_true, ↓reduceIte, starve, hany, and_true, ite_not]
  · have hn : ¬ (s.line.k ≠ 0 ∧ s.ports.toList.any (fun q => decide (q.config.group = .low ∧ q.outbound ≠ [])) = true) :=
      fun h => hl (exists_waits_low.mpr h.2)
    simp only [choosePort, hp, groupPick_none (ptr := s.lowPtr) (not_exists.mp hl), if_neg hn]

/-- The head frame of the chosen port's list goes out. -/
theorem grantPort_eq {p : PortId} {f : OutFrame} {rest : List OutFrame} {a : Bool} (ho : s.ports[p].outbound = f :: rest)
    (ha : Attends s a) : grantPort p s = { stopHold f s with tx := .sending (.port p) (outLayout a f) (wire (outLayout a f)) } := by
  simp only [grantPort, ho, transmit, attention_eq s ha, outFrame_eq, counterChars_eq]

/-- A grant to a port: the transmitter is idle, WREADY asserted and the control queue empty. -/
theorem grant_port {p : PortId} {t : State} (hi : s.tx = .idle) (hw : s.wready = true) (hc : s.control = [])
    (h : choosePort s = some (p, t)) : exec .grant s = .next (grantPort p t) := by
  refine congrArg _ ((if_pos ⟨hi, hw⟩).trans ?_)
  simp only [makeGrant, hc, h]

end

/-- Settles O36, by the source of the frame in transmission. -/
theorem frameEndsFreeTheirSource : Obligations.FrameEndsFreeTheirSource := by
  unfold Obligations.FrameEndsFreeTheirSource
  intro fr bytes s
  refine ⟨?_, ?_, ?_, ?_, ?_⟩
  · intro f rest ht hc
    refine congrArg Host.Outcome.next ?_
    simp only [frameDone, ht, sourceSent, hc, List.drop_succ_cons, List.drop_zero]
  · intro p i u tag m a st ds d rest ht ho
    refine congrArg Host.Outcome.next ?_
    have ho' : ({ s with tx := .idle } : State).ports[p].outbound = .reply i u tag m a st ds d :: rest := ho
    simp only [frameDone, ht, sourceSent, portSent, ho']
    rfl
  · intro p u n code lost d rest ht ho
    refine congrArg Host.Outcome.next ?_
    have ho' : ({ s with tx := .idle } : State).ports[p].outbound = .event u n code lost d :: rest := ho
    simp only [frameDone, ht, sourceSent, portSent, ho', sentFrom, modPort_eq_withPort, countPort_withPort, bumpPort, bump_eq]
    rfl
  · intro ht
    refine congrArg Host.Outcome.next ?_
    simp only [frameDone, ht, sourceSent]
  · intro ht
    refine congrArg Host.Outcome.next ?_
    simp only [frameDone, ht]

/-- Settles O34, by the tests of a grant in their order. -/
theorem grantServesControlFirst : Obligations.GrantServesControlFirst := by
  unfold Obligations.GrantServesControlFirst
  refine ⟨fun s => ⟨rfl, rfl⟩, fun s => ⟨fun h => congrArg Host.Outcome.next ?_, ?_⟩⟩
  · by_cases hg : s.tx = .idle ∧ s.wready = true
    · obtain ⟨hc, ho⟩ := (h.resolve_left fun h => h hg.1).resolve_left fun h => by rw [h] at hg; exact Bool.noConfusion hg.2
      have hn (g : Priority) (p : PortId) : ¬ Waits g p s := fun hw => hw.2 (ho p)
      have hp : choosePort s = none := by
        simp only [choosePort, groupPick_none (ptr := s.highPtr) (hn .high), groupPick_none (ptr := s.lowPtr) (hn .low)]
      refine (if_pos hg).trans ?_
      simp only [makeGrant, hc, hp]
    · exact if_neg hg
  · intro f rest a hi hw hc ha
    refine congrArg Host.Outcome.next ((if_pos ⟨hi, hw⟩).trans ?_)
    simp only [makeGrant, hc, transmit, attention_eq s ha, controlFrame_eq, counterChars_eq]

/-- Settles O35, by the choice of the group and of its port, and then the kind of the head frame. -/
theorem grantTakesPortsInTurn : Obligations.GrantTakesPortsInTurn := by
  unfold Obligations.GrantTakesPortsInTurn
  intro g p f rest a s hi hw hc ho ha hg hp least
  cases g with
  | high =>
    refine (grant_port hi hw hc (choosePort_high (groupPick_least hp least) hg)).trans (congrArg _ ?_)
    rw [grantPort_eq (a := a) (f := f) (rest := rest) (by exact ho) (by exact ha)]
    cases f <;> rfl
  | low =>
    refine (grant_port hi hw hc (choosePort_low (groupPick_least hp least) hg)).trans (congrArg _ ?_)
    rw [grantPort_eq (a := a) (f := f) (rest := rest) (by exact ho) (by exact ha)]
    cases f <;> rfl

end Sys2Proof.Machine
end

section
/-! SUPPORT. The dispatch of a good counter frame runs the command that the frame carries. -/

namespace Sys2Proof.Machine

section
variable {s : State}

/-- The codes that dispatch knows are those of Table 12.7. -/
theorem managementRequest_isNone (code tag : Byte) (params : List Byte) :
    (managementRequest code tag params).isNone = !managementCodes.contains code := by
  have listed {n : Nat} (h : code.toNat = n) : code = BitVec.ofNat 8 n := by rw [← h, BitVec.ofNat_toNat, BitVec.setWidth_eq]
  unfold managementRequest
  split
  case h_25 =>
    have hn : code ∉ managementCodes := by
      intro hm
      have hvalues : ∀ c ∈ managementCodes, c.toNat ∈ [1, 2, 3, 8, 9, 16, 17, 18, 19, 24, 32, 33, 34, 35, 36, 37, 38, 40, 41, 48,
          56, 57, 58, 63] := by decide
      have := hvalues code hm
      simp only [List.mem_cons, List.not_mem_nil, or_false] at this
      grind
    rw [Option.isNone_none, List.contains_eq_mem, decide_eq_false hn, Bool.not_false]
  all_goals
    rename_i h
    rw [listed h]
    rfl

/-- A frame that the WLU refuses (Table 9.2). -/
theorem dispatch_refused {kind unit : Byte} {payload : List Byte} {st : Status} (tag : Byte)
    (h : dispatchStatus kind unit payload = some st) : dispatch kind unit tag payload s = refuseAtDispatch tag st s := by
  simp only [dispatchStatus] at h
  split at h
  · cases h
  rename_i hk
  have h1 : kind ≠ kindUnitRequest := fun e => hk (.inl e)
  have h2 : kind ≠ kindGroupRequest := fun e => hk (.inr e)
  simp only [dispatch, if_neg h1, if_neg h2]
  split at h
  · rename_i h3
    rw [if_pos h3]
    cases payload with
    | nil => cases h; rfl
    | cons code params =>
      simp only [managementRequest_isNone code 0 params] at h
      simp only [dispatchManagement]
      split at h
      · rename_i hb
        cases h
        by_cases hu : unit ≠ 0
        · exact if_pos hu
        · have hn := (managementRequest_isNone code tag params).trans (hb.resolve_left hu)
          rw [if_neg hu, Option.isNone_iff_eq_none.mp hn]
      · cases h
  · rename_i h3
    cases h
    exact if_neg h3

theorem dispatchStatus_isSome {kind unit : Byte} {payload : List Byte} (h : refusedAtDispatch kind unit payload = true) :
    ∃ st, dispatchStatus kind unit payload = some st := by
  simp only [refusedAtDispatch] at h
  split at h
  · cases h
  rename_i hk
  split at h
  · rename_i h3
    cases payload with
    | nil => exact ⟨_, (if_neg hk).trans (if_pos h3)⟩
    | cons code params =>
      have hbad : unit ≠ 0 ∨ (managementRequest code 0 params).isNone = true := by
        rw [managementRequest_isNone]
        simpa using h
      exact ⟨_, (if_neg hk).trans ((if_pos h3).trans (if_pos hbad))⟩
  · rename_i h3
    exact ⟨_, (if_neg hk).trans (if_neg h3)⟩

/-- A request row is the dispatch of its frame (R156). -/
theorem exec_requestFrame {i : Instr} {kind unit tag : Byte} {payload : List Byte}
    (h : requestFrame i = some (kind, unit, tag, payload)) (hw : i.wf = true) (s : State) :
    exec i s = .next (dispatch kind unit tag payload s) := by
  cases i
  case dispatchRefusal kind' unit' tag' payload' =>
    cases h
    obtain ⟨-, hr⟩ := Bool.and_eq_true_iff.mp hw
    obtain ⟨st, hst⟩ := dispatchStatus_isSome hr
    refine congrArg Host.Outcome.next ?_
    rw [hst, dispatch_refused tag hst]
  all_goals cases h
  all_goals rfl

/-- A request row's payload fits in a counter frame (Table 12.1). -/
theorem length_requestFrame {i : Instr} {kind unit tag : Byte} {payload : List Byte}
    (h : requestFrame i = some (kind, unit, tag, payload)) (hw : i.wf = true) : payload.length ≤ 251 := by
  have params {ps : List Byte} {code : Byte} (h : paramsFit ps = true) : (code :: ps).length ≤ 251 := by
    rw [List.length_cons]
    exact Nat.succ_le_succ (of_decide_eq_true h)
  cases i
  case unitRequest => cases h; exact of_decide_eq_true hw
  case groupRequest => cases h; exact of_decide_eq_true hw
  case dispatchRefusal => cases h; exact of_decide_eq_true (Bool.and_eq_true_iff.mp hw).1
  case restartTraffic => cases h; exact params (Bool.and_eq_true_iff.mp hw).1
  case restartAll => cases h; decide
  all_goals cases h
  all_goals exact params hw

end

/-- Settles O32, by the last byte of the frame and the dispatch of a request row. -/
theorem counterFramesRunTheirCommand : Obligations.CounterFramesRunTheirCommand := by
  unfold Obligations.CounterFramesRunTheirCommand
  intro i kind unit tag flags c payload s hi hw ha hl
  exact ⟨_, congrArg Host.Outcome.next (receive_counter s (length_requestFrame hi hw) ha hl), exec_requestFrame hi hw _⟩

end Sys2Proof.Machine
end

section
/-! SUPPORT. Acceptance and refusals of UNIT REQUEST and GROUP REQUEST, and refusals of the dispatch. -/

namespace Sys2Proof.Machine

section
variable {s : State}

theorem groupOf_none {b : Byte} (h : b.toNat < 25 ∨ 31 < b.toNat) : groupOf b = none := dif_neg (by omega)

theorem tagTaken_eq_true {tag : Byte} (h : ¬ TagFree tag s) : tagTaken tag s = true := by
  rwa [← tagTaken_eq_false, Bool.not_eq_false] at h

/-! ### UNIT REQUEST (R56, R57) -/

/-- A UNIT REQUEST that its owner refuses. -/
theorem exec_unitRequest_refuse {unit tag : Byte} {payload : List Byte} {st : Status} {t : State}
    (h : takeUnitRequest unit tag payload s = refuse tag st t) : exec (.unitRequest unit tag payload) s = .next (refused tag st t) :=
  congrArg Host.Outcome.next ((congrArg restartSilence h).trans (restartSilence_refuse t tag st))

section
variable {tag command : Byte} {data : List Byte}

/-- A UNIT REQUEST for a unit of the table with a free tag that is not 0: the usable-unit test decides. -/
theorem takeUnitRequest_unit (u : UnitId) (h0 : tag ≠ 0) (hf : TagFree tag s) :
    (∀ p, usableTest u s = .usable p →
      takeUnitRequest (unitAddr u) tag (command :: data) s = admitUnit u p tag command data s) ∧
    (isUsable (usableTest u s) = false → takeUnitRequest (unitAddr u) tag (command :: data) s =
      refuse tag (usableRefusal (usableTest u s)) (evaluate u s)) := by
  have ht := (tagTaken_eq_false s tag).mpr hf
  constructor
  · intro p hp
    simp only [takeUnitRequest, if_neg h0, ht, Bool.false_eq_true, ↓reduceIte, unitOf_unitAddr, hp]
  · intro hn
    simp only [takeUnitRequest, if_neg h0, ht, Bool.false_eq_true, ↓reduceIte, unitOf_unitAddr, evaluate]
    split
    · rename_i p hp
      rw [hp] at hn
      cases hn
    · rfl

/-- The outcome of the usable-unit test that is not USABLE gives the refusal. -/
theorem exec_unitRequest_unusable {u : UnitId} {r : Usable} (h0 : tag ≠ 0) (hf : TagFree tag s) (hr : usableTest u s = r)
    (hn : isUsable r = false) :
    exec (.unitRequest (unitAddr u) tag (command :: data)) s = .next (refused tag (usableRefusal r) (evaluate u s)) := by
  have := (takeUnitRequest_unit (command := command) (data := data) u h0 hf).2 (by rw [hr]; exact hn)
  rw [hr] at this
  exact exec_unitRequest_refuse this

/-- The record the XE takes is filled and joins the queue of its port (R57, R94). -/
theorem acceptExchange_eq {u : UnitId} {p : PortId} {group : Option Byte} {i : RecId} (h : firstFree s = some i) :
    acceptExchange u p tag group command data s = { withPort p { s.ports[p] with queue := s.ports[p].queue ++ [i] } s with
      pool := s.pool.set i
        ⟨.queued, some .workstation, some tag, some u, some p, group, none, command, data, 0, 0, none, 0, [], none, none⟩ } := by
  simp only [acceptExchange, h]
  rfl

end

/-! ### GROUP REQUEST (R93) -/

theorem exec_groupRequest_refuse {unit tag : Byte} {payload : List Byte} {st : Status} {t : State}
    (h : takeGroupRequest unit tag payload s = refuse tag st t) : exec (.groupRequest unit tag payload) s = .next (refused tag st t) :=
  congrArg Host.Outcome.next ((congrArg restartSilence h).trans (restartSilence_refuse t tag st))

/-- A GROUP REQUEST of a group with a free tag, neither tag nor command 0: the group entry decides. -/
theorem takeGroupRequest_group {tag command : Byte} (data : List Byte) (g : GroupId) (h0 : tag ≠ 0) (hc : command ≠ 0)
    (hf : TagFree tag s) :
    takeGroupRequest (groupAddr g) tag (command :: data) s = checkGroup g s.groups[g] tag command data s := by
  simp only [takeGroupRequest, if_neg (not_or.mpr ⟨h0, hc⟩), (tagTaken_eq_false s tag).mpr hf, Bool.false_eq_true, ↓reduceIte,
    groupOf_groupAddr]

/-- A valid and sound group with a free record: the tests of the members, and checks 6 to 9 on the state they leave. -/
theorem checkGroup_sound {g : GroupId} {e : GroupEntry} {tag command : Byte} {data : List Byte} (hv : e.valid = true)
    (hs : e.membersCheck = .good ∧ e.countCheck = .good) (hl : s.groupRecords.length < 4) :
    checkGroup g e tag command data s = admitGroup g e (usableMembers e s) tag command data (evaluateMembers e s) := by
  have hl' : ¬ Config.groupRecordCount ≤ s.groupRecords.length := not_le.mpr hl
  simp only [checkGroup, hv, (groupFaulted_eq_false e).mpr hs, Bool.true_eq_false, Bool.false_eq_true, ↓reduceIte, if_neg hl']

theorem mem_ascendingMembers (e : GroupEntry) (u : UnitId) : u ∈ ascendingMembers e ↔ u ∈ e.members := by
  simp [ascendingMembers]

/-- The usable members of a group with their active ports, where READY ports hold identities. -/
theorem mem_usableMembers (hl : PortsLaw s) (e : GroupEntry) (u : UnitId) (p : PortId) :
    (u, p) ∈ usableMembers e s ↔ u ∈ e.members ∧ Serves u p s := by
  simp only [usableMembers, List.mem_filterMap, mem_ascendingMembers]
  constructor
  · rintro ⟨v, hv, h⟩
    split at h
    · rename_i q hq
      cases h
      exact ⟨hv, serves_of_usableTest s hq (active_identity hl _ p ((activePort_iff s _ p).mp (activePort_of_usableTest hq)))⟩
    · cases h
  · rintro ⟨hu, hs⟩
    refine ⟨u, hu, ?_⟩
    rw [usableTest_usable s hs]

theorem nodup_usableMembers (e : GroupEntry) (s : State) : ((usableMembers e s).map Prod.fst).Nodup := by
  have hsub : ((usableMembers e s).map Prod.fst).Sublist (ascendingMembers e) := by
    unfold usableMembers
    induction ascendingMembers e with
    | nil => exact List.Sublist.refl []
    | cons u l ih =>
      rw [List.filterMap_cons]
      split
      · exact ih.cons u
      · rename_i m hm
        split at hm
        · cases hm
          exact ih.cons_cons u
        · cases hm
  exact ((List.nodup_finRange 24).filter _).sublist hsub

/-- The usable members by any list of them. -/
theorem perm_usableMembers (hl : PortsLaw s) {e : GroupEntry} {usable : List (UnitId × PortId)} (hn : (usable.map Prod.fst).Nodup)
    (h : ∀ u p, (u, p) ∈ usable ↔ u ∈ e.members ∧ Serves u p s) : (usableMembers e s).Perm usable :=
  (List.perm_ext_iff_of_nodup (nodup_usableMembers e s).of_map hn.of_map).mpr fun ⟨u, p⟩ =>
    (mem_usableMembers hl e u p).trans (h u p).symm

end

/-- Settles O37, by the usable-unit test and checks 7 to 9 of R56. -/
theorem unitRequestsAreQueued : Obligations.UnitRequestsAreQueued := by
  unfold Obligations.UnitRequestsAreQueued
  intro u p tag command data s h0 hc hf hs hfree hq
  obtain ⟨i, hi, hfi⟩ := firstFree_some s hfree
  have hadmit : admitUnit u p tag command data s = acceptExchange u p tag none command data s := by
    have h1 : freeRecords s ≠ 0 := fun h => (freeRecords_eq_zero s).mp h i hfi
    exact (if_neg hc).trans ((if_neg h1).trans (if_neg (not_le.mpr hq)))
  refine ⟨i, hfi, congrArg Host.Outcome.next ?_⟩
  rw [(takeUnitRequest_unit u h0 hf).1 p (usableTest_usable s hs), hadmit, acceptExchange_eq hi]
  rfl

/-- Settles O38, by the checks of each request in their order. -/
theorem requestsAreRefused : Obligations.RequestsAreRefused := by
  unfold Obligations.RequestsAreRefused
  refine ⟨fun unit tag s => ⟨exec_unitRequest_refuse rfl, ?_⟩, fun unit tag s => ⟨exec_groupRequest_refuse rfl, ?_⟩, ?_⟩
  · intro command data run
    refine ⟨fun h0 => exec_unitRequest_refuse (if_pos h0),
      fun h0 hf => exec_unitRequest_refuse ((if_neg h0).trans (if_pos (tagTaken_eq_true hf))), fun h0 hf => ⟨fun hu => ?_, ?_⟩⟩
    · refine exec_unitRequest_refuse ((if_neg h0).trans ((if_neg ?_).trans ?_))
      · rw [(tagTaken_eq_false s tag).mpr hf]; exact Bool.false_ne_true
      · rw [unitOf_none hu]
    · rintro u rfl e sound
      refine ⟨fun hv => exec_unitRequest_unusable h0 hf (usableTest_notValid hv) rfl,
        fun hv hs => exec_unitRequest_unusable h0 hf (usableTest_faulted hv fun h => hs ⟨hv, h⟩) rfl,
        fun ⟨hv, hs⟩ hp => exec_unitRequest_unusable h0 hf (usableTest_noPort hv hs hp) rfl,
        fun p d ⟨hv, hs⟩ ha hd => ⟨fun hc => exec_unitRequest_unusable h0 hf (usableTest_mismatch hv hs ha hd hc) rfl, fun hc => ?_⟩⟩
      have htake := (takeUnitRequest_unit (command := command) (data := data) u h0 hf).1 p
        (usableTest_usable s ⟨hv, hs.1, hs.2, ha, d, hd, hc⟩)
      refine ⟨fun h => exec_unitRequest_refuse (htake.trans (if_pos h)), fun h hfree => ?_, fun h hfree hfull => ?_⟩
      · exact exec_unitRequest_refuse (htake.trans ((if_neg h).trans (if_pos ((freeRecords_eq_zero s).mpr hfree))))
      · obtain ⟨i, hi⟩ := hfree
        have h1 : freeRecords s ≠ 0 := fun h => (freeRecords_eq_zero s).mp h i hi
        exact exec_unitRequest_refuse (htake.trans ((if_neg h).trans ((if_neg h1).trans (if_pos hfull))))
  · intro command data run
    refine ⟨fun h => exec_groupRequest_refuse (if_pos h),
      fun h0 hc hf => exec_groupRequest_refuse ((if_neg (not_or.mpr ⟨h0, hc⟩)).trans (if_pos (tagTaken_eq_true hf))),
      fun h0 hc hf => ⟨fun hu => ?_, ?_⟩⟩
    · refine exec_groupRequest_refuse ((if_neg (not_or.mpr ⟨h0, hc⟩)).trans ((if_neg ?_).trans ?_))
      · rw [(tagTaken_eq_false s tag).mpr hf]; exact Bool.false_ne_true
      · rw [groupOf_none hu]
    · rintro g rfl e sound tested
      have htake := takeGroupRequest_group data g h0 hc hf
      refine ⟨fun hv => exec_groupRequest_refuse (htake.trans (if_pos hv)), fun hv hs => ?_, fun ⟨hv, hs⟩ hl => ?_, ?_⟩
      · have hfault : groupFaulted e = true := by
          rw [← Bool.not_eq_false, groupFaulted_eq_false]
          exact fun h => hs ⟨hv, h⟩
        exact ⟨_, raised_of_ne_call (fun _ => Notice.noConfusion) s, exec_groupRequest_refuse (htake.trans
          ((if_neg (by rw [show s.groups[g].valid = true from hv]; exact Bool.noConfusion)).trans (if_pos hfault)))⟩
      · have hfault : ¬ groupFaulted e = true := by
          rw [(groupFaulted_eq_false e).mpr hs]; exact Bool.false_ne_true
        exact exec_groupRequest_refuse (htake.trans
          ((if_neg (by rw [show s.groups[g].valid = true from hv]; exact Bool.noConfusion)).trans ((if_neg hfault).trans (if_pos hl))))
      · intro usable ⟨hv, hs⟩ hl hports hnodup hmem records full
        have hperm := perm_usableMembers hports hnodup hmem
        have hadmit : takeGroupRequest (groupAddr g) tag (command :: data) s =
            admitGroup g e (usableMembers e s) tag command data tested := htake.trans (checkGroup_sound hv hs hl)
        have hempty : usableMembers e s = [] ↔ usable = [] := by rw [← List.length_eq_zero_iff, hperm.length_eq, List.length_eq_zero_iff]
        have hrecords : freeRecords tested < (usableMembers e s).length ↔ records < usable.length := by rw [hperm.length_eq]; rfl
        have hfull : (usableMembers e s).any (fun m => decide (Config.queueLimit ≤ queuedWorkstation m.2 tested)) = true ↔ full := by
          simp only [List.any_eq_true, decide_eq_true_eq, hperm.mem_iff]
          rfl
        refine ⟨fun h => exec_groupRequest_refuse (hadmit.trans (if_pos (hempty.mpr h))), fun h hr => ?_, fun h hr hq => ?_,
          fun h hr hq hslot => ?_⟩
        · exact exec_groupRequest_refuse (hadmit.trans ((if_neg (mt hempty.mp h)).trans (if_pos (hrecords.mpr hr))))
        · exact exec_groupRequest_refuse (hadmit.trans ((if_neg (mt hempty.mp h)).trans
            ((if_neg (mt hrecords.mp (not_lt.mpr hr))).trans (if_pos (hfull.mpr hq)))))
        · have hrefused : refused tag .outputFull tested = discarded tested := if_neg hslot
          rw [← hrefused]
          exact exec_groupRequest_refuse (hadmit.trans ((if_neg (mt hempty.mp h)).trans
            ((if_neg (mt hrecords.mp (not_lt.mpr hr))).trans ((if_neg (mt hfull.mp hq)).trans
              (if_pos ((freeSlots_eq_zero tested).mpr hslot))))))
  · intro kind unit tag payload s h1 h2
    have run {st : Status} (h : dispatchStatus kind unit payload = some st) :
        exec (.dispatchRefusal kind unit tag payload) s = .next (refused tag st s) := by
      refine congrArg Host.Outcome.next ?_
      rw [h]
      exact restartSilence_refuse s tag st
    have hk : ¬ (kind = kindUnitRequest ∨ kind = kindGroupRequest) := not_or.mpr ⟨h1, h2⟩
    refine ⟨fun h3 hp => run ?_, fun h3 => run ((if_neg hk).trans (if_neg h3)), fun code params h3 hp hbad => run ?_⟩
    · rw [hp]
      exact (if_neg hk).trans (if_pos h3)
    · have hb : unit ≠ 0 ∨ (managementRequest code 0 params).isNone = true := by
        rw [managementRequest_isNone]
        simpa using hbad
      rw [hp]
      exact (if_neg hk).trans ((if_pos h3).trans (if_pos hb))

end Sys2Proof.Machine
end

section
/-! SUPPORT. An accepted GROUP REQUEST: its members are issued, and its record is opened. -/

namespace Sys2Proof.Machine

section
variable {s : State}

/-! ### The tests of the members (R93) -/

theorem evalKept_evaluateMembers (e : GroupEntry) (s : State) : EvalKept s (evaluateMembers e s) := by
  unfold evaluateMembers
  generalize ascendingMembers e = l
  induction l generalizing s with
  | nil => exact .refl s
  | cons u l ih => exact (evalKept_evaluate u s).trans (ih (evaluate u s))

/-- The tests of the members place no GROUP END. -/
theorem groupEnd_of_evaluateMembers {e : GroupEntry} {g : GroupId} {tag : Byte} {o : GroupOutcome} {x i k a : Nat}
    (h : .groupEnd g tag o x i k a ∈ (evaluateMembers e s).control) : .groupEnd g tag o x i k a ∈ s.control := by
  obtain ⟨l, hl, hends⟩ := (evalKept_evaluateMembers e s).control
  have hm : ControlFrame.groupEnd g tag o x i k a ∈ (evaluateMembers e s).control.filter lasting := List.mem_filter.mpr ⟨h, rfl⟩
  rw [hl, List.mem_append] at hm
  rcases hm with hm | hm
  · exact (List.mem_filter.mp hm).1
  · obtain ⟨_, _, _, hf⟩ := hends _ hm
    cases hf

/-! ### Members issued (R94) -/

/-- The record of a member exchange when it is accepted (R57, R94). -/
def memberRecord (u : UnitId) (p : PortId) (tag command : Byte) (data : List Byte) : Exchange :=
  ⟨.queued, some .workstation, some tag, some u, some p, some tag, none, command, data, 0, 0, none, 0, [], none, none⟩

/-- From `s` to `t` a FREE record has been filled for a member and has joined the tail of its port's queue. -/
structure Taken (u : UnitId) (p : PortId) (tag command : Byte) (data : List Byte) (i : RecId) (s t : State) : Prop where
  free : s.pool[i].state = .free
  queue : t.ports[p] = { s.ports[p] with queue := s.ports[p].queue ++ [i] }
  record : t.pool[i] = memberRecord u p tag command data

/-- `t` is `s` after a member exchange has been issued for each unit of a list, on ports that differ. -/
structure Issued (l : List (UnitId × PortId)) (tag command : Byte) (data : List Byte) (record : UnitId → RecId) (s t : State) : Prop where
  frame : t = { s with ports := t.ports, pool := t.pool }
  apart : ∀ m ∈ l, ∀ n ∈ l, record m.1 = record n.1 → m = n
  taken : ∀ u p, (u, p) ∈ l → Taken u p tag command data (record u) s t
  ports : ∀ p : PortId, (∀ u, (u, p) ∉ l) → t.ports[p] = s.ports[p]
  pool : ∀ i : RecId, (∀ m ∈ l, record m.1 ≠ i) → t.pool[i] = s.pool[i]

/-- `s` with a record filled for a member and queued. -/
def memberQueued (u : UnitId) (p : PortId) (tag command : Byte) (data : List Byte) (i : RecId) (s : State) : State :=
  { withPort p { s.ports[p] with queue := s.ports[p].queue ++ [i] } s with pool := s.pool.set i (memberRecord u p tag command data) }

theorem freeRecords_memberQueued {u : UnitId} {p : PortId} {tag command : Byte} {data : List Byte} {i : RecId}
    (h : s.pool[i].state = .free) : freeRecords (memberQueued u p tag command data i s) + 1 = freeRecords s := by
  have hset : (memberQueued u p tag command data i s).pool.toList = s.pool.toList.set i (memberRecord u p tag command data) :=
    Vector.toList_set i.isLt
  have hi : i.val < s.pool.toList.length := by simp
  have hfree : decide (s.pool.toList[i.val].state = .free) = true := by simpa using h
  have hpos : 0 < s.pool.toList.countP fun r => decide (r.state = .free) :=
    List.countP_pos_iff.mpr ⟨_, List.getElem_mem hi, hfree⟩
  simp only [freeRecords, hset, List.countP_set hi, hfree, memberRecord]
  simp only [reduceCtorEq, decide_false, Bool.false_eq_true, ↓reduceIte, Nat.add_zero]
  omega

theorem issued_cons {u : UnitId} {p : PortId} {l : List (UnitId × PortId)} {tag command : Byte} {data : List Byte} {i : RecId}
    {record : UnitId → RecId} {t : State} (hi : s.pool[i].state = .free) (hu : ∀ q, (u, q) ∉ l) (hp : ∀ v, (v, p) ∉ l)
    (h : Issued l tag command data record (memberQueued u p tag command data i s) t) :
    Issued ((u, p) :: l) tag command data (Function.update record u i) s t := by
  set b := memberQueued u p tag command data i s with hb
  have hold {v : UnitId} {q : PortId} (hm : (v, q) ∈ l) : Function.update record u i v = record v :=
    Function.update_of_ne (β := fun _ => RecId) (fun e : v = u => hu q (by rwa [e] at hm)) i record
  have hnew : Function.update record u i u = i := Function.update_self u i record
  have hself : b.pool[i] = memberRecord u p tag command data := pool_set_self i _ s.pool
  have hne {j : RecId} (hj : j ≠ i) : b.pool[j] = s.pool[j] := pool_set_ne hj _ s.pool
  have hother {v : UnitId} {q : PortId} (hm : (v, q) ∈ l) : record v ≠ i := fun e => by
    have ht := h.taken v q hm
    rw [e] at ht
    exact absurd ht.free (by rw [hself]; exact nofun)
  have hport {q : PortId} (hq : q ≠ p) : b.ports[q] = s.ports[q] := ports_withPort_ne hq _ s
  refine ⟨h.frame.trans rfl, ?_, ?_, ?_, ?_⟩
  · rintro ⟨v, q⟩ hm ⟨w, r⟩ hn he
    rcases List.mem_cons.mp hm with hm | hm <;> rcases List.mem_cons.mp hn with hn | hn
    · rw [hm, hn]
    · cases hm
      rw [hnew, hold hn] at he
      exact absurd he.symm (hother hn)
    · cases hn
      rw [hnew, hold hm] at he
      exact absurd he (hother hm)
    · rw [hold hm, hold hn] at he
      exact h.apart _ hm _ hn he
  · intro v q hm
    rcases List.mem_cons.mp hm with hm | hm
    · cases hm
      rw [hnew]
      exact ⟨hi, (h.ports p hp).trans (ports_withPort p _ s), (h.pool i fun m hm => hother hm).trans hself⟩
    · obtain ⟨hfree, hqueue, hrecord⟩ := h.taken v q hm
      rw [hold hm]
      rw [hne (hother hm)] at hfree
      rw [hport fun e => hp v (by rwa [e] at hm)] at hqueue
      exact ⟨hfree, hqueue, hrecord⟩
  · intro q hq
    have hqp : q ≠ p := fun e => hq u (e ▸ List.mem_cons_self)
    rw [h.ports q fun v hm => hq v (List.mem_cons_of_mem _ hm), hport hqp]
  · intro j hj
    have hji : j ≠ i := fun e => hj (u, p) List.mem_cons_self (hnew.trans e.symm)
    rw [h.pool j fun m hm e => hj m (List.mem_cons_of_mem _ hm) ((hold hm).trans e), hne hji]

/-- With as many FREE records as members, each member has its exchange (R94). -/
theorem issued_issueMembers {l : List (UnitId × PortId)} (tag command : Byte) (data : List Byte) (hu : (l.map Prod.fst).Nodup)
    (hp : (l.map Prod.snd).Nodup) (hfree : l.length ≤ freeRecords s) :
    ∃ record, Issued l tag command data record s (issueMembers l tag command data s) := by
  induction l generalizing s with
  | nil => exact ⟨fun _ => 0, rfl, nofun, nofun, fun _ _ => rfl, fun _ _ => rfl⟩
  | cons m l ih =>
    obtain ⟨u, p⟩ := m
    rw [List.map_cons, List.nodup_cons] at hu hp
    rw [List.length_cons] at hfree
    have hex : ∃ i : RecId, s.pool[i].state = .free := by
      by_contra hn
      have := (freeRecords_eq_zero s).mpr (not_exists.mp hn)
      omega
    obtain ⟨i, hi, hfi⟩ := firstFree_some s hex
    have hstep : issueMembers ((u, p) :: l) tag command data s =
        issueMembers l tag command data (memberQueued u p tag command data i s) := by
      rw [issueMembers, List.foldl_cons, acceptExchange_eq hi]
      rfl
    have hcount := freeRecords_memberQueued (u := u) (p := p) (tag := tag) (command := command) (data := data) hfi
    obtain ⟨record, hr⟩ := ih (s := memberQueued u p tag command data i s) hu.2 hp.2 (by omega)
    rw [hstep]
    exact ⟨_, issued_cons hfi (fun q hm => hu.1 (List.mem_map.mpr ⟨_, hm, rfl⟩))
      (fun v hm => hp.1 (List.mem_map.mpr ⟨_, hm, rfl⟩)) hr⟩

/-- The same members in another order. -/
theorem Issued.perm {l m : List (UnitId × PortId)} {tag command : Byte} {data : List Byte} {record : UnitId → RecId} {t : State}
    (h : Issued l tag command data record s t) (hp : ∀ x, x ∈ l ↔ x ∈ m) : Issued m tag command data record s t := by
  exact ⟨h.frame, fun x hx y hy => h.apart x ((hp x).mpr hx) y ((hp y).mpr hy), fun u p hm => h.taken u p ((hp _).mpr hm),
    fun p hn => h.ports p fun u hm => hn u ((hp _).mp hm), fun i hn => h.pool i fun x hx => hn x ((hp x).mp hx)⟩

/-- Usable units are served on ports that differ (R2). -/
theorem serves_port_inj (hl : RouteLaw s) {u v : UnitId} {p : PortId} (hu : Serves u p s) (hv : Serves v p s) : u = v := by
  have names {w : UnitId} (hw : Serves w p s) : Names s.routes[w] ∧ NamesPort s.routes[w] p := by
    obtain ⟨hval, hports, -, hact, -⟩ := hw
    exact ⟨⟨hval, by rw [hports]; exact nofun⟩, hact.imp (·.1.symm) (·.2.1)⟩
  exact hl.single u v p (names hu).1 (names hv).1 (names hu).2 (names hv).2

theorem nodup_ports_of_serves (hl : RouteLaw s) {l : List (UnitId × PortId)} (hn : (l.map Prod.fst).Nodup)
    (hs : ∀ u p, (u, p) ∈ l → Serves u p s) : (l.map Prod.snd).Nodup := by
  refine List.Nodup.map_on ?_ hn.of_map
  rintro ⟨u, p⟩ hm ⟨v, q⟩ hm' (rfl : p = q)
  rw [serves_port_inj hl (hs u p hm) (hs v p hm')]

/-! ### The record of an accepted GROUP REQUEST (R94) -/

/-- What the opening of a group record adds: GROUP END at once where nothing is expected, otherwise a reserved slot. -/
theorem endAtAcceptance_eq {g : GroupId} {e : GroupEntry} {tag : Byte} {n : Nat} {b t : State}
    (h : t = { reserveSlot b with ports := t.ports, pool := t.pool }) :
    restartSilence (endAtAcceptance (openRecord g e tag n) t) = { b with
      ports := t.ports
      pool := t.pool
      groupRecords := b.groupRecords ++ [⟨tag, g, e.expected.toNat, n, e.members.length - n, 0, decide (e.expected = 0)⟩]
      control := b.control ++ if e.expected = 0 then [.groupEnd g tag .complete 0 n (e.members.length - n) 0] else []
      reservations := b.reservations + if e.expected = 0 then 0 else 1
      silence := freshSilence b } := by
  rw [h]
  by_cases h0 : e.expected = 0
  · have hz : (openRecord g e tag n).expected = 0 := by rw [openRecord, h0]; rfl
    rw [endAtAcceptance, if_pos hz]
    simp only [h0, openRecord, groupEndFrame, ↓reduceIte]
    rfl
  · have hz : (openRecord g e tag n).expected ≠ 0 := fun hz => h0 (BitVec.eq_of_toNat_eq hz)
    rw [endAtAcceptance, if_neg hz]
    simp only [h0, openRecord, decide_false, ↓reduceIte, List.append_nil]
    rfl

end

/-- Settles O40, by the checks of R93 on the state the tests leave, and the issue of the members one after another. -/
theorem groupRequestsIssueMembers : Obligations.GroupRequestsIssueMembers := by
  unfold Obligations.GroupRequestsIssueMembers
  intro g tag command data issued s hroute hports _ _ _ e tested skipped h0 hc hf hv hmc hcc _ hlen hne hnodup hmem hrecords hqueue hslot
  have hperm := perm_usableMembers hports hnodup hmem
  have hadmit : takeGroupRequest (groupAddr g) tag (command :: data) s =
      acceptGroup g e (usableMembers e s) tag command data tested := by
    refine (takeGroupRequest_group data g h0 hc hf).trans ((checkGroup_sound hv ⟨hmc, hcc⟩ hlen).trans ?_)
    have h1 : usableMembers e s ≠ [] := by
      rw [← List.length_pos_iff, hperm.length_eq, List.length_pos_iff]
      exact hne
    have h2 : ¬ freeRecords tested < (usableMembers e s).length := by
      rw [hperm.length_eq]
      exact not_lt.mpr hrecords
    have h3 : ¬ (usableMembers e s).any (fun m => decide (Config.queueLimit ≤ queuedWorkstation m.2 tested)) = true := by
      simp only [List.any_eq_true, decide_eq_true_eq, not_exists, not_and, not_le, hperm.mem_iff]
      exact hqueue
    exact (if_neg h1).trans ((if_neg h2).trans ((if_neg h3).trans (if_neg (freeSlots_ne_zero hslot))))
  have hserves : ∀ u p, (u, p) ∈ usableMembers e s → Serves u p s := fun u p hm => ((mem_usableMembers hports e u p).mp hm).2
  have hu := nodup_usableMembers e s
  obtain ⟨record, hissue⟩ := issued_issueMembers (s := reserveSlot tested) tag command data hu
    (nodup_ports_of_serves hroute hu hserves) (by rw [hperm.length_eq]; exact hrecords)
  obtain ⟨hframe, hapart, htaken, hrest, hpool⟩ := hissue.perm fun x => hperm.mem_iff
  obtain ⟨no, wa, co, re, po, ps, htests⟩ := foldl_evaluate_frame (s := s) (ascendingMembers e)
  have htested : tested = { s with notices := no, wattn := wa, control := co, reservations := re, pool := po, positions := ps } := htests
  have htports : tested.ports = s.ports := by rw [htested]
  have hacc := endAtAcceptance_eq (g := g) (e := e) (tag := tag) (n := issued.length) hframe
  refine ⟨_, record, (congrArg (fun t => Host.Outcome.next (restartSilence t)) hadmit).trans
    ((congrArg (fun n => Host.Outcome.next (restartSilence (endAtAcceptance (openRecord g e tag n)
      (issueMembers (usableMembers e s) tag command data (reserveSlot tested))))) hperm.length_eq).trans (congrArg _ hacc)), ?_, hapart,
    ?_, ?_, hpool, ?_⟩
  · rw [htested]
    rfl
  · intro u p hm
    obtain ⟨hfree, hq, hr⟩ := htaken u p hm
    refine ⟨hfree, ?_, hr⟩
    rw [← htports]
    exact hq
  · intro p hp
    rw [← htports]
    exact hrest p hp
  · intro hx o x i k a hm
    rw [if_neg hx, List.append_nil] at hm
    exact groupEnd_of_evaluateMembers hm

end Sys2Proof.Machine
end

section
/-! SUPPORT. Lengths and ranges of the parameters of the management requests. -/

namespace Sys2Proof.Machine

/-! ### Fields that a selection byte selects (R184) -/

/-- The byte of a selected field: as many bytes precede it as fields are selected before it. -/
def fieldAt (f : Nat → Bool) (l : List Byte) (i : Nat) : Option Byte :=
  if f i then l[(List.range i).countP f]? else none

theorem fieldAt_any (f : Nat → Bool) (l : List Byte) (i : Nat) (bad : Byte → Bool) :
    (f i && (l[(List.range i).countP f]?).any bad) = (fieldAt f l i).any bad := by
  unfold fieldAt; cases f i <;> rfl

theorem fieldAt_setting (a b : Byte) (l : List Byte) (i : Nat) (bad : Byte → Bool) :
    (b.getLsbD i && ((a :: b :: l)[1 + 1 + (List.range i).countP b.getLsbD]?).any bad) = (fieldAt b.getLsbD l i).any bad := by
  rw [← fieldAt_any, Nat.add_comm (1 + 1)]
  rfl

theorem outOfRange_setPort (port sel : Byte) (l : List Byte) : outOfRange 0x10 (port :: sel :: l) =
    (outside 0 11 port || sel == 0 || (fieldAt sel.getLsbD l 0).any (outside 0 7) ||
      (fieldAt sel.getLsbD l 1).any (outside 10 11) || (fieldAt sel.getLsbD l 2).any (outside 0 1) ||
      (fieldAt sel.getLsbD l 3).any (outside 0 250) || (fieldAt sel.getLsbD l 4).any (outside 16 64) ||
      (fieldAt sel.getLsbD l 5).any (outside 0 3) || (fieldAt sel.getLsbD l 6).any (outside 0 1) ||
      (fieldAt sel.getLsbD l 7).any (outside 0 1)) := by
  simp only [← fieldAt_setting port]
  rfl

theorem takeField_next (f : Nat → Bool) (l : List Byte) (i : Nat) (h : (List.range (i + 1)).countP f ≤ l.length) :
    takeField (f i) (l.drop ((List.range i).countP f)) = some (fieldAt f l i, l.drop ((List.range (i + 1)).countP f)) := by
  rw [List.range_succ, List.countP_append, List.countP_singleton] at h ⊢
  cases hf : f i with
  | false => simp [takeField, fieldAt, hf]
  | true =>
    simp only [hf, ↓reduceIte] at h ⊢
    have hlt : (List.range i).countP f < l.length := h
    simp only [takeField, fieldAt, hf, ↓reduceIte, List.drop_eq_getElem_cons hlt, List.getElem?_eq_getElem hlt]

theorem length_of_takeField {b : Bool} {l r : List Byte} {x : Option Byte} (h : takeField b l = some (x, r)) :
    l.length = selected b 1 + r.length := by
  unfold takeField at h
  split at h
  · rename_i hb
    split at h
    · cases h
      simp [selected, hb]
      omega
    · cases h
  · rename_i hb
    cases h
    simp [selected, hb]

/-- The parameters of a SET PORT whose length its selection gives. -/
def portFields (port sel : Byte) (l : List Byte) : PortParams :=
  let value := fieldAt sel.getLsbD l
  ⟨port, value 0, value 1, value 2, value 3, value 4, value 5, value 6, value 7⟩

theorem parsePort_fits {port sel : Byte} {l : List Byte} (h : l.length = (List.range 8).countP sel.getLsbD) :
    parsePort (port :: sel :: l) = some (portFields port sel l) := by
  have hle (i : Nat) (hi : i ≤ 8) : (List.range i).countP sel.getLsbD ≤ l.length := by
    rw [h]
    exact (List.range_sublist.mpr hi).countP_le
  have h0 : takeField (sel.getLsbD 0) l = some (fieldAt sel.getLsbD l 0, l.drop ((List.range 1).countP sel.getLsbD)) :=
    takeField_next sel.getLsbD l 0 (hle 1 (by omega))
  simp only [parsePort, h0, Option.bind_eq_bind, Option.bind_some, takeField_next sel.getLsbD l 1 (hle 2 (by omega)),
    takeField_next sel.getLsbD l 2 (hle 3 (by omega)), takeField_next sel.getLsbD l 3 (hle 4 (by omega)),
    takeField_next sel.getLsbD l 4 (hle 5 (by omega)), takeField_next sel.getLsbD l 5 (hle 6 (by omega)),
    takeField_next sel.getLsbD l 6 (hle 7 (by omega)), takeField_next sel.getLsbD l 7 (hle 8 (by omega))]
  rw [List.drop_eq_nil_of_le h.le]
  rfl


theorem sum_selected (f : Nat → Bool) (n : Nat) :
    ((List.range n).map fun i => selected (f i) 1).sum = (List.range n).countP f := by
  induction n with
  | zero => rfl
  | succ n ih =>
    rw [List.range_succ, List.map_append, List.sum_append, List.countP_append, ih, List.countP_singleton]
    simp [selected]

theorem parsePort_length {port sel : Byte} {l : List Byte} {r : PortParams} (h : parsePort (port :: sel :: l) = some r) :
    l.length = (List.range 8).countP sel.getLsbD := by
  simp only [parsePort, Option.bind_eq_bind, Option.bind_eq_some_iff, Prod.exists] at h
  obtain ⟨_, l1, h0, _, l2, h1, _, l3, h2, _, l4, h3, _, l5, h4, _, l6, h5, _, l7, h6, _, l8, h7, h8⟩ := h
  have hnil : l8.length = 0 := by
    cases l8 with
    | nil => rfl
    | cons => cases h8
  have e0 := length_of_takeField h0
  have e1 := length_of_takeField h1
  have e2 := length_of_takeField h2
  have e3 := length_of_takeField h3
  have e4 := length_of_takeField h4
  have e5 := length_of_takeField h5
  have e6 := length_of_takeField h6
  have e7 := length_of_takeField h7
  rw [← sum_selected]
  simp only [List.range_succ, List.range_zero, List.nil_append, List.map_append, List.map_cons, List.map_nil, List.sum_append,
    List.sum_cons, List.sum_nil]
  omega

theorem decodeField_none {α : Type} {f : Byte → Option α} {bad : Byte → Bool} {x : Option Byte} (hb : ∀ b, bad b = true → f b = none)
    (h : x.any bad = true) : decodeField f x = none := by
  cases x with
  | none => cases h
  | some b => rw [decodeField, hb b h]; rfl

theorem rateOf_outside : ∀ b, outside 0 7 b = true → rateOf b = none := by decide +kernel
theorem charLenOf_outside : ∀ b, outside 10 11 b = true → charLenOf b = none := by decide +kernel
theorem duplexOf_outside : ∀ b, outside 0 1 b = true → duplexOf b = none := by decide +kernel
theorem priorityOf_outside : ∀ b, outside 0 1 b = true → priorityOf b = none := by decide +kernel
theorem boolOf_outside : ∀ b, outside 0 1 b = true → boolOf b = none := by decide +kernel
theorem decodeAllowance_outside : ∀ b, outside 0 250 b = true → decodeAllowance b = none := by decide +kernel
theorem decodeReplyLimit_outside : ∀ b, outside 16 64 b = true → decodeReplyLimit b = none := by decide +kernel
theorem decodeRetryLimit_outside : ∀ b, outside 0 3 b = true → decodeRetryLimit b = none := by decide +kernel
theorem portOf_outside : ∀ b, outside 0 11 b = true → portOf b = none := by decide +kernel
theorem unitOf_outside : ∀ b, outside 1 24 b = true → unitOf b = none := by decide +kernel
theorem groupOf_outside : ∀ b, outside 25 31 b = true → groupOf b = none := by decide +kernel
theorem posOf_outside : ∀ b, outside 1 8 b = true → posOf b = none := by decide +kernel
theorem expectedOf_outside : ∀ b, outside 0 2 b = true → expectedOf b = none := by decide +kernel
theorem decodeCount_outside : ∀ b, outside 0 24 b = true → decodeCount b = none := by decide +kernel
theorem optUnitOf_outside : ∀ b, outside 0 24 b = true → optUnitOf b = none := by decide +kernel
theorem holdOf_outside : ∀ b, outside 0 3 b = true → holdOf b = none := by decide +kernel
theorem decodeSilence_outside : ∀ b, outside 0 60 b = true → decodeSilence b = none := by decide +kernel
theorem decodeStarvation_outside : ∀ b, outside 0 15 b = true → decodeStarvation b = none := by decide +kernel

/-- A SET PORT of the right length with a value out of range (R45). -/
theorem decodePort_outOfRange {port sel : Byte} {l : List Byte} (h : outOfRange 0x10 (port :: sel :: l) = true) :
    decodePort (portFields port sel l) = none := by
  rw [outOfRange_setPort] at h
  simp only [Bool.or_eq_true] at h
  by_contra hn
  obtain ⟨w, hw⟩ := Option.ne_none_iff_exists'.mp hn
  unfold decodePort at hw
  split at hw
  · cases hw
  rename_i hempty
  simp only [portFields, Option.bind_eq_bind, Option.bind_eq_some_iff] at hw
  obtain ⟨_, h0, _, h1, _, h2, _, h3, _, h4, _, h5, _, h6, _, h7, _, h8, -⟩ := hw
  rcases h with ((((((((h | h) | h) | h) | h) | h) | h) | h) | h) | h
  · rw [portOf_outside _ h] at h0; cases h0
  · obtain rfl : sel = 0 := by simpa using h
    exact hempty (by simp [portFields, portParamsEmpty, fieldAt])
  · rw [decodeField_none rateOf_outside h] at h1; cases h1
  · rw [decodeField_none charLenOf_outside h] at h2; cases h2
  · rw [decodeField_none duplexOf_outside h] at h3; cases h3
  · rw [decodeField_none decodeAllowance_outside h] at h4; cases h4
  · rw [decodeField_none decodeReplyLimit_outside h] at h5; cases h5
  · rw [decodeField_none decodeRetryLimit_outside h] at h6; cases h6
  · rw [decodeField_none priorityOf_outside h] at h7; cases h7
  · rw [decodeField_none boolOf_outside h] at h8; cases h8

/-! ### SET LINE (R165) -/

theorem fieldAt_first (b : Byte) (l : List Byte) (i : Nat) (bad : Byte → Bool) :
    (b.getLsbD i && ((b :: l)[0 + 1 + (List.range i).countP b.getLsbD]?).any bad) = (fieldAt b.getLsbD l i).any bad := by
  rw [← fieldAt_any, Nat.add_comm (0 + 1)]
  rfl

theorem outOfRange_setLine (sel : Byte) (l : List Byte) : outOfRange 0x30 (sel :: l) =
    ((fieldAt sel.getLsbD l 0).any (outside 0 3) || (fieldAt sel.getLsbD l 1).any (outside 0 60) ||
      (fieldAt sel.getLsbD l 2).any (outside 0 15) || (fieldAt sel.getLsbD l 3).any (outside 0 7)) := by
  simp only [← fieldAt_first]
  rfl

/-- The two bytes of the enable set at the end of a SET LINE, where it is selected. -/
def enableField (b : Bool) : List Byte → Option (Option Half)
  | [] => if b then none else some none
  | [hi, lo] => if b then some (some (halfOf hi lo)) else none
  | _ => none

theorem length_of_enableField {b : Bool} {l : List Byte} {x : Option Half} (h : enableField b l = some x) : l.length = selected b 2 := by
  unfold enableField at h
  split at h
  · cases b with
    | false => rfl
    | true => cases h
  · cases b with
    | false => cases h
    | true => rfl
  · cases h

theorem parseLine_cons (sel : Byte) (l : List Byte) : parseLine (sel :: l) = (do
    let (hold, l1) ← takeField (sel.getLsbD 0) l
    let (silence, l2) ← takeField (sel.getLsbD 1) l1
    let (k, l3) ← takeField (sel.getLsbD 2) l2
    Option.map (fun x => ⟨hold, silence, k, x⟩) (enableField (sel.getLsbD 3) l3)) := by
  simp only [parseLine, Option.bind_eq_bind]
  congr; funext x1; congr; funext x2; congr; funext x3
  obtain ⟨_, l3⟩ := x3
  cases sel.getLsbD 3 <;> rcases l3 with _ | ⟨_, _ | ⟨_, _ | _⟩⟩ <;> rfl

end Sys2Proof.Machine
end

section
/-! SUPPORT. Lengths and ranges of the parameters of SET LINE, SET GROUP, SET ROUTE and the requests of a fixed length. -/

namespace Sys2Proof.Machine

/-! ### SET LINE (R165) -/

theorem parseLine_length {sel : Byte} {l : List Byte} {r : LineParams} (h : parseLine (sel :: l) = some r) :
    l.length = (List.range 3).countP sel.getLsbD + selected (sel.getLsbD 3) 2 := by
  simp only [parseLine_cons, Option.bind_eq_bind, Option.bind_eq_some_iff, Prod.exists, Option.map_eq_some_iff] at h
  obtain ⟨_, l1, h0, _, l2, h1, _, l3, h2, _, h3, -⟩ := h
  have e0 := length_of_takeField h0
  have e1 := length_of_takeField h1
  have e2 := length_of_takeField h2
  have e3 := length_of_enableField h3
  rw [← sum_selected]
  simp only [List.range_succ, List.range_zero, List.nil_append, List.map_append, List.map_cons, List.map_nil, List.sum_append,
    List.sum_cons, List.sum_nil]
  omega

theorem parseLine_fits {sel : Byte} {l : List Byte} (h : l.length = (List.range 3).countP sel.getLsbD + selected (sel.getLsbD 3) 2) :
    parseLine (sel :: l) = (enableField (sel.getLsbD 3) (l.drop ((List.range 3).countP sel.getLsbD))).map
      fun x => ⟨fieldAt sel.getLsbD l 0, fieldAt sel.getLsbD l 1, fieldAt sel.getLsbD l 2, x⟩ := by
  have hle (i : Nat) (hi : i ≤ 3) : (List.range i).countP sel.getLsbD ≤ l.length := by
    rw [h]
    exact ((List.range_sublist.mpr hi).countP_le).trans (Nat.le_add_right _ _)
  have h0 : takeField (sel.getLsbD 0) l = some (fieldAt sel.getLsbD l 0, l.drop ((List.range 1).countP sel.getLsbD)) :=
    takeField_next sel.getLsbD l 0 (hle 1 (by omega))
  simp only [parseLine_cons, h0, Option.bind_eq_bind, Option.bind_some, takeField_next sel.getLsbD l 1 (hle 2 (by omega)),
    takeField_next sel.getLsbD l 2 (hle 3 (by omega))]

/-- The enable set of a SET LINE whose length its selection gives. -/
theorem enableField_fits {b : Bool} {l : List Byte} (h : l.length = selected b 2) :
    (b = false ∧ enableField b l = some none) ∨
      b = true ∧ ∃ hi lo, l = [hi, lo] ∧ enableField b l = some (some (halfOf hi lo)) := by
  cases b with
  | false =>
    obtain rfl := List.length_eq_zero_iff.mp h
    exact .inl ⟨rfl, rfl⟩
  | true =>
    obtain ⟨hi, lo, rfl⟩ := List.length_eq_two.mp h
    exact .inr ⟨rfl, hi, lo, rfl, rfl⟩

theorem toNat_halfOf (hi lo : Byte) : (halfOf hi lo).toNat = hi.toNat * 256 + lo.toNat := by
  have hlo := lo.isLt
  rw [halfOf, BitVec.toNat_append, Nat.shiftLeft_eq, Nat.mul_comm, ← Nat.two_pow_add_eq_or_of_lt hlo]

theorem decodeLine_none {r : LineParams} (h : decodeField holdOf r.hold = none ∨ decodeField decodeSilence r.silence = none ∨
    decodeField decodeStarvation r.k = none ∨ decodeEnable r.enable = none) : decodeLine r = none := by
  by_contra hn
  obtain ⟨w, hw⟩ := Option.ne_none_iff_exists'.mp hn
  simp only [decodeLine, Option.bind_eq_bind, Option.bind_eq_some_iff] at hw
  obtain ⟨_, h0, _, h1, _, h2, _, h3, -⟩ := hw
  rcases h with h | h | h | h
  · rw [h] at h0; cases h0
  · rw [h] at h1; cases h1
  · rw [h] at h2; cases h2
  · rw [h] at h3; cases h3

/-- A SET LINE of the right length with a value out of range (R165). -/
theorem setLine_outOfRange {sel : Byte} {l : List Byte}
    (hl : l.length = (List.range 3).countP sel.getLsbD + selected (sel.getLsbD 3) 2) (h : outOfRange 0x30 (sel :: l) = true) :
    ∃ r, parseLine (sel :: l) = some r ∧ decodeLine r = none := by
  have hd : (l.drop ((List.range 3).countP sel.getLsbD)).length = selected (sel.getLsbD 3) 2 := by
    rw [List.length_drop]
    omega
  rw [parseLine_fits hl]
  rw [outOfRange_setLine] at h
  simp only [Bool.or_eq_true] at h
  rcases enableField_fits hd with ⟨h3, he⟩ | ⟨h3, hi, lo, hlast, he⟩
  · refine ⟨_, by rw [he]; rfl, decodeLine_none ?_⟩
    rcases h with ((h | h) | h) | h
    · exact .inl (decodeField_none holdOf_outside h)
    · exact .inr (.inl (decodeField_none decodeSilence_outside h))
    · exact .inr (.inr (.inl (decodeField_none decodeStarvation_outside h)))
    · rw [fieldAt, h3] at h
      cases h
  · refine ⟨_, by rw [he]; rfl, decodeLine_none ?_⟩
    rcases h with ((h | h) | h) | h
    · exact .inl (decodeField_none holdOf_outside h)
    · exact .inr (.inl (decodeField_none decodeSilence_outside h))
    · exact .inr (.inr (.inl (decodeField_none decodeStarvation_outside h)))
    · have hfirst : l[(List.range 3).countP sel.getLsbD]? = some hi := by
        rw [← List.head?_drop, hlast]
        rfl
      rw [fieldAt, h3, if_pos rfl, hfirst] at h
      have h7 : 7 < hi.toNat := by simpa [outside] using h
      have hbig : ¬ (halfOf hi lo).toNat < 2048 := by
        rw [toNat_halfOf]
        omega
      exact .inr (.inr (.inr (if_neg hbig)))

/-! ### SET GROUP (R89) -/

theorem unitAddr_of_unitOf {b : Byte} {u : UnitId} (h : unitOf b = some u) : b = unitAddr u := by
  unfold unitOf at h
  split at h
  · rename_i hr
    cases h
    refine BitVec.eq_of_toNat_eq ?_
    rw [unitAddr, byteOf_toNat (by simp only; omega)]
    simp only
    omega
  · cases h

theorem mapM_unitOf_eq_some {l : List Byte} {us : List UnitId} (h : l.mapM unitOf = some us) : l = us.map unitAddr := by
  induction l generalizing us with
  | nil => cases h; rfl
  | cons b l ih =>
    simp only [List.mapM_cons, Option.bind_eq_bind, Option.bind_eq_some_iff, Option.pure_def, Option.some.injEq] at h
    obtain ⟨u, hu, vs, hvs, rfl⟩ := h
    rw [unitAddr_of_unitOf hu, ih hvs, List.map_cons]

theorem outside_unitAddr : ∀ u : UnitId, outside 1 24 (unitAddr u) = false := by decide

/-- A member set with an address out of range, or one named twice (R89). -/
theorem decodeUnits_none {l : List Byte} (h : l.any (outside 1 24) = true ∨ ¬ l.Nodup) : decodeUnits l = none := by
  unfold decodeUnits
  split
  · rename_i us hus
    have hl := mapM_unitOf_eq_some hus
    refine if_neg fun hn => ?_
    rcases h with h | h
    · obtain ⟨b, hb, ho⟩ := List.any_eq_true.mp h
      rw [hl] at hb
      obtain ⟨u, -, rfl⟩ := List.mem_map.mp hb
      rw [outside_unitAddr] at ho
      cases ho
    · refine h (hl ▸ hn.map fun u v e => ?_)
      have := congrArg unitOf e
      rw [unitOf_unitAddr, unitOf_unitAddr] at this
      exact Option.some.inj this
  · rfl

theorem decodeGroup_none {r : GroupParams} (h : (r.members.isNone && r.count.isNone || r.forceMembers && r.members.isNone ||
      r.forceCount && r.count.isNone) = true ∨ groupOf r.group = none ∨ decodeField decodeCount r.count = none ∨
      decodeMembers r.members = none) : decodeGroup r = none := by
  unfold decodeGroup
  split
  · rfl
  rename_i hs
  split
  · rename_i hg hc hm
    rcases h with h | h | h | h
    · exact absurd h hs
    · rw [h] at hg; cases hg
    · rw [h] at hc; cases hc
    · rw [h] at hm; cases hm
  · rfl

/-- The parameters of a SET GROUP by its selection and member count; none where its length is another (R184). -/
theorem parseGroup_cases (group sel : Byte) (rest : List Byte) :
    (parseGroup (group :: sel :: rest) = none ∧
      expectedLength 0x08 (group :: sel :: rest) ≠ some (group :: sel :: rest).length) ∨
    (expectedLength 0x08 (group :: sel :: rest) = some (group :: sel :: rest).length ∧
      parseGroup (group :: sel :: rest) = some ⟨group, if sel.getLsbD 1 then rest[0]? else none,
        if sel.getLsbD 0 then some (rest.drop (if sel.getLsbD 1 then 2 else 1)) else none, sel.getLsbD 4, sel.getLsbD 5⟩) := by
  have hlen : expectedLength 0x08 (group :: sel :: rest) =
      if sel.getLsbD 0 then (rest[selected (sel.getLsbD 1) 1]?).map fun m => 2 + selected (sel.getLsbD 1) 1 + 1 + m.toNat
      else some (2 + selected (sel.getLsbD 1) 1) := rfl
  rw [hlen]
  simp only [parseGroup]
  generalize sel.getLsbD 0 = b0
  generalize sel.getLsbD 1 = b1
  cases b1 with
  | false =>
    cases b0 with
    | false => cases rest <;> simp [takeField, parseMembers, selected]
    | true =>
      rcases rest with _ | ⟨m, units⟩
      · simp [takeField, parseMembers, selected]
      · by_cases h : units.length = m.toNat
        · right; simp [takeField, parseMembers, selected, h]; omega
        · left; simp [takeField, parseMembers, selected, h]; omega
  | true =>
    rcases rest with _ | ⟨c, rest⟩
    · cases b0 <;> simp [takeField, selected]
    · cases b0 with
      | false => cases rest <;> simp [takeField, parseMembers, selected]
      | true =>
        rcases rest with _ | ⟨m, units⟩
        · simp [takeField, parseMembers, selected]
        · by_cases h : units.length = m.toNat
          · right; simp [takeField, parseMembers, selected, h]; omega
          · left; simp [takeField, parseMembers, selected, h]; omega

theorem outOfRange_setGroup (group sel : Byte) (rest : List Byte) : outOfRange 0x08 (group :: sel :: rest) =
    (outside 25 31 group || (!sel.getLsbD 0 && !sel.getLsbD 1) || (sel.getLsbD 4 && !sel.getLsbD 0) ||
      (sel.getLsbD 5 && !sel.getLsbD 1) || (sel.getLsbD 1 && (rest[0]?).any (outside 0 24)) ||
      (sel.getLsbD 0 && ((rest.drop (if sel.getLsbD 1 then 2 else 1)).any (outside 1 24) ||
        !decide (rest.drop (if sel.getLsbD 1 then 2 else 1)).Nodup))) := by
  have hdrop : (group :: sel :: rest).drop (if sel.getLsbD 1 then 4 else 3) = rest.drop (if sel.getLsbD 1 then 2 else 1) := by
    cases sel.getLsbD 1 <;> rfl
  rw [← hdrop]
  rfl

/-- A SET GROUP of the right length with a value out of range (R89). -/
theorem setGroup_outOfRange {group sel : Byte} {rest : List Byte} (h : outOfRange 0x08 (group :: sel :: rest) = true) :
    decodeGroup ⟨group, if sel.getLsbD 1 then rest[0]? else none,
      if sel.getLsbD 0 then some (rest.drop (if sel.getLsbD 1 then 2 else 1)) else none, sel.getLsbD 4, sel.getLsbD 5⟩ = none := by
  rw [outOfRange_setGroup] at h
  simp only [Bool.or_eq_true, Bool.and_eq_true, Bool.not_eq_true', decide_eq_false_iff_not] at h
  refine decodeGroup_none ?_
  rcases h with ((((h | h) | h) | h) | h) | h
  · exact .inr (.inl (groupOf_outside _ h))
  · exact .inl (by simp only [h.1, h.2, Bool.false_eq_true, ↓reduceIte, Option.isNone_none, Bool.and_self, Bool.true_or])
  · exact .inl (by simp only [h.1, h.2, Bool.false_eq_true, ↓reduceIte, Option.isNone_none, Bool.and_self, Bool.true_or, Bool.or_true])
  · exact .inl (by simp only [h.1, h.2, Bool.false_eq_true, ↓reduceIte, Option.isNone_none, Bool.and_self, Bool.or_true])
  · refine .inr (.inr (.inl ?_))
    rw [h.1, if_pos rfl]
    exact decodeField_none decodeCount_outside h.2
  · refine .inr (.inr (.inr ?_))
    rw [h.1, if_pos rfl, decodeMembers, decodeUnits_none h.2]
    rfl

/-! ### SET ROUTE (R15) -/

theorem decodeRoute_none {r : RouteParams} (h : (r.ports.isNone && r.expected.isNone || r.forcePorts && r.ports.isNone ||
      r.forceClass && r.expected.isNone) = true ∨ unitOf r.unit = none ∨ decodePorts r.ports = none ∨
      decodeField expectedOf r.expected = none) : decodeRoute r = none := by
  unfold decodeRoute
  split
  · rfl
  rename_i hs
  split
  · rename_i hu hp hc
    rcases h with h | h | h | h
    · exact absurd h hs
    · rw [h] at hu; cases hu
    · rw [h] at hp; cases hp
    · rw [h] at hc; cases hc
  · rfl

theorem decodePorts_none {a b : Byte}
    (h : outside 0 11 a = true ∨ (outside 0 11 b = true ∧ b ≠ 0xFF) ∨ a = b) : decodePorts (some (a, b)) = none := by
  rcases h with h | ⟨h, hb⟩ | rfl
  · simp only [decodePorts, portOf_outside a h]
  · have hn : standbyOf b = none := by rw [standbyOf, if_neg hb, portOf_outside b h]; rfl
    simp only [decodePorts, hn]
    cases portOf a <;> rfl
  · simp only [decodePorts]
    split
    · rename_i p q hp hq
      have hne : a ≠ 0xFF := by
        rintro rfl
        cases hp
      rw [standbyOf, if_neg hne, hp] at hq
      cases hq
      exact if_pos rfl
    · rfl

/-- What a SET ROUTE of the right length carries: the port bytes and the class byte that its selection selects (R184). -/
inductive RouteBytes : Bool → Bool → List Byte → Option (Byte × Byte) → Option Byte → Prop
  | both (a b c : Byte) : RouteBytes true true [a, b, c] (some (a, b)) (some c)
  | ports (a b : Byte) : RouteBytes true false [a, b] (some (a, b)) none
  | cls (c : Byte) : RouteBytes false true [c] none (some c)
  | neither : RouteBytes false false [] none none

theorem parseRoute_some {unit sel : Byte} {rest : List Byte} {ports : Option (Byte × Byte)} {cls : Option Byte}
    (h : RouteBytes (sel.getLsbD 0) (sel.getLsbD 1) rest ports cls) :
    parseRoute (unit :: sel :: rest) = some ⟨unit, ports, cls, sel.getLsbD 4, sel.getLsbD 5⟩ := by
  unfold parseRoute
  dsimp only
  generalize sel.getLsbD 0 = b0 at h ⊢
  generalize sel.getLsbD 1 = b1 at h ⊢
  cases h <;> rfl

theorem parseRoute_none {unit sel : Byte} {rest : List Byte}
    (h : rest.length ≠ selected (sel.getLsbD 0) 2 + selected (sel.getLsbD 1) 1) : parseRoute (unit :: sel :: rest) = none := by
  unfold parseRoute
  dsimp only
  generalize sel.getLsbD 0 = b0 at h ⊢
  generalize sel.getLsbD 1 = b1 at h ⊢
  cases b0 with
  | false =>
    cases b1 with
    | false =>
      rcases rest with _ | _
      · exact absurd rfl h
      · rfl
    | true =>
      rcases rest with _ | ⟨_, _ | _⟩
      · rfl
      · exact absurd rfl h
      · rfl
  | true =>
    cases b1 with
    | false =>
      rcases rest with _ | ⟨_, _ | ⟨_, _ | _⟩⟩
      · rfl
      · rfl
      · exact absurd rfl h
      · rfl
    | true =>
      rcases rest with _ | ⟨_, _ | ⟨_, _ | ⟨_, _ | _⟩⟩⟩
      · rfl
      · rfl
      · rfl
      · exact absurd rfl h
      · rfl

theorem routeBytes_of_length {b0 b1 : Bool} {rest : List Byte} (h : rest.length = selected b0 2 + selected b1 1) :
    ∃ ports cls, RouteBytes b0 b1 rest ports cls := by
  cases b0 <;> cases b1
  · obtain rfl := List.length_eq_zero_iff.mp h
    exact ⟨_, _, .neither⟩
  · obtain ⟨c, rfl⟩ := List.length_eq_one_iff.mp h
    exact ⟨_, _, .cls c⟩
  · obtain ⟨a, b, rfl⟩ := List.length_eq_two.mp h
    exact ⟨_, _, .ports a b⟩
  · obtain ⟨a, b, c, rfl⟩ := List.length_eq_three.mp h
    exact ⟨_, _, .both a b c⟩

theorem outOfRange_setRoute (unit sel : Byte) (rest : List Byte) : outOfRange 0x01 (unit :: sel :: rest) =
    (outside 1 24 unit || (!sel.getLsbD 0 && !sel.getLsbD 1) || (sel.getLsbD 4 && !sel.getLsbD 0) ||
      (sel.getLsbD 5 && !sel.getLsbD 1) || (sel.getLsbD 0 && ((rest[0]?).any (outside 0 11) ||
        (rest[1]?).any (fun b => outside 0 11 b && b != 0xFF) || rest[0]? == rest[1]?)) ||
      (sel.getLsbD 1 && (rest[if sel.getLsbD 0 then 2 else 0]?).any (outside 0 2))) := by
  have hclass : (unit :: sel :: rest)[if sel.getLsbD 0 then 4 else 2]? = rest[if sel.getLsbD 0 then 2 else 0]? := by
    cases sel.getLsbD 0 <;> rfl
  rw [← hclass]
  rfl

/-- A SET ROUTE of the right length with a value out of range (R15). -/
theorem setRoute_outOfRange {unit sel : Byte} {rest : List Byte} {ports : Option (Byte × Byte)} {cls : Option Byte}
    (hr : RouteBytes (sel.getLsbD 0) (sel.getLsbD 1) rest ports cls) (h : outOfRange 0x01 (unit :: sel :: rest) = true) :
    decodeRoute ⟨unit, ports, cls, sel.getLsbD 4, sel.getLsbD 5⟩ = none := by
  rw [outOfRange_setRoute] at h
  generalize sel.getLsbD 0 = b0 at h hr
  generalize sel.getLsbD 1 = b1 at h hr
  generalize sel.getLsbD 4 = b4 at h
  generalize sel.getLsbD 5 = b5 at h
  refine decodeRoute_none ?_
  cases hr with
  | both a b c =>
    simp only [Bool.not_true, Bool.and_false, Bool.or_false, Bool.true_and, ↓reduceIte, Bool.or_eq_true] at h
    rcases h with (h | (h | h) | h) | h
    · exact .inr (.inl (unitOf_outside _ h))
    · exact .inr (.inr (.inl (decodePorts_none (.inl h))))
    · exact .inr (.inr (.inl (decodePorts_none (.inr (.inl (by simpa using h))))))
    · exact .inr (.inr (.inl (decodePorts_none (.inr (.inr (by simpa using h))))))
    · exact .inr (.inr (.inr (decodeField_none (x := some c) expectedOf_outside h)))
  | ports a b =>
    simp only [Bool.not_true, Bool.not_false, Bool.and_false, Bool.and_true, Bool.or_false, Bool.true_and, Bool.false_and,
      Bool.or_eq_true] at h
    rcases h with (h | h) | (h | h) | h
    · exact .inr (.inl (unitOf_outside _ h))
    · exact .inl (by simp [h])
    · exact .inr (.inr (.inl (decodePorts_none (.inl h))))
    · exact .inr (.inr (.inl (decodePorts_none (.inr (.inl (by simpa using h))))))
    · exact .inr (.inr (.inl (decodePorts_none (.inr (.inr (by simpa using h))))))
  | cls c =>
    simp only [Bool.not_true, Bool.not_false, Bool.and_false, Bool.and_true, Bool.or_false, Bool.true_and, Bool.false_and,
      Bool.false_eq_true, ↓reduceIte, Bool.or_eq_true] at h
    rcases h with (h | h) | h
    · exact .inr (.inl (unitOf_outside _ h))
    · exact .inl (by simp [h])
    · exact .inr (.inr (.inr (decodeField_none (x := some c) expectedOf_outside h)))
  | neither => exact .inl rfl

end Sys2Proof.Machine
end

section
/-! SUPPORT. Management requests by their codes: what each answers where its parameters have a wrong length or are out of range. -/

namespace Sys2Proof.Machine

section
variable {code tag : Byte} {params : List Byte}

/-! ### The taking of a reserved request (R158) -/

/-- What the owner of a management request does with a slot reserved for its reply, by the code. -/
def taking (code tag : Byte) (params : List Byte) : State → State × Answer :=
  match code.toNat with
  | 0x01 => takeSetRoute params
  | 0x02 => takeClearRoute params
  | 0x03 => takeReadRoute params
  | 0x08 => takeSetGroup params
  | 0x09 => takeReadGroup params
  | 0x10 => takeSetPort params
  | 0x11 => takeReadPort params
  | 0x12 => takeResetPort params
  | 0x13 => takeAbortPort params
  | 0x18 => takeSetPass params
  | 0x20 => takeSetPosition params
  | 0x21 => withPosition params openThePosition
  | 0x22 => withPosition params closeThePosition
  | 0x23 => withPosition params openTheSession
  | 0x24 => withPosition params closeTheSession
  | 0x25 => takeSetSessionLimit params
  | 0x26 => withPosition params readThePosition
  | 0x28 => takeOpenEntry tag params
  | 0x29 => withPosition params cancelTheEntry
  | 0x30 => takeSetLine params
  | 0x38 => takeReadStatus params
  | 0x39 => takeReadCounters params
  | 0x3A => takeTakeNotice params
  | 0x3F => takeRestart params
  | _ => fun s => (s, .refuse .badRequest)

/-- A statement about every code of Table 12.7. -/
theorem forall_managementCodes {P : Byte → Prop} (h01 : P 0x01) (h02 : P 0x02) (h03 : P 0x03) (h08 : P 0x08) (h09 : P 0x09)
    (h10 : P 0x10) (h11 : P 0x11) (h12 : P 0x12) (h13 : P 0x13) (h18 : P 0x18) (h20 : P 0x20) (h21 : P 0x21) (h22 : P 0x22)
    (h23 : P 0x23) (h24 : P 0x24) (h25 : P 0x25) (h26 : P 0x26) (h28 : P 0x28) (h29 : P 0x29) (h30 : P 0x30) (h38 : P 0x38)
    (h39 : P 0x39) (h3A : P 0x3A) (h3F : P 0x3F) : ∀ code ∈ managementCodes, P code := by
  simp only [managementCodes, List.forall_mem_cons]
  exact ⟨h01, h02, h03, h08, h09, h10, h11, h12, h13, h18, h20, h21, h22, h23, h24, h25, h26, h28, h29, h30, h38, h39, h3A, h3F,
    nofun⟩

theorem managementRequest_taking (h : code ∈ managementCodes) (hr : ¬ (code = 0x3F ∧ params = [0x02])) :
    managementRequest code tag params = some (manage tag (taking code tag params)) := by
  revert hr
  exact forall_managementCodes (P := fun code => ¬ (code = 0x3F ∧ params = [0x02]) →
    managementRequest code tag params = some (manage tag (taking code tag params)))
    (fun _ => rfl) (fun _ => rfl) (fun _ => rfl) (fun _ => rfl) (fun _ => rfl) (fun _ => rfl) (fun _ => rfl) (fun _ => rfl)
    (fun _ => rfl) (fun _ => rfl) (fun _ => rfl) (fun _ => rfl) (fun _ => rfl) (fun _ => rfl) (fun _ => rfl) (fun _ => rfl)
    (fun _ => rfl) (fun _ => rfl) (fun _ => rfl) (fun _ => rfl) (fun _ => rfl) (fun _ => rfl) (fun _ => rfl)
    (fun hn => congrArg some (funext fun s => if_neg fun e => hn ⟨rfl, e⟩)) code h

/-- A management request that is dispatched with a reservation is taken by the owner of its code (R156, R158). -/
theorem exec_reserved {i : Instr} (h : reservedRequest i = some (tag, code, params)) (s : State) :
    code ∈ managementCodes ∧ exec i s = .next (manage tag (taking code tag params) s) := by
  unfold reservedRequest at h
  split at h
  · rename_i kind unit tag' code' params' hf
    split at h
    · rename_i hc
      cases h
      obtain ⟨hk, hw, hd, hr⟩ := hc
      have hlisted : unit = 0 ∧ code ∈ managementCodes := by
        rw [hk] at hd
        simpa [refusedAtDispatch] using hd
      refine ⟨hlisted.2, (exec_requestFrame hf hw s).trans (congrArg Host.Outcome.next ?_)⟩
      have h1 : kind ≠ kindUnitRequest := by rw [hk]; decide
      have h2 : kind ≠ kindGroupRequest := by rw [hk]; decide
      have h3 : kind = kindManagement := hk
      have hu : ¬ unit ≠ 0 := not_not_intro hlisted.1
      simp only [dispatch, if_neg h1, if_neg h2, if_pos h3, dispatchManagement, if_neg hu, managementRequest_taking hlisted.2 hr]
    · cases h
  · cases h

/-! ### Wrong lengths and parameters out of range (R169, R170, R184) -/

/-- A request answers BAD_LENGTH where its length is not the one its code, selection and member count give, and BAD_PARAMETER where it is
and its parameters are out of range, and does nothing else. -/
structure Rejects (code : Byte) (params : List Byte) (take : State → State × Answer) : Prop where
  length : expectedLength code params ≠ some params.length → ∀ t, take t = (t, .refuse .badLength)
  range : expectedLength code params = some params.length → outOfRange code params = true → ∀ t, take t = (t, .refuse .badParameter)

variable {take : State → State × Answer}

theorem rejects_fixed {n : Nat} (hl : expectedLength code params = some n)
    (h0 : params.length ≠ n → ∀ t, take t = (t, .refuse .badLength))
    (h1 : params.length = n → outOfRange code params = true → ∀ t, take t = (t, .refuse .badParameter)) : Rejects code params take := by
  refine ⟨fun h => h0 fun e => h (by rw [hl, e]), fun h => h1 ?_⟩
  rw [hl] at h
  exact (Option.some.inj h).symm

theorem parseCounters_eq_none (h : params.length ≠ 2) : parseCounters params = none := by
  rcases params with _ | ⟨_, _ | ⟨_, _ | _⟩⟩
  · rfl
  · rfl
  · exact absurd rfl h
  · rfl

theorem parsePass_eq_none (h : params.length ≠ 3) : parsePass params = none := by
  rcases params with _ | ⟨_, _ | ⟨_, _ | ⟨_, _ | _⟩⟩⟩
  · rfl
  · rfl
  · rfl
  · exact absurd rfl h
  · rfl

theorem parsePosition_eq_none (h : params.length ≠ 3) : parsePosition params = none := by
  rcases params with _ | ⟨_, _ | ⟨_, _ | ⟨_, _ | _⟩⟩⟩
  · rfl
  · rfl
  · rfl
  · exact absurd rfl h
  · rfl

theorem parseEntry_eq_none (h : params.length ≠ 6) : parseEntry params = none := by
  unfold parseEntry
  split
  · exact absurd rfl h
  · rfl

/-- A request of one byte that names what its owner knows (R184). -/
theorem rejects_one (hl : expectedLength code params = some 1) (h0 : parseOne params = none → ∀ t, take t = (t, .refuse .badLength))
    (h1 : ∀ b, params = [b] → outOfRange code [b] = true → ∀ t, take t = (t, .refuse .badParameter)) : Rejects code params take := by
  refine rejects_fixed hl (fun h => h0 (parseOne_eq_none h)) fun h => ?_
  obtain ⟨b, rfl⟩ := List.length_eq_one_iff.mp h
  exact h1 b rfl

theorem rejects_position {act : PosId → State → State × Answer} (hl : expectedLength code params = some 1)
    (hr : ∀ b, outOfRange code [b] = outside 1 8 b) : Rejects code params (withPosition params act) := by
  refine rejects_one hl (fun h t => by simp only [withPosition, h]) ?_
  rintro b rfl h t
  rw [hr] at h
  simp only [withPosition, parseOne, posOf_outside b h]

theorem rejects_setRoute (params : List Byte) : Rejects 0x01 params (takeSetRoute params) := by
  rcases params with _ | ⟨unit, _ | ⟨sel, rest⟩⟩
  · exact ⟨fun _ _ => rfl, nofun⟩
  · exact ⟨fun _ _ => rfl, nofun⟩
  · have hlen : expectedLength 0x01 (unit :: sel :: rest) = some (2 + selected (sel.getLsbD 0) 2 + selected (sel.getLsbD 1) 1) := rfl
    refine rejects_fixed hlen (fun h t => ?_) fun h hr t => ?_
    · have hn : rest.length ≠ selected (sel.getLsbD 0) 2 + selected (sel.getLsbD 1) 1 := by
        simp only [List.length_cons] at h
        omega
      simp only [takeSetRoute, parseRoute_none hn]
    · have hn : rest.length = selected (sel.getLsbD 0) 2 + selected (sel.getLsbD 1) 1 := by
        simp only [List.length_cons] at h
        omega
      obtain ⟨ports, cls, hb⟩ := routeBytes_of_length hn
      simp only [takeSetRoute, parseRoute_some hb, setRoute_outOfRange hb hr]

theorem rejects_setGroup (params : List Byte) : Rejects 0x08 params (takeSetGroup params) := by
  rcases params with _ | ⟨group, _ | ⟨sel, rest⟩⟩
  · exact ⟨fun _ _ => rfl, nofun⟩
  · exact ⟨fun _ _ => rfl, nofun⟩
  · rcases parseGroup_cases group sel rest with ⟨hp, hl⟩ | ⟨hl, hp⟩
    · exact ⟨fun _ t => by simp only [takeSetGroup, hp], fun h => absurd h hl⟩
    · exact ⟨fun h => absurd hl h, fun _ hr t => by simp only [takeSetGroup, hp, setGroup_outOfRange hr]⟩

theorem rejects_setPort (params : List Byte) : Rejects 0x10 params (takeSetPort params) := by
  rcases params with _ | ⟨port, _ | ⟨sel, l⟩⟩
  · exact ⟨fun _ _ => rfl, nofun⟩
  · exact ⟨fun _ _ => rfl, nofun⟩
  · have hlen : expectedLength 0x10 (port :: sel :: l) = some (2 + (List.range 8).countP sel.getLsbD) := by
      rw [← sum_selected]
      rfl
    refine rejects_fixed hlen (fun h t => ?_) fun h hr t => ?_
    · have hn : parsePort (port :: sel :: l) = none := by
        by_contra hs
        obtain ⟨r, hr⟩ := Option.ne_none_iff_exists'.mp hs
        have := parsePort_length hr
        simp only [List.length_cons] at h
        omega
      simp only [takeSetPort, hn]
    · have hn : l.length = (List.range 8).countP sel.getLsbD := by
        simp only [List.length_cons] at h
        omega
      simp only [takeSetPort, parsePort_fits hn, decodePort_outOfRange hr]

theorem rejects_setLine (params : List Byte) : Rejects 0x30 params (takeSetLine params) := by
  rcases params with _ | ⟨sel, l⟩
  · exact ⟨fun _ _ => rfl, nofun⟩
  · have hlen : expectedLength 0x30 (sel :: l) = some (1 + ((List.range 3).countP sel.getLsbD + selected (sel.getLsbD 3) 2)) := by
      rw [← sum_selected]
      simp only [List.range_succ, List.range_zero, List.map_append, List.map_cons, List.map_nil, List.sum_append,
        List.sum_cons, List.sum_nil, Nat.zero_add, Nat.add_zero, ← Nat.add_assoc]
      rfl
    refine rejects_fixed hlen (fun h t => ?_) fun h hr t => ?_
    · have hn : parseLine (sel :: l) = none := by
        by_contra hs
        obtain ⟨r, hr⟩ := Option.ne_none_iff_exists'.mp hs
        have := parseLine_length hr
        simp only [List.length_cons] at h
        omega
      simp only [takeSetLine, hn]
    · have hn : l.length = (List.range 3).countP sel.getLsbD + selected (sel.getLsbD 3) 2 := by
        simp only [List.length_cons] at h
        omega
      obtain ⟨r, hp, hd⟩ := setLine_outOfRange hn hr
      simp only [takeSetLine, hp, hd]

theorem rejects_setPass (params : List Byte) : Rejects 0x18 params (takeSetPass params) := by
  refine rejects_fixed (n := 3) rfl (fun h t => by simp only [takeSetPass, parsePass_eq_none h]) fun h hr t => ?_
  obtain ⟨port, hi, lo, rfl⟩ := List.length_eq_three.mp h
  have hd : decodePass (port, halfOf hi lo) = none := by
    rcases Bool.or_eq_true_iff.mp (show (outside 0 11 port || outside 0 1 hi) = true from hr) with hp | hh
    · simp only [decodePass, portOf_outside port hp]
    · have h1 : 1 < hi.toNat := by simpa [outside] using hh
      have hbig : ¬ (halfOf hi lo).toNat < 512 := by
        rw [toNat_halfOf]
        omega
      simp only [decodePass, if_neg hbig]
      split <;> rfl
  simp only [takeSetPass, parsePass, hd]

theorem rejects_setPosition (params : List Byte) : Rejects 0x20 params (takeSetPosition params) := by
  refine rejects_fixed (n := 3) rfl (fun h t => by simp only [takeSetPosition, parsePosition_eq_none h]) fun h hr t => ?_
  obtain ⟨k, reader, keypad, rfl⟩ := List.length_eq_three.mp h
  have hr' : ((outside 1 8 k || outside 0 24 reader || outside 0 24 keypad) || (reader != 0 && some reader == some keypad)) = true := hr
  simp only [Bool.or_eq_true] at hr'
  simp only [takeSetPosition, parsePosition]
  cases hk : posOf k with
  | none => rfl
  | some j =>
    have hd : decodeUnitsOfPosition reader keypad = none := by
      rcases hr' with ((h | h) | h) | h
      · rw [posOf_outside k h] at hk
        cases hk
      · simp only [decodeUnitsOfPosition, optUnitOf_outside reader h]
      · simp only [decodeUnitsOfPosition, optUnitOf_outside keypad h]
        cases optUnitOf reader <;> rfl
      · obtain ⟨h0, rfl⟩ : reader ≠ 0 ∧ reader = keypad := by simpa using h
        unfold decodeUnitsOfPosition
        split
        · rename_i r q hq hq'
          rw [hq] at hq'
          cases hq'
          refine if_pos ⟨rfl, ?_⟩
          rw [optUnitOf, if_neg h0, Option.map_eq_some_iff] at hq
          obtain ⟨u, -, rfl⟩ := hq
          rfl
        · rfl
    simp only [hd]

theorem rejects_readCounters (params : List Byte) : Rejects 0x39 params (takeReadCounters params) := by
  refine rejects_fixed (n := 2) rfl (fun h t => by simp only [takeReadCounters, parseCounters_eq_none h]) fun h hr t => ?_
  obtain ⟨sel, clear, rfl⟩ := List.length_eq_two.mp h
  have hr' : ((outside 0 11 sel && sel != 0xFF) || outside 0 1 clear) = true := hr
  simp only [takeReadCounters, parseCounters]
  rcases Bool.or_eq_true_iff.mp hr' with h | h
  · obtain ⟨ho, hf⟩ := Bool.and_eq_true_iff.mp h
    have hs : selectionOf sel = none := by
      rw [selectionOf, if_neg (by simpa using hf), portOf_outside sel ho]
      rfl
    simp only [hs]
  · simp only [boolOf_outside clear h]
    cases selectionOf sel <;> rfl

theorem rejects_openEntry (tag : Byte) (params : List Byte) : Rejects 0x28 params (takeOpenEntry tag params) := by
  refine rejects_fixed (n := 6) rfl (fun h t => by simp only [takeOpenEntry, parseEntry_eq_none h]) fun h hr t => ?_
  match params, h with
  | [k, mn, mx, fk, ik, c], _ => simp only [takeOpenEntry, parseEntry, posOf_outside k hr]

theorem rejects_restart (params : List Byte) : Rejects 0x3F params (takeRestart params) := by
  refine rejects_one rfl (fun h t => by simp only [takeRestart, h]) ?_
  rintro b rfl h t
  have h1 : b ≠ scopeTraffic := by
    rintro rfl
    cases h
  simp only [takeRestart, parseOne, if_neg h1]

theorem rejects_clearRoute (params : List Byte) : Rejects 0x02 params (takeClearRoute params) := by
  refine rejects_one rfl (fun h t => by simp only [takeClearRoute, h]) ?_
  rintro b rfl h t
  simp only [takeClearRoute, parseOne, unitOf_outside b h]

theorem rejects_readRoute (params : List Byte) : Rejects 0x03 params (takeReadRoute params) := by
  refine rejects_one rfl (fun h t => by simp only [takeReadRoute, h]) ?_
  rintro b rfl h t
  simp only [takeReadRoute, parseOne, unitOf_outside b h]

theorem rejects_readGroup (params : List Byte) : Rejects 0x09 params (takeReadGroup params) := by
  refine rejects_one rfl (fun h t => by simp only [takeReadGroup, h]) ?_
  rintro b rfl h t
  simp only [takeReadGroup, parseOne, groupOf_outside b h]

theorem rejects_readPort (params : List Byte) : Rejects 0x11 params (takeReadPort params) := by
  refine rejects_one rfl (fun h t => by simp only [takeReadPort, h]) ?_
  rintro b rfl h t
  simp only [takeReadPort, parseOne, portOf_outside b h]

theorem rejects_resetPort (params : List Byte) : Rejects 0x12 params (takeResetPort params) := by
  refine rejects_one rfl (fun h t => by simp only [takeResetPort, h]) ?_
  rintro b rfl h t
  simp only [takeResetPort, parseOne, portOf_outside b h]

theorem rejects_abortPort (params : List Byte) : Rejects 0x13 params (takeAbortPort params) := by
  refine rejects_one rfl (fun h t => by simp only [takeAbortPort, h]) ?_
  rintro b rfl h t
  simp only [takeAbortPort, parseOne, portOf_outside b h]

theorem rejects_setSessionLimit (params : List Byte) : Rejects 0x25 params (takeSetSessionLimit params) := by
  refine rejects_one rfl (fun h t => by simp only [takeSetSessionLimit, h]) ?_
  rintro b rfl h t
  have ho : b.toNat < 1 ∨ 4 < b.toNat := of_decide_eq_true h
  simp only [takeSetSessionLimit, parseOne, if_pos ho]

theorem rejects_readStatus (params : List Byte) : Rejects 0x38 params (takeReadStatus params) :=
  rejects_fixed (n := 0) rfl (fun h t => by simp only [takeReadStatus, parseNone_eq_none (List.length_eq_zero_iff.not.mp h)])
    fun _ hr => nomatch hr

theorem rejects_takeNotice (params : List Byte) : Rejects 0x3A params (takeTakeNotice params) :=
  rejects_fixed (n := 0) rfl (fun h t => by simp only [takeTakeNotice, parseNone_eq_none (List.length_eq_zero_iff.not.mp h)])
    fun _ hr => nomatch hr

theorem rejects_taking (h : code ∈ managementCodes) : Rejects code params (taking code tag params) :=
  forall_managementCodes (P := fun code => Rejects code params (taking code tag params))
    (rejects_setRoute params)
    (rejects_clearRoute params)
    (rejects_readRoute params)
    (rejects_setGroup params)
    (rejects_readGroup params)
    (rejects_setPort params)
    (rejects_readPort params)
    (rejects_resetPort params)
    (rejects_abortPort params)
    (rejects_setPass params)
    (rejects_setPosition params)
    (rejects_position rfl fun _ => rfl)
    (rejects_position rfl fun _ => rfl)
    (rejects_position rfl fun _ => rfl)
    (rejects_position rfl fun _ => rfl)
    (rejects_setSessionLimit params)
    (rejects_position rfl fun _ => rfl)
    (rejects_openEntry tag params)
    (rejects_position rfl fun _ => rfl)
    (rejects_setLine params)
    (rejects_readStatus params)
    (rejects_readCounters params)
    (rejects_takeNotice params)
    (rejects_restart params) code h

end

/-- Settles O42, by the code of the request: its length first, and then its ranges. -/
theorem discardsAndWrongLengths : Obligations.DiscardsAndWrongLengths := by
  unfold Obligations.DiscardsAndWrongLengths
  refine ⟨fun i tag code params s hr hslot => ?_, fun i tag code params s hr hslot => ?_⟩
  · rw [(exec_reserved hr s).2, manage_full s hslot]
  · obtain ⟨hcode, hrun⟩ := exec_reserved hr s
    obtain ⟨hlen, hrange⟩ := rejects_taking (tag := tag) (params := params) hcode
    rw [hrun]
    exact ⟨fun h => congrArg _ (manage_refuse hslot (hlen h _)), fun h ho => congrArg _ (manage_refuse hslot (hrange h ho _))⟩

end Sys2Proof.Machine
end

section
/-! SUPPORT. No taking of a management request places a CONTROL REPLY: the only new one is the reply to the request itself. -/

namespace Sys2Proof.Machine

/-! ### Steps that place no CONTROL REPLY -/

/-- From `s` to `t` the control queue gets no CONTROL REPLY. -/
def NoNewReply (s t : State) : Prop :=
  ∀ tag st result, ControlFrame.reply tag st result ∈ t.control → ControlFrame.reply tag st result ∈ s.control

section
variable {s t u : State}

theorem NoNewReply.refl (s : State) : NoNewReply s s := fun _ _ _ => id

theorem NoNewReply.trans (h : NoNewReply s t) (g : NoNewReply t u) : NoNewReply s u := fun tag st result hm => h _ _ _ (g tag st result hm)

theorem NoNewReply.of_control (h : t.control = s.control) : NoNewReply s t := fun _ _ _ hm => h ▸ hm

theorem NoNewReply.foldl {α : Type} {f : State → α → State} (hf : ∀ t a, NoNewReply t (f t a)) (l : List α) (s : State) :
    NoNewReply s (l.foldl f s) := by
  induction l generalizing s with
  | nil => exact .refl s
  | cons a l ih => exact (hf s a).trans (ih (f s a))

theorem EvalKept.noNewReply (h : EvalKept s t) : NoNewReply s t := by
  obtain ⟨l, hl, hends⟩ := h.control
  intro tag st result hm
  have hmem : ControlFrame.reply tag st result ∈ t.control.filter lasting := List.mem_filter.mpr ⟨hm, rfl⟩
  rw [hl, List.mem_append] at hmem
  rcases hmem with hmem | hmem
  · exact (List.mem_filter.mp hmem).1
  · obtain ⟨_, _, _, hf⟩ := hends _ hmem
    cases hf

theorem noNewReply_evaluate (u : UnitId) (s : State) : NoNewReply s (evaluate u s) := (evalKept_evaluate u s).noNewReply

theorem noNewReply_raiseNotice (n : Notice) (s : State) : NoNewReply s (raiseNotice n s) := .of_control (by rw [raiseNotice_frame])

theorem mem_controlInFlight {f : ControlFrame} (h : f ∈ controlInFlight s) : f ∈ s.control := by
  unfold controlInFlight at h
  split at h
  · exact List.mem_of_mem_take h
  · cases h

theorem mem_controlWaiting {f : ControlFrame} (h : f ∈ controlWaiting s) : f ∈ s.control := by
  unfold controlWaiting at h
  split at h
  · exact List.mem_of_mem_drop h
  · exact h

theorem noNewReply_endEntry (k : PosId) (o : EntryOutcome) (c : EntryCause) (st : Byte) (d : List Byte) (s : State) :
    NoNewReply s (endEntry k o c st d s) := by
  cases he : s.positions[k].entry with
  | none => exact .of_control (by simp only [endEntry, he])
  | some e =>
    rw [endEntry_but_lamps o c st d he]
    intro tag st' result hm
    have hm' : ControlFrame.reply tag st' result ∈ controlInFlight s ++ (controlWaiting s).filter (fun f => !isProgressOf k f) ++
        [.entryEnd k s.positions[k].session o c st d] := hm
    simp only [List.mem_append, List.mem_filter, List.mem_singleton, reduceCtorEq, or_false] at hm'
    exact hm'.elim mem_controlInFlight fun h => mem_controlWaiting h.1

theorem noNewReply_reportToGroup (group : Option Byte) (s : State) : NoNewReply s (reportToGroup group s) := by
  cases group with
  | none => exact .refl s
  | some tag =>
    show NoNewReply s (memberEnded tag s)
    unfold memberEnded
    split
    · exact .refl s
    · dsimp only
      unfold placeGroupEnd
      split
      · intro tag' st result hm
        simpa [placeReserved, groupEndFrame] using hm
      · exact .refl s

theorem noNewReply_endDelivery (i : RecId) (st : EndStatus) (status : Byte) (data : List Byte) (s : State) :
    NoNewReply s (endDelivery i st status data s) := by
  unfold endDelivery
  dsimp only
  split
  · exact noNewReply_endEntry _ _ _ _ _ (freeRecord i s)
  · exact .refl s

theorem noNewReply_endExchange (i : RecId) (st : EndStatus) (status : Byte) (data : List Byte) (s : State) :
    NoNewReply s (endExchange i st status data s) := by
  unfold endExchange
  split
  · exact .refl s
  · rename_i p _
    have told : NoNewReply s (reportToGroup s.pool[i].group (reportToPort p i st (modRec i (fun r =>
        { r with endStatus := some st, deviceStatus := status, replyData := data, deadline := none }) s))) :=
      .trans (.of_control rfl) (noNewReply_reportToGroup _ _)
    dsimp only
    generalize reportToGroup s.pool[i].group (reportToPort p i st _) = t at told ⊢
    split
    · exact told.trans (noNewReply_endDelivery i st status data t)
    · exact told.trans (.of_control rfl)

theorem noNewReply_dropOrphan (i : RecId) (s : State) : NoNewReply s (dropOrphan i s) := by
  unfold dropOrphan
  split
  · exact .refl s
  · exact .refl s

theorem noNewReply_orphan (i : RecId) (s : State) : NoNewReply s (orphan i s) := by
  unfold orphan
  split
  · exact .refl s
  · split
    · exact noNewReply_dropOrphan i s
    · exact .refl s

theorem noNewReply_withdrawQueued (i : RecId) (s : State) : NoNewReply s (withdrawQueued i s) := by
  unfold withdrawQueued
  split
  · exact .refl s
  · exact .refl s

theorem noNewReply_departIf (r : Bool) (p : PortId) (st : EndStatus) (s : State) : NoNewReply s (departIf r p st s) := by
  unfold departIf
  split
  · have inFlight : NoNewReply s (endInFlight p st s) := by
      unfold endInFlight
      split
      · exact .refl s
      · split
        · exact noNewReply_dropOrphan _ s
        · exact noNewReply_endExchange _ st 0 [] s
    have queued (t : State) : NoNewReply t (endQueued p st t) :=
      NoNewReply.trans (t := modPort p (fun q => { q with queue := [] }) t) (.refl t)
        (.foldl (fun t i => noNewReply_endExchange i st 0 [] t) _ _)
    have card (t : State) : NoNewReply t (clearCard p t) := by
      unfold clearCard
      split
      · exact .refl t
      · split
        · exact .refl t
        · exact .refl t
    exact ((inFlight.trans (queued _)).trans (evalKept_reevaluate p _).noNewReply).trans (card _)
  · exact .refl s

/-! ### The takings of the requests -/

theorem noNewReply_takeSetRoute (params : List Byte) (s : State) : NoNewReply s (takeSetRoute params s).1 := by
  have mismatch (c : ExpectedClass) (p : PortId) (t : State) : NoNewReply t (mismatchAt c p t) := by
    unfold mismatchAt
    split
    · exact noNewReply_raiseNotice _ t
    · exact .refl t
  have report (u : UnitId) (t : State) : NoNewReply t (reportMismatch u t) := by
    unfold reportMismatch
    dsimp only
    split
    · split
      · exact (mismatch _ _ _).trans (mismatch _ _ _)
      · exact mismatch _ _ _
    · exact .refl t
  have written (w : RouteWrite) : (writeClass w (writePorts w s)).control = s.control := by
    have hp : (writePorts w s).control = s.control := by
      unfold writePorts
      split
      · rfl
      · rfl
    unfold writeClass
    split
    · exact hp
    · exact hp
  unfold takeSetRoute
  split
  · exact .refl s
  · split
    · exact .refl s
    · rename_i w _
      unfold applyRoute
      split
      · exact .refl s
      · split
        · exact .refl s
        · exact (NoNewReply.of_control (written w)).trans (report w.unit _)

theorem noNewReply_takeClearRoute (params : List Byte) (s : State) : NoNewReply s (takeClearRoute params s).1 := by
  unfold takeClearRoute
  split
  · exact .refl s
  · split
    · exact .refl s
    · split
      · exact .refl s
      · exact .refl s

theorem noNewReply_takeReadRoute (params : List Byte) (s : State) : NoNewReply s (takeReadRoute params s).1 := by
  unfold takeReadRoute
  split
  · exact .refl s
  · split
    · exact .refl s
    · exact .refl s

theorem noNewReply_takeSetGroup (params : List Byte) (s : State) : NoNewReply s (takeSetGroup params s).1 := by
  unfold takeSetGroup
  split
  · exact .refl s
  · split
    · exact .refl s
    · exact .refl s

theorem noNewReply_takeReadGroup (params : List Byte) (s : State) : NoNewReply s (takeReadGroup params s).1 := by
  unfold takeReadGroup
  split
  · exact .refl s
  · split
    · exact .refl s
    · exact .refl s

theorem noNewReply_takeSetPort (params : List Byte) (s : State) : NoNewReply s (takeSetPort params s).1 := by
  have off (p : PortId) (t : State) : NoNewReply t (powerOff p t) := by
    unfold powerOff
    split
    · exact .refl t
    · exact NoNewReply.trans (t := modPort p switchOff t) (.refl t) (noNewReply_departIf _ p .detached _)
  have power (w : PortWrite) (t : State) : NoNewReply t (applyPower w t) := by
    unfold applyPower
    split
    · exact off w.port t
    · exact .refl t
    · exact .refl t
  unfold takeSetPort
  split
  · exact .refl s
  · split
    · exact .refl s
    · rename_i w _
      split
      · exact .refl s
      · exact NoNewReply.trans (t := modPort w.port (storeSettings w) s) (.refl s) (power w _)

theorem noNewReply_takeReadPort (params : List Byte) (s : State) : NoNewReply s (takeReadPort params s).1 := by
  unfold takeReadPort
  split
  · exact .refl s
  · split
    · exact .refl s
    · exact .refl s

theorem noNewReply_takeResetPort (params : List Byte) (s : State) : NoNewReply s (takeResetPort params s).1 := by
  unfold takeResetPort
  split
  · exact .refl s
  · split
    · exact .refl s
    · rename_i p _
      split
      · exact .refl s
      · exact NoNewReply.trans (t := modPort p startPulse s) (.refl s) (noNewReply_departIf _ p .reset _)

theorem noNewReply_takeAbortPort (params : List Byte) (s : State) : NoNewReply s (takeAbortPort params s).1 := by
  unfold takeAbortPort
  split
  · exact .refl s
  · split
    · exact .refl s
    · rename_i p _
      exact NoNewReply.trans (t := modPort p (fun r => { r with queue := s.ports[p].queue.filter fun i => !isWorkstation s i }) s)
        (.refl s) (.foldl (fun t i => noNewReply_endExchange i .aborted 0 [] t) _ _)

theorem noNewReply_takeSetPass (params : List Byte) (s : State) : NoNewReply s (takeSetPass params s).1 := by
  unfold takeSetPass
  split
  · exact .refl s
  · split
    · exact .refl s
    · exact .refl s

theorem noNewReply_takeSetPosition (params : List Byte) (s : State) : NoNewReply s (takeSetPosition params s).1 := by
  have asked (u : Option UnitId) (t : State) : NoNewReply t (askRoute u t) := by
    unfold askRoute
    split
    · split
      · exact noNewReply_raiseNotice _ t
      · exact .refl t
    · exact .refl t
  have both (reader keypad : Option UnitId) : NoNewReply s (askRoute keypad (askRoute reader s)) := (asked reader s).trans (asked keypad _)
  have checked (k : PosId) (reader keypad : Option UnitId) : NoNewReply s (checkUnits k reader keypad s).1 := by
    unfold checkUnits
    dsimp only
    split
    · exact both reader keypad
    · split
      · exact both reader keypad
      · split
        · exact both reader keypad
        · split
          · exact both reader keypad
          · exact both reader keypad
  unfold takeSetPosition
  split
  · exact .refl s
  · split
    · exact .refl s
    · split
      · exact .refl s
      · split
        · exact .refl s
        · exact checked _ _ _

theorem noNewReply_withPosition {act : PosId → State → State × Answer} (h : ∀ k t, NoNewReply t (act k t).1) (params : List Byte)
    (s : State) : NoNewReply s (withPosition params act s).1 := by
  unfold withPosition
  split
  · exact .refl s
  · split
    · exact .refl s
    · exact h _ s

theorem noNewReply_openThePosition (k : PosId) (s : State) : NoNewReply s (openThePosition k s).1 := by
  unfold openThePosition
  split
  · exact .refl s
  · exact .refl s
  · split
    · exact .refl s
    · exact .refl s

theorem noNewReply_closeThePosition (k : PosId) (s : State) : NoNewReply s (closeThePosition k s).1 := by
  unfold closeThePosition
  split
  · exact .refl s
  · exact .refl s
  · exact .refl s

theorem noNewReply_openTheSession (k : PosId) (s : State) : NoNewReply s (openTheSession k s).1 := by
  unfold openTheSession
  split
  · exact .refl s
  · split
    · exact .refl s
    · exact .refl s

theorem noNewReply_closeTheSession (k : PosId) (s : State) : NoNewReply s (closeTheSession k s).1 := by
  have delivery (i : RecId) : NoNewReply s (abandonDelivery i s) := by
    unfold abandonDelivery
    split
    · exact noNewReply_withdrawQueued i s
    · exact noNewReply_orphan i s
    · exact noNewReply_orphan i s
    · exact .refl s
  have closed : NoNewReply s (closeEntry k s) := by
    unfold closeEntry
    split
    · exact .refl s
    · dsimp only
      split
      · exact (delivery _).trans (noNewReply_endEntry k .abandoned .sessionClosed 0 [] _)
      · exact noNewReply_endEntry k .abandoned .sessionClosed 0 [] s
  unfold closeTheSession
  split
  · exact .refl s
  · exact closed

theorem noNewReply_takeSetSessionLimit (params : List Byte) (s : State) : NoNewReply s (takeSetSessionLimit params s).1 := by
  unfold takeSetSessionLimit
  split
  · exact .refl s
  · split
    · exact .refl s
    · split
      · exact .refl s
      · exact .refl s

theorem noNewReply_takeOpenEntry (tag : Byte) (params : List Byte) (s : State) : NoNewReply s (takeOpenEntry tag params s).1 := by
  have tested (u : Option UnitId) (t : State) : NoNewReply t (evaluateUnit u t) := by
    cases u with
    | none => exact .refl t
    | some v => exact noNewReply_evaluate v t
  have admitted (k : PosId) (r : EntryParams) (t : State) : NoNewReply t (admitEntry k r tag t).1 := by
    unfold admitEntry
    split
    · exact .refl t
    · split
      · exact .refl t
      · exact .refl t
  have checked (k : PosId) (r : EntryParams) : NoNewReply s (checkEntry k r tag s).1 := by
    unfold checkEntry
    dsimp only
    split
    · exact .refl s
    · split
      · exact .refl s
      · split
        · exact .refl s
        · split
          · exact ((tested _ s).trans (tested _ _)).trans (admitted k r _)
          · exact (tested _ s).trans (tested _ _)
  unfold takeOpenEntry
  split
  · exact .refl s
  · split
    · exact .refl s
    · exact checked _ _

theorem noNewReply_cancelTheEntry (k : PosId) (s : State) : NoNewReply s (cancelTheEntry k s).1 := by
  unfold cancelTheEntry
  split
  · exact .refl s
  · split
    · exact .refl s
    · split
      · exact noNewReply_endEntry k .cancelled .request 0 [] s
      · split
        · exact (noNewReply_withdrawQueued _ s).trans (noNewReply_endEntry k .cancelled .request 0 [] _)
        · exact .refl s

theorem noNewReply_takeSetLine (params : List Byte) (s : State) : NoNewReply s (takeSetLine params s).1 := by
  unfold takeSetLine
  split
  · exact .refl s
  · split
    · exact .refl s
    · exact .refl s

theorem noNewReply_takeReadStatus (params : List Byte) (s : State) : NoNewReply s (takeReadStatus params s).1 := by
  unfold takeReadStatus
  split
  · exact .refl s
  · exact .refl s

theorem noNewReply_takeReadCounters (params : List Byte) (s : State) : NoNewReply s (takeReadCounters params s).1 := by
  have cleared (sel : CounterSelection) : (clearCounters sel s).control = s.control := by
    cases sel with
    | port p => rfl
    | link => rfl
  unfold takeReadCounters
  split
  · exact .refl s
  · split
    · dsimp only
      split
      · exact .of_control (cleared _)
      · exact .refl s
    · exact .refl s

theorem noNewReply_takeTakeNotice (params : List Byte) (s : State) : NoNewReply s (takeTakeNotice params s).1 := by
  have changed (n : Notice) (t : State) : (noticeChanged n t).control = t.control := by
    cases n <;> rfl
  unfold takeTakeNotice
  split
  · exact .refl s
  · unfold takeTheNotice
    split
    · exact .refl s
    · exact .of_control (changed _ _)

theorem noNewReply_counterRestart (kept : Nat) (s : State) : NoNewReply s (counterRestart kept s) := by
  have record (t : State) (i : RecId) : NoNewReply t (restartRecord i t) := by
    unfold restartRecord
    split
    · exact .refl t
    · exact .refl t
    · split
      · exact .refl t
      · exact .refl t
    · exact noNewReply_orphan i t
    · exact noNewReply_orphan i t
    · exact .refl t
    · exact .refl t
  unfold counterRestart
  dsimp only
  have h1 := NoNewReply.foldl record (List.finRange 24) s
  generalize (List.finRange 24).foldl (fun t i => restartRecord i t) s = s1 at h1 ⊢
  have h2 := NoNewReply.foldl (f := fun t p => restartPort p t) (fun t p => .of_control rfl) (List.finRange 12) s1
  generalize (List.finRange 12).foldl (fun t p => restartPort p t) s1 = s2 at h2 ⊢
  have h3 := NoNewReply.foldl (f := fun t k => restartPosition k t) (fun t k => .of_control rfl) (List.finRange 8) s2
  generalize (List.finRange 8).foldl (fun t k => restartPosition k t) s2 = s3 at h3 ⊢
  exact fun tag st result hm => ((h1.trans h2).trans h3) tag st result (mem_controlInFlight hm)

theorem noNewReply_takeRestart (params : List Byte) (s : State) : NoNewReply s (takeRestart params s).1 := by
  unfold takeRestart
  split
  · exact .refl s
  · split
    · exact noNewReply_counterRestart 1 s
    · exact .refl s

theorem noNewReply_taking {code : Byte} (tag : Byte) (params : List Byte) (h : code ∈ managementCodes) (s : State) :
    NoNewReply s (taking code tag params s).1 :=
  forall_managementCodes (P := fun code => NoNewReply s (taking code tag params s).1)
    (noNewReply_takeSetRoute params s) (noNewReply_takeClearRoute params s) (noNewReply_takeReadRoute params s)
    (noNewReply_takeSetGroup params s) (noNewReply_takeReadGroup params s) (noNewReply_takeSetPort params s)
    (noNewReply_takeReadPort params s) (noNewReply_takeResetPort params s) (noNewReply_takeAbortPort params s)
    (noNewReply_takeSetPass params s) (noNewReply_takeSetPosition params s)
    (noNewReply_withPosition noNewReply_openThePosition params s) (noNewReply_withPosition noNewReply_closeThePosition params s)
    (noNewReply_withPosition noNewReply_openTheSession params s) (noNewReply_withPosition noNewReply_closeTheSession params s)
    (noNewReply_takeSetSessionLimit params s)
    (noNewReply_withPosition (act := readThePosition) (fun _ t => .refl t) params s) (noNewReply_takeOpenEntry tag params s)
    (noNewReply_withPosition noNewReply_cancelTheEntry params s) (noNewReply_takeSetLine params s) (noNewReply_takeReadStatus params s)
    (noNewReply_takeReadCounters params s) (noNewReply_takeTakeNotice params s) (noNewReply_takeRestart params s) code h

end

/-- Settles O43, by the taking of the request, which places no reply, and the reply that fills the reserved slot. -/
theorem everyRequestHasOneReply : Obligations.EveryRequestHasOneReply := by
  unfold Obligations.EveryRequestHasOneReply
  intro i tag code params s hr hslot
  obtain ⟨hcode, hrun⟩ := exec_reserved hr s
  have hnew := noNewReply_taking tag params hcode (reserveSlot s)
  rw [manage_slot s hslot] at hrun
  generalize taking code tag params (reserveSlot s) = taken at hrun hnew
  obtain ⟨t, answer⟩ := taken
  cases answer with
  | ok result => exact ⟨_, .ok, result, t.control, hrun, rfl, fun h => absurd rfl h, rfl, hnew⟩
  | refuse st => exact ⟨_, st, [], t.control, hrun, rfl, fun _ => rfl, rfl, hnew⟩

end Sys2Proof.Machine
end

section
/-! SUPPORT. The state after power-up, COLD_RESET and RESTART_ALL. -/

namespace Sys2Proof.Machine

theorem reset_port (p : PortId) : State.reset.ports[p] = coldPort false := by
  rw [State.reset, cold_port]
  simp

theorem cold_group {rate : LineRate} {wready : Bool} {present : Vector Bool 12} {tx : Transmitter} {cause : StartCause}
    {pending : List Instr} {draws : Nat} (g : GroupId) : (State.cold rate wready present tx cause pending draws).groups[g] = coldGroup := by
  simp [State.cold]

/-- The ports after a reset that holds the levels of DPRESn (R48, R168). -/
theorem coldPort_present (s : State) : (Vector.ofFn fun p : PortId => coldPort (presentPins s)[p]) =
    Vector.ofFn fun p : PortId => if s.ports[p].present then
        { State.reset.ports[p] with present := true, state := .settling, settle := some 100 }
      else { State.reset.ports[p] with present := false, state := .empty, settle := none } := by
  refine congrArg Vector.ofFn (funext fun p => ?_)
  have hp : (presentPins s)[p] = s.ports[p].present := by simp [presentPins]
  rw [hp, reset_port]
  cases s.ports[p].present <;> rfl

/-- Settles O2: the cold values table by table, and the two resets, which differ from them in what they keep. -/
theorem resetValues : Obligations.ResetValues := by
  unfold Obligations.ResetValues
  refine ⟨⟨⟨rfl, rfl, rfl, rfl, rfl, rfl, rfl, rfl, rfl, rfl, rfl⟩,
    fun _ => cold_route .., fun _ => cold_owner .., fun p => ?_,
    fun _ => cold_pool .., cold_group, rfl, fun _ => cold_position .., rfl, rfl, rfl, rfl⟩, fun cause r1 r0 s => congrArg Host.Outcome.next ?_,
    fun cause r1 r0 tag s => ⟨_, rfl, congrArg Host.Outcome.next ?_⟩⟩
  · rw [reset_port]
    exact ⟨rfl, rfl, rfl, rfl, rfl, rfl, rfl, rfl, rfl, rfl, rfl, rfl, rfl, rfl, rfl, rfl, rfl⟩
  · rw [← coldPort_present]
    cases r1 <;> cases r0 <;> rfl
  · show restartSilence (restartEverything s) = _
    unfold restartEverything
    cases s.tx <;> rfl

end Sys2Proof.Machine
end
